-- ==== Sys2Proof/Word.lean ====
section
/-! DEFINITION. The words of the part: bytes, seconds counts, and small fixed families of like things. -/

namespace Sys2Proof

/-- A byte of the exchange memory, of the host port or of a lane link frame. -/
abbrev Byte := BitVec 8

/-- A 32-bit seconds count: uptime or clock seconds (R185). -/
abbrev Seconds := BitVec 32

/-- Two like things, one for each call point or context. -/
structure Duo (α : Type) where
  c0 : α
  c1 : α
deriving DecidableEq, Repr

/-- Four like things, one for each lane. -/
structure Quad (α : Type) where
  l0 : α
  l1 : α
  l2 : α
  l3 : α
deriving DecidableEq, Repr

end Sys2Proof
end

