-- ==== Sys2Proof/Config.lean ====
section
/-! DEFINITION. What the part fixes: the region map of the exchange memory (R150, 9.2, 12.2 to 12.10), the offsets of
the settings, and the fixed times. The part has no value that the spec leaves undefined after an event, so this file
holds no free value (log entry 36). -/

namespace Sys2Proof.Config

/-- Size of the exchange memory: 8 KiB. -/
def memSize : Nat := 0x2000
/-- Part status block (12.3). -/
def statusBase : Nat := 0x0000
/-- Order slots (12.4). -/
def slotBase : Nat := 0x0100
/-- Settings block (12.5). -/
def settingsBase : Nat := 0x0200
/-- Plan staging (12.6). -/
def planBase : Nat := 0x0400
/-- Matrix staging (12.7). -/
def matrixBase : Nat := 0x0500
/-- Lane status blocks (12.8). -/
def laneBase : Nat := 0x0600
/-- Candidate mirror (12.9). -/
def mirrorBase : Nat := 0x0700
/-- First host scratch region. -/
def scratchBase : Nat := 0x0A00
/-- Call records (12.10). -/
def recordBase : Nat := 0x1000
/-- Second host scratch region. -/
def scratch2Base : Nat := 0x1C00

/-- The candidate table holds at most 24 entries (R49). -/
def tableSize : Nat := 24
/-- A record's history holds at most 8 entries (R143). -/
def historySize : Nat := 8
/-- Moves allowed in one stay in SELECTING (R32). -/
def moveLimit : Nat := 16
/-- Response timeout of the lane link, in milliseconds (R101). -/
def responseMs : Nat := 500
/-- One identity read, in milliseconds (R87). -/
def identityMs : Nat := 10
/-- Play allowance of one digit of a burst, in milliseconds (R114). -/
def toneMs : Nat := 150
/-- Seconds READY after which restarts returns to 0 (R98). -/
def restartsResetSeconds : Nat := 600
/-- Seconds between score ticks (R62). -/
def tickSeconds : Nat := 16

end Sys2Proof.Config
end

