-- ==== Sys2Proof/Syntax.lean ====
section
/-! DEFINITION. The commands: one constructor of Instr for each row of spec/opcode_table.json, with the operands the
row's rule needs (the table itself gives none). -/

namespace Sys2Proof

/-- A radio lane, 0 to 3. -/
inductive Lane where
  | l0 | l1 | l2 | l3
deriving DecidableEq, Repr

/-- A call point, and the call context that serves it: CP0 with CC0, CP1 with CC1. -/
inductive Cp where
  | p0 | p1
deriving DecidableEq, Repr

/-- A response frame of the lane link (12.11): lane address, tag, status, cause and the data bytes; the data length is
the length of the list. -/
structure ResponseFrame where
  lane   : Byte
  tag    : Byte
  status : Byte
  cause  : Byte
  data   : List Byte
deriving DecidableEq, Repr

/-- The commands of the part. -/
inductive Instr where
  /-- POWER_ON (R162). -/
  | powerOn
  /-- RESETN_FALL (R162): the RESETn pin falls. -/
  | resetnFall
  /-- RESETN_RISE (R162): the RESETn pin rises. -/
  | resetnRise
  /-- PART_RESET (R162): a CONTROL byte with PART_RESET set. -/
  | partReset
  /-- PORT_RESET (R161): a CONTROL byte with PORT_RESET set. -/
  | portReset
  /-- PTR_WRITE (R149): a data byte written to PTR_A or PTR_B. -/
  | ptrWrite (b : Byte)
  /-- DATA_WRITE (R151): a data byte written through DATA_A or DATA_B. -/
  | dataWrite (b : Byte)
  /-- DATA_READ (R154): a data byte read through DATA_A or DATA_B. -/
  | dataRead
  /-- ATTENTION_WRITE (R158): a data byte written to ATTENTION. -/
  | attentionWrite (b : Byte)
  /-- ATTN_MASK_WRITE (R149): a data byte written to ATTN_MASK. -/
  | attnMaskWrite (b : Byte)
  /-- IGNORED_REGISTER_WRITE (R149): a byte written to PART_STATE, or to CONTROL with no action bit. -/
  | ignoredRegisterWrite (b : Byte)
  /-- ORDER_WITHDRAWAL (R168): the order unit takes the withdrawal of a slot. -/
  | orderWithdrawal (slot : Fin 8)
  /-- SET_TIME (R173), as every order below: taken from the front of the posted list (R166). -/
  | setTime
  /-- PLACE_CALL (R171). -/
  | placeCall
  /-- CANCEL_CALL (R171). -/
  | cancelCall
  /-- CONTINUE (R17). -/
  | continueCall
  /-- LOAD_PLAN (R48). -/
  | loadPlan
  /-- LOAD_MATRIX (R132). -/
  | loadMatrix
  /-- SURVEY_NOW (R82). -/
  | surveyNow
  /-- FORGET_CANDIDATES (R67). -/
  | forgetCandidates
  /-- LANE_CONTROL_RESET (R99). -/
  | laneControlReset
  /-- LANE_CONTROL_FORCE_OFF (R99). -/
  | laneControlForceOff
  /-- LANE_CONTROL_AUTO (R99). -/
  | laneControlAuto
  /-- SET_POWER (R182), to ACTIVE or QUIET. -/
  | setPower
  /-- SET_POWER_DORMANT (R183). -/
  | setPowerDormant
  /-- CLEAR_COUNTS (R173). -/
  | clearCounts
  /-- UNKNOWN_ORDER (R170). -/
  | unknownOrder
  /-- FIELD_LINE_CHANGE (R122): the pin of a field line takes a level. -/
  | fieldLineChange (line : Fin 12) (level : Bool)
  /-- DEBOUNCE_EXPIRY (R122). -/
  | debounceExpiry (line : Fin 12)
  /-- CALL_CPN (R128): a CALL_CPn trigger event is taken. -/
  | callCpn (n : Cp)
  /-- CANCEL_CPN (R12): a CANCEL_CPn trigger event is taken. -/
  | cancelCpn (n : Cp)
  /-- TAMPER (R129). -/
  | tamper
  /-- WAKE (R129). -/
  | wake
  /-- ATTACH_TIMEOUT (R27). -/
  | attachTimeout (n : Cp)
  /-- ALERT_TIMEOUT (R27). -/
  | alertTimeout (n : Cp)
  /-- RING_TIMEOUT (R27). -/
  | ringTimeout (n : Cp)
  /-- PAUSE_EXPIRY (R39). -/
  | pauseExpiry (n : Cp)
  /-- RETRY_PAUSE_EXPIRY (R40). -/
  | retryPauseExpiry (n : Cp)
  /-- SURVEY_WAIT_EXPIRY (R39). -/
  | surveyWaitExpiry (n : Cp)
  /-- LOCATION_DELAY_EXPIRY (R112). -/
  | locationDelayExpiry (n : Cp)
  /-- PACING_EXPIRY (R114). -/
  | pacingExpiry (n : Cp)
  /-- CALLBACK_WINDOW_EXPIRY (R24). -/
  | callbackWindowExpiry (n : Cp)
  /-- FLASH_PHASE (R118): a phase of the CONNECTING lamp's flash ends. -/
  | flashPhase (n : Cp)
  /-- RINGER_CADENCE (R118): a phase of the ringer cadence ends. -/
  | ringerCadence (n : Cp)
  /-- RESPONSE_FRAME (R101): a response frame arrives on the lane link. -/
  | responseFrame (f : ResponseFrame)
  /-- RESPONSE_TIMEOUT (R101). -/
  | responseTimeout
  /-- EVENT_LINE_CHANGE (R102): a lane's event line is sampled asserted or de-asserted. -/
  | eventLineChange (l : Lane) (asserted : Bool)
  /-- START_TIMEOUT (R92). -/
  | startTimeout (l : Lane)
  /-- RESTART_TIMER_EXPIRY (R98). -/
  | restartTimerExpiry (l : Lane)
  /-- PROBE_TIMER_EXPIRY (R95). -/
  | probeTimerExpiry (l : Lane)
  /-- RESTARTS_RESET (R98). -/
  | restartsReset (l : Lane)
  /-- IDENTITY_READ (R87): a read ends with the levels s3 to s0 on the lane's sense lines. -/
  | identityRead (l : Lane) (sense : BitVec 4)
  /-- SURVEY_DUE (R73). -/
  | surveyDue (l : Lane)
  /-- SCAN_TIMEOUT (R79). -/
  | scanTimeout (l : Lane)
  /-- SCORE_TICK (R62). -/
  | scoreTick
  /-- BAR_LIFT (R63). -/
  | barLift
  /-- FAIL_DECAY (R64). -/
  | failDecay
  /-- LIFETIME_REMOVAL (R65). -/
  | lifetimeRemoval
  /-- MEASUREMENT_EXPIRY (R177), with the codes the two converters give. -/
  | measurementExpiry (battery temperature : BitVec 16)
  /-- UPTIME_SECOND (R185). -/
  | uptimeSecond
  /-- REGISTER_SELECT_BYTE (R148). -/
  | registerSelectByte (b : Byte)
  /-- HOST_TRANSACTION_END (R154). -/
  | hostTransactionEnd
deriving DecidableEq, Repr

end Sys2Proof
end

