-- ==== Sys2Proof/WellFormed.lean ====
section
/-! DEFINITION. Which commands can be sent at all. The types of the operands bound every operand but one: the data
length of a response frame is one byte (12.11). -/

namespace Sys2Proof

/-- A response frame's data length is carried in one byte. -/
def ResponseFrame.lengthFits (f : ResponseFrame) : Bool := decide (f.data.length ≤ 255)

/-- A command whose operands the spec's formats can carry. -/
def Instr.wellFormed : Instr → Bool
  | .responseFrame f => f.lengthFits
  | .powerOn | .resetnFall | .resetnRise | .partReset | .portReset | .ptrWrite _ | .dataWrite _ | .dataRead
  | .attentionWrite _ | .attnMaskWrite _ | .ignoredRegisterWrite _ | .orderWithdrawal _ | .setTime | .placeCall
  | .cancelCall | .continueCall | .loadPlan | .loadMatrix | .surveyNow | .forgetCandidates | .laneControlReset
  | .laneControlForceOff | .laneControlAuto | .setPower | .setPowerDormant | .clearCounts | .unknownOrder
  | .fieldLineChange _ _ | .debounceExpiry _ | .callCpn _ | .cancelCpn _ | .tamper | .wake | .attachTimeout _
  | .alertTimeout _ | .ringTimeout _ | .pauseExpiry _ | .retryPauseExpiry _ | .surveyWaitExpiry _
  | .locationDelayExpiry _ | .pacingExpiry _ | .callbackWindowExpiry _ | .flashPhase _ | .ringerCadence _
  | .responseTimeout | .eventLineChange _ _ | .startTimeout _ | .restartTimerExpiry _ | .probeTimerExpiry _
  | .restartsReset _ | .identityRead _ _ | .surveyDue _ | .scanTimeout _ | .scoreTick | .barLift | .failDecay
  | .lifetimeRemoval | .measurementExpiry _ _ | .uptimeSecond | .registerSelectByte _ | .hostTransactionEnd => true

end Sys2Proof
end

