-- ==== Sys2Proof/Machine/Arith.lean ====
section
/-! DEFINITION. The arithmetic of the part: clamping, saturating counts, seconds modulo 2^32 (R56, R185), digits and
bytes (R187), and access to the families of two and four. -/

namespace Sys2Proof.Machine

/-- "Clamped to [lo, hi]" on counts. -/
def clamp (lo hi n : Nat) : Nat := if n < lo then lo else if hi < n then hi else n

/-- "Clamped to [lo, hi]" on signed values. -/
def clampInt (lo hi n : Int) : Int := if n < lo then lo else if hi < n then hi else n

/-- One more, stopping at the largest value ("saturating"). -/
def satInc (limit n : Nat) : Nat := if n < limit then n + 1 else limit

/-- Seconds since an earlier uptime, modulo 2^32 (R56). -/
def elapsed (now since : Seconds) : Nat := (now - since).toNat

/-- Uptime has reached a time of expiry, across the wrap of uptime (R27, R72). -/
def reached (now expiry : Seconds) : Bool := decide ((now - expiry).toNat < 2147483648)

/-- A running timer whose time of expiry has been reached; a stopped timer does not expire (R27). -/
def expired (now : Seconds) : Option Seconds → Bool
  | none => false
  | some e => reached now e

/-- A running timer on the millisecond count whose time has come (R185). -/
def expiredMs (now : Nat) : Option Nat → Bool
  | none => false
  | some e => decide (e ≤ now)

/-- The uptime d seconds from now (R27). -/
def later (now : Seconds) (d : Nat) : Seconds := now + BitVec.ofNat 32 d

/-- A list of bits as a number, the first bit least significant. -/
def packBits : List Bool → Nat
  | [] => 0
  | b :: bs => (if b then 1 else 0) + 2 * packBits bs

/-- A number as n bytes, least significant first (R187, byte order). -/
def bytesOf : Nat → Nat → List Byte
  | 0, _ => []
  | n + 1, v => BitVec.ofNat 8 v :: bytesOf n (v / 256)

/-- Bytes as a number, least significant first. -/
def natOf : List Byte → Nat
  | [] => 0
  | b :: bs => b.toNat + 256 * natOf bs

/-- Packed digits, first digit in the low nibble (R187, digit strings). -/
def digitsOf : List Byte → List Nat
  | [] => []
  | b :: bs => b.toNat % 16 :: b.toNat / 16 :: digitsOf bs

/-- Digits packed two to a byte into n bytes; R187 leaves the places beyond the last digit open, they are 0 here (DESIGN
CHOICE, log entry 54). -/
def packDigits : Nat → List Nat → List Byte
  | 0, _ => []
  | n + 1, d :: e :: ds => BitVec.ofNat 8 (d % 16 + 16 * (e % 16)) :: packDigits n ds
  | n + 1, [d] => BitVec.ofNat 8 (d % 16) :: packDigits n []
  | n + 1, [] => 0 :: packDigits n []

/-- Two's complement in 16 bits (R187). -/
def signed16 (v : Int) : Nat := (BitVec.ofInt 16 v).toNat

/-- A byte for a flag. -/
def flagByte (b : Bool) : Byte := if b then 1 else 0

end Sys2Proof.Machine

namespace Sys2Proof

/-- The thing of one call point. -/
def Duo.get {α : Type} (d : Duo α) : Cp → α
  | .p0 => d.c0
  | .p1 => d.c1

/-- The two with one replaced. -/
def Duo.set {α : Type} (d : Duo α) (n : Cp) (a : α) : Duo α :=
  match n with
  | .p0 => ⟨a, d.c1⟩
  | .p1 => ⟨d.c0, a⟩

/-- The same thing for both call points. -/
def Duo.both {α : Type} (a : α) : Duo α := ⟨a, a⟩

/-- The thing of one lane. -/
def Quad.get {α : Type} (q : Quad α) : Lane → α
  | .l0 => q.l0
  | .l1 => q.l1
  | .l2 => q.l2
  | .l3 => q.l3

/-- The four with one replaced. -/
def Quad.set {α : Type} (q : Quad α) (l : Lane) (a : α) : Quad α :=
  match l with
  | .l0 => ⟨a, q.l1, q.l2, q.l3⟩
  | .l1 => ⟨q.l0, a, q.l2, q.l3⟩
  | .l2 => ⟨q.l0, q.l1, a, q.l3⟩
  | .l3 => ⟨q.l0, q.l1, q.l2, a⟩

/-- The same thing for every lane. -/
def Quad.all {α : Type} (a : α) : Quad α := ⟨a, a, a, a⟩

/-- The lane's number. -/
def Lane.num : Lane → Nat
  | .l0 => 0
  | .l1 => 1
  | .l2 => 2
  | .l3 => 3

/-- The lane of a number, if it names one. -/
def Lane.ofNum : Nat → Option Lane
  | 0 => some .l0
  | 1 => some .l1
  | 2 => some .l2
  | 3 => some .l3
  | _ => none

/-- The lanes in number order. -/
def lanes : List Lane := [.l0, .l1, .l2, .l3]

/-- The next lane round from lane 3 to lane 0 (R107). -/
def Lane.succ : Lane → Lane
  | .l0 => .l1
  | .l1 => .l2
  | .l2 => .l3
  | .l3 => .l0

/-- The call point's number. -/
def Cp.num : Cp → Nat
  | .p0 => 0
  | .p1 => 1

/-- The other call point. -/
def Cp.other : Cp → Cp
  | .p0 => .p1
  | .p1 => .p0

/-- The call point of a number, if it names one. -/
def Cp.ofNum : Nat → Option Cp
  | 0 => some .p0
  | 1 => some .p1
  | _ => none

end Sys2Proof
end

