-- ==== Sys2Proof/Machine/Memory.lean ====
section
/-! DEFINITION. The exchange memory: 8 KiB held as a list of (address, byte) pairs in one canonical form, addresses
strictly rising and no zero byte listed. An unlisted byte reads 0: power-on zeroes the whole memory (R162). -/

namespace Sys2Proof.Machine

/-- The exchange memory. -/
abbrev Memory := List Host.Cell

/-- The byte at an address: 0 where nothing is listed (R162, power-on zeroes the memory). -/
def Memory.read : Memory → Nat → Byte
  | [], _ => 0
  | (k, b) :: m, a => if k = a then b else Memory.read m a

/-- The cells of bytes laid from an address on, zero bytes left out. -/
def cellsOf : Nat → List Byte → Memory
  | _, [] => []
  | a, b :: bs => if b = 0 then cellsOf (a + 1) bs else (a, b) :: cellsOf (a + 1) bs

/-- Replace the n bytes from address a by the given bytes, the rest of the n by zeros. -/
def Memory.place (m : Memory) (a n : Nat) (bs : List Byte) : Memory :=
  m.filter (fun c => decide (c.1 < a)) ++ cellsOf a (bs.take n) ++ m.filter (fun c => decide (a + n ≤ c.1))

/-- Write one byte. -/
def Memory.write (m : Memory) (a : Nat) (b : Byte) : Memory := m.place a 1 [b]

/-- n bytes from address a. -/
def Memory.bytes (m : Memory) (a n : Nat) : List Byte := (List.range' a n).map m.read

/-- A little-endian number of n bytes (R187). -/
def Memory.num (m : Memory) (a n : Nat) : Nat := natOf (m.bytes a n)

/-- The canonical form: addresses strictly rising, none beyond the memory, no zero byte listed. -/
def Memory.wf (m : Memory) : Bool :=
  decide (m.Pairwise (fun x y => x.1 < y.1)) && m.all (fun c => decide (c.1 < Config.memSize) && decide (c.2 ≠ 0))

/-- A part-written block rewritten whole under its 16-bit revision count at its first two bytes: the count is advanced
to odd, the fields are written, and the count is advanced to even (R69, R86, R137, R159). -/
def Memory.rewrite (m : Memory) (base size : Nat) (content : List Byte) : Memory :=
  m.place base size (bytesOf 2 (m.num base 2 + 2) ++ content)

/-- A revision count that a reset finds odd is advanced by one (R162). -/
def Memory.makeEven (m : Memory) (base : Nat) : Memory :=
  if m.num base 2 % 2 = 1 then m.place base 2 (bytesOf 2 (m.num base 2 + 1)) else m

end Sys2Proof.Machine
end

