-- ==== Sys2Proof/Machine/State.lean ====
section
/-! DEFINITION. The state of the part as plain data: every piece of state the spec gives it, the queue of waiting
commands, and the few fields of the model's own that INVENTORY.md names. -/

namespace Sys2Proof.Machine

/-- No event of the part stops it: the spec names no halt, trap or undefined command, so no fault is ever raised, and
the type has no constructor. -/
inductive Fault where
deriving DecidableEq, Repr

/-- Why a command is turned away. -/
inductive Refusal where
  /-- Raised by exec's arm for a command that has no meaning yet; safe, since nothing is claimed of it. No arm raises
  it: every command has its meaning. -/
  | notModelled (mnemonic : String)
deriving DecidableEq, Repr

/-- An operator code as its three bytes hold it: place i in bits 4i-4 to 4i-1, place six 15 for a five-digit code
(R50, R187). -/
abbrev OpCode := BitVec 24

/-- A generation, G2 to G5. -/
inductive Gen where
  | g2 | g3 | g4 | g5
deriving DecidableEq, Repr

/-- An operator and a generation. -/
structure Network where
  op  : OpCode
  gen : Gen
deriving DecidableEq, Repr

/-- The key of a candidate (R49). -/
structure CandKey where
  lane : Lane
  op   : OpCode
  gen  : Gen
deriving DecidableEq, Repr

/-- The outcomes of R44. -/
inductive CallOutcome where
  | connected | noResponse | attachRefused | noService | networkBusy | callRejected | numberRefused | noAlert
  | ringTimeout | callLost | laneFault | preempted | cancelled | supplyRefused | remoteCleared | localCleared
  | exhausted | partReset
deriving DecidableEq, Repr

/-- The class of an outcome (R44). -/
inductive OutcomeClass where
  | success | retry | next | bar | advance | terminal
deriving DecidableEq, Repr

/-! ## Outside the part -/

/-- What stands outside the part and is brought by commands: field pin levels, the codes the two converters give, the
identity straps of the module positions, the event lines, and the RESETn pin. -/
structure Env where
  pins        : BitVec 12
  battery     : BitVec 16
  temperature : BitVec 16
  straps      : Quad (BitVec 16)
  evt         : Quad Bool
  resetLow    : Bool
deriving DecidableEq, Repr

/-! ## Timebase -/

/-- Uptime, clock seconds and the millisecond count beneath uptime (R185). -/
structure Timebase where
  uptime : Seconds
  clock  : Seconds
  ms     : Nat
deriving DecidableEq, Repr

/-! ## Host port -/

/-- The eight port registers (12.2). -/
inductive PortReg where
  | ptrA | dataA | ptrB | dataB | attention | attnMask | partState | control
deriving DecidableEq, Repr

/-- The open host transaction: its register and direction (R148), the data bytes of a PTR write taken so far, and the
first of them (R149). -/
structure HostTxn where
  reg   : PortReg
  read  : Bool
  count : Nat
  low   : Byte
deriving DecidableEq, Repr

/-- The host port (R148 to R150, R153, R154, R158). -/
structure Port where
  txn       : Option HostTxn
  ptrA      : BitVec 13
  ptrB      : BitVec 13
  capA      : Option Byte
  capB      : Option Byte
  attention : Byte
  mask      : Byte
  ready     : Bool
  hsdo      : Byte
deriving DecidableEq, Repr

/-- POWER_ON, PIN or CONTROL (R159). -/
inductive ResetCause where
  | powerOn | pin | control
deriving DecidableEq, Repr

/-- The published reset cause, the cause of the reset in progress, whether it waits for the RESETn pin to rise, and the
CALL functions the reset evaluation found at 1 (R134, R162). -/
structure ResetSeq where
  cause     : ResetCause
  next      : ResetCause
  needRise  : Bool
  callFound : Duo Bool
deriving DecidableEq, Repr

/-! ## Call contexts -/

/-- The thirteen states of section 1.2. -/
inductive CtxState where
  | idle | selecting | waitingLane | attaching | dialling | alerting | connected | clearing | paused | surveyWait
  | held | callbackWatch | ringing
deriving DecidableEq, Repr

/-- EMERGENCY or TEST. -/
inductive CallKind where
  | emergency | test
deriving DecidableEq, Repr

/-- MATRIX or ORDER. -/
inductive CallSource where
  | matrix | order
deriving DecidableEq, Repr

/-- PLACED or CALLBACK. -/
inductive ConnKind where
  | placed | callback
deriving DecidableEq, Repr

/-- The lane link operations of a context (R1). -/
inductive OpKind where
  | attach | dial | answer | hangup | tones
deriving DecidableEq, Repr

/-- EMERGENCY or ORDINARY (R155). -/
inductive SetupKind where
  | emergency | ordinary
deriving DecidableEq, Repr

/-- A number list entry as read from the settings (R32, R36): setup kind, digit count, ten digit bytes. -/
structure NumberEntry where
  setup  : SetupKind
  count  : Nat
  digits : List Byte
deriving DecidableEq, Repr

/-- What an attempt is made on: a candidate, or a lane for ATTEMPT_DIRECT (R35, R37). -/
inductive Choice where
  | cand (k : CandKey)
  | lane (l : Lane)
deriving DecidableEq, Repr

/-- The attempt in progress: its start (R41), and whether it reached CONNECTED (R142). -/
structure Attempt where
  start     : Seconds
  connected : Bool
deriving DecidableEq, Repr

/-- A call context: the fields of R1, and below them what the rules on attempts keep (R32, R35, R41, R45). -/
structure Context where
  state          : CtxState
  kind           : CallKind
  source         : CallSource
  record         : Option (Fin 12)
  numberOverride : Option (Fin 4)
  step           : Nat
  tries          : Nat
  tried          : List Choice
  current        : Option CandKey
  lane           : Option Lane
  pendingClaim   : Option Lane
  op             : Option (OpKind × Nat)
  pendingOutcome : Option CallOutcome
  emergencyStart : Bool
  connKind       : ConnKind
  stepTimer      : Option Seconds
  locTimer       : Option Seconds
  cbTimer        : Option Seconds
  stepHold       : Bool
  connectedOnce  : Bool
  /-- what the present attempt was made on (R41, R45) -/
  choice         : Option Choice
  /-- a RETRY class has kept the choice (R35, R37) -/
  retry          : Bool
  /-- a call started from CALLBACK_WATCH that has started no attempt yet (R35) -/
  keepFirst      : Bool
  /-- the number entry as read at the step's evaluation (R32) -/
  number         : NumberEntry
  /-- the attempt in progress (R41) -/
  attempt        : Option Attempt
  /-- the step index is to be taken as END (R32) -/
  atEnd          : Bool
  /-- PAUSED at END, for the retry pause (R27, R40) -/
  endPause       : Bool
deriving DecidableEq, Repr

/-! ## Plan store -/

/-- ANY, ALLOWED or OTHERS (R31). -/
inductive OpFilter where
  | any | allowed | others
deriving DecidableEq, Repr

/-- The fields of an ATTEMPT or ATTEMPT_DIRECT step (R31); no lane is ANY, no target is END. -/
structure AttemptStep where
  number     : Fin 4
  selector   : Option Lane
  genMask    : BitVec 4
  filter     : OpFilter
  tries      : Nat
  ring       : Nat
  failTarget : Option Nat
  noneTarget : Option Nat
deriving DecidableEq, Repr

/-- A plan step (R31). -/
inductive PlanStep where
  | attempt (a : AttemptStep)
  | direct (a : AttemptStep)
  | pause (wait : Nat)
  | rescan (wait : Nat)
  | finish
deriving DecidableEq, Repr

/-- The plan store (R29): loaded is the plan source LOADED. -/
structure PlanStore where
  active      : List PlanStep
  loaded      : Bool
  pendingPlan : Option (List PlanStep)
deriving DecidableEq, Repr

/-! ## Candidate table -/

/-- SCAN, ATTACH or EVENT (R49). -/
inductive SeenBy where
  | scan | attach | event
deriving DecidableEq, Repr

/-- A candidate (R49). -/
structure Entry where
  key        : CandKey
  level      : Int
  quality    : Nat
  age        : Nat
  fails      : Nat
  barred     : Option Seconds
  last       : Option CallOutcome
  seen       : SeenBy
  score      : Nat
  updated    : Seconds
  failChange : Seconds
deriving DecidableEq, Repr

/-! ## Lanes -/

/-- ABSENT, OFF, STARTING, READY or FAULTED (R85). -/
inductive LaneState where
  | absent | off | starting | ready | faulted
deriving DecidableEq, Repr

/-- NONE, CC0 or CC1, or SURVEY (R85); also the holder of a tag. -/
inductive Owner where
  | none
  | ctx (n : Cp)
  | survey
deriving DecidableEq, Repr

/-- The fault causes (R85). -/
inductive FaultCause where
  | none | noResponse | moduleFault | startTimeout | identity
deriving DecidableEq, Repr

/-- The standby line states (R94). -/
inductive Standby where
  | float | driveLow | pullDown
deriving DecidableEq, Repr

/-- An identification in progress: the read now driven, the bits read so far, and the end of the read (R87). -/
structure Ident where
  read : Fin 4
  bits : BitVec 16
  ends : Nat
deriving DecidableEq, Repr

/-- A lane record (R85), with the identification in progress (R87), the standby line state in force (R94) and R72's note
that the candidate table has removed the lane's entries. -/
structure LaneRec where
  state        : LaneState
  identity     : BitVec 16
  owner        : Owner
  camp         : Option Network
  noResp       : Nat
  restarts     : Nat
  cause        : FaultCause
  forcedOff    : Bool
  power        : Bool
  pdPending    : Bool
  startTimer   : Option Seconds
  restartTimer : Option Seconds
  probeTimer   : Option Seconds
  readySince   : Option Seconds
  fetchArmed   : Bool
  ringToRefuse : Bool
  outTag       : Option (Nat × Owner)
  nextTag      : Nat
  lastWord     : BitVec 32
  standby      : Standby
  ident        : Option Ident
  removed      : Bool
deriving DecidableEq, Repr

/-- An entry of the start queue: a lane and whether its class is EMERGENCY (R91). -/
structure QueueEntry where
  lane      : Lane
  emergency : Bool
deriving DecidableEq, Repr

/-! ## Survey engine -/

/-- Where a lane's scan stands (R71). -/
inductive ScanStage where
  | none | opening | running | reading | aborting
deriving DecidableEq, Repr

/-- How a lane's last survey ended (R71). -/
inductive ScanResult where
  | none | completed | failed | skipped
deriving DecidableEq, Repr

/-- The status of a lane in an immediate request (R82). -/
inductive ReqStatus where
  | pending | completed | failed | skipped
deriving DecidableEq, Repr

/-- An immediate request: a status for each lane it names (R82). -/
abbrev SurveyReq := Quad (Option ReqStatus)

/-- The survey fields of a lane (R71); consider marks a lane of the list that R73 must look at. -/
structure SurveyLane where
  due        : Option Seconds
  stage      : ScanStage
  scanTag    : Option Nat
  timer      : Option Seconds
  lastResult : ScanResult
  lastSize   : Nat
  consider   : Bool
deriving DecidableEq, Repr

/-- The survey engine's three transactions (R74). -/
inductive ScanTx where
  | start | read | abort
deriving DecidableEq, Repr

/-- The survey engine (R71, R73, R74, R82). -/
structure Survey where
  lanes    : Quad SurveyLane
  list     : List Lane
  queue    : List (Lane × ScanTx)
  ctxReq   : Duo (Option SurveyReq)
  orderReq : List (Fin 8 × SurveyReq)
deriving DecidableEq, Repr

/-! ## Lane link -/

/-- The eleven requests (R100). -/
inductive ReqCode where
  | probe | scanStart | scanAbort | scanRead | attach | dial | answer | hangup | tones | fetchEvent | powerDown
deriving DecidableEq, Repr

/-- The four requesters (R106). -/
inductive Requester where
  | manager
  | ctx (n : Cp)
  | survey
deriving DecidableEq, Repr

/-- The transaction in flight: the request frame sent, who asked, whether the result is still wanted (R101), and the end
of the 500 ms. -/
structure Transaction where
  lane      : Lane
  code      : ReqCode
  requester : Requester
  tag       : Nat
  args      : List Byte
  wanted    : Bool
  deadline  : Nat
deriving DecidableEq, Repr

/-- A context's request pending at the arbiter (R4). -/
structure CtxRequest where
  kind : OpKind
  lane : Lane
  args : List Byte
deriving DecidableEq, Repr

/-- The lane manager's maintenance requests (R106). -/
inductive MaintKind where
  | probe | powerDown | refuseRing
deriving DecidableEq, Repr

/-- The lane link and the arbiter (R100, R106, R107). -/
structure Link where
  inFlight    : Option Transaction
  ctxReq      : Duo (Option CtxRequest)
  maint       : List (Lane × MaintKind)
  lastFetched : Lane
  lastCtx     : Cp
  waitCount   : Nat
deriving DecidableEq, Repr

/-! ## Voice and indications -/

/-- The stage of a location burst (R111). -/
inductive BurstStage where
  | idle | sending | pacing
deriving DecidableEq, Repr

/-- The burst state of a call point (R111). -/
structure Burst where
  stage  : BurstStage
  digits : List Nat
  next   : Nat
  timer  : Option Nat
deriving DecidableEq, Repr

/-- The connection map, the mutes and the bursts (R108, R111). -/
structure Voice where
  conn  : Duo (Option Lane)
  muted : Duo Bool
  burst : Duo Burst
deriving DecidableEq, Repr

/-- A phase of a cadence: on or off, and its end on the millisecond count (R118). -/
structure Phase where
  on   : Bool
  ends : Nat
deriving DecidableEq, Repr

/-- The CONNECTING lamp's flash and the ringer's cadence of a call point; none is stopped and off (R118). -/
structure Lamps where
  flash  : Option Phase
  ringer : Option Phase
deriving DecidableEq, Repr

/-! ## Trigger matrix -/

/-- The sources of cell inputs (R124). -/
inductive Src where
  | line (i : Fin 12)
  | cell (j : Fin 8)
  | const1
  | ctxActive (n : Cp)
  | supplyCritical
deriving DecidableEq, Repr

/-- The output sources (R123). -/
inductive OutSrc where
  | connecting (n : Cp)
  | connected (n : Cp)
  | ringer (n : Cp)
  | cell (j : Fin 8)
  | notHealthy
  | attnMirror
deriving DecidableEq, Repr

/-- A field line's group and sub-function (R121 to R123). -/
inductive LineCfg where
  | unused
  | input (cls : Fin 4) (inverted : Bool)
  | output (src : OutSrc)
deriving DecidableEq, Repr

/-- The two inputs of a cell (R124). -/
structure CellCfg where
  a    : Src
  invA : Bool
  b    : Src
  invB : Bool
deriving DecidableEq, Repr

/-- The binding of a trigger function (R124). -/
inductive Binding where
  | none
  | line (i : Fin 12)
  | cell (j : Fin 8)
deriving DecidableEq, Repr

/-- A configuration of the matrix (R120). -/
structure MatrixCfg where
  lines : Vector LineCfg 12
  cells : Vector CellCfg 8
  binds : Vector Binding 6
deriving DecidableEq, Repr

/-- The trigger functions in the order of their item indices and bits (12.3, 12.7). -/
inductive TrigFn where
  | call (n : Cp)
  | cancel (n : Cp)
  | tamper
  | wake
deriving DecidableEq, Repr

/-- The values of the matrix's sources outside it as its last evaluation took them (the model's own; R126, log entry 47):
the OUTPUT lines whose source is no cell, CC0_ACTIVE and CC1_ACTIVE, SUPPLY_CRITICAL. -/
structure Sources where
  lines    : BitVec 12
  active   : Duo Bool
  critical : Bool
deriving DecidableEq, Repr

/-- The trigger matrix (R120): loaded is the matrix source LOADED; bits 6 and 7 of cells are the latch states. Below them
stand the model's own fields: the sources as taken, the events handed to their consumers and not yet taken (R127), and
the number of changes of function values whose rewrite of the part status block is still to be made (R120). -/
structure Matrix where
  config    : MatrixCfg
  loaded    : Bool
  debounced : BitVec 12
  timers    : Vector (Option Nat) 12
  cells     : BitVec 8
  fns       : BitVec 6
  sources   : Sources
  raised    : List TrigFn
  unshown   : Nat
deriving DecidableEq, Repr

/-! ## Call records -/

/-- FREE, OPEN or CLOSED (R135). -/
inductive RecState where
  | free | opened | closed
deriving DecidableEq, Repr

/-- NONE, SENT, ABORTED or INVALID (R117). -/
inductive LocStatus where
  | none | sent | aborted | invalid
deriving DecidableEq, Repr

/-- An entry of the attempt history (R142). -/
structure HistEntry where
  number   : BitVec 32
  lane     : Lane
  net      : Option Network
  step     : Nat
  score    : Nat
  outcome  : Option CallOutcome
  duration : Option Nat
deriving DecidableEq, Repr

/-- A call record (R136), less its revision count, which stands in the exchange memory. -/
structure CallRecord where
  state        : RecState
  seq          : BitVec 16
  cp           : Cp
  kind         : CallKind
  source       : CallSource
  ctxState     : CtxState
  start        : Seconds
  firstConnect : Option Seconds
  ended        : Option Seconds
  last         : Option CallOutcome
  final        : Option CallOutcome
  attempts     : BitVec 32
  dropped      : BitVec 32
  connects     : Nat
  drops        : Nat
  presses      : Nat
  offered      : Nat
  answered     : Nat
  passes       : Nat
  step         : Nat
  lane         : Option Lane
  cand         : Option Network
  location     : LocStatus
  history      : List HistEntry
deriving DecidableEq, Repr

/-- The record writer (R135). -/
structure Records where
  all        : Vector CallRecord 12
  nextSeq    : BitVec 16
  closeOrder : List (Fin 12)
deriving DecidableEq, Repr

/-! ## Orders -/

/-- What a TAKEN order waits for (R168). -/
inductive Wait where
  | plan
  | survey
  | ident (l : Lane)
deriving DecidableEq, Repr

/-- The posted list and the waiting orders (R163). -/
structure OrderUnit where
  posted : List (Fin 8)
  waits  : List (Fin 8 × Wait)
deriving DecidableEq, Repr

/-! ## Supply -/

/-- HEALTHY, LOW or CRITICAL (R176). -/
inductive SupplyLevel where
  | healthy | low | critical
deriving DecidableEq, Repr

/-- ACTIVE, QUIET or DORMANT (R182). -/
inductive PowerState where
  | active | quiet | dormant
deriving DecidableEq, Repr

/-- The supply monitor and power control (R176). -/
structure Supply where
  battery    : Nat
  t10        : Int
  vmin       : Nat
  level      : SupplyLevel
  timer      : Seconds
  power      : PowerState
  preDormant : PowerState
deriving DecidableEq, Repr

/-- The seven counters of the part status block (R160). -/
structure Counters where
  overwritten   : Nat
  dropped       : Nat
  discarded     : Nat
  stale         : Nat
  windowFaults  : Nat
  linkTimeouts  : Nat
  tamper        : Nat
deriving DecidableEq, Repr

/-- The whole part, and the queue of commands that are waiting, first in, first out. -/
structure State where
  /-- commands waiting to be taken, first in, first out -/
  pending : List Instr
  /-- what stands outside the part: pins, converter codes, straps, event lines -/
  env : Env
  /-- timebase (R185) -/
  time : Timebase
  /-- the score tick of the present multiple of 16 s is still to be taken (the model's own; R62) -/
  tickDue : Bool
  /-- an event of R90's list has come: the lane manager evaluates need (the model's own) -/
  needDue : Bool
  /-- host port (R148 to R150, R153, R154, R158) -/
  port : Port
  /-- exchange memory (chapter 9, chapter 12) -/
  mem : Memory
  /-- the memory before the first byte of the open DATA write transaction (the model's own; R154) -/
  snap : Option Memory
  /-- the reset in progress, and the reset cause (R162) -/
  rst : ResetSeq
  /-- call contexts CC0 and CC1 (R1) -/
  ctxs : Duo Context
  /-- plan store (R29) -/
  plan : PlanStore
  /-- candidate table, in table order (R49, R52) -/
  table : List Entry
  /-- survey engine (R71) -/
  survey : Survey
  /-- lane records (R85) -/
  lanes : Quad LaneRec
  /-- start queue (R91) -/
  startq : List QueueEntry
  /-- lane link and link arbiter (R100, R106, R107) -/
  link : Link
  /-- voice crosspoint and bursts (R108, R111) -/
  voice : Voice
  /-- indications (R118) -/
  lamps : Duo Lamps
  /-- trigger matrix (R120) -/
  matrix : Matrix
  /-- record writer (R135) -/
  recs : Records
  /-- order unit (R163) -/
  orders : OrderUnit
  /-- supply monitor and power control (R176) -/
  supply : Supply
  /-- the seven counters (R160) -/
  counters : Counters
deriving DecidableEq, Repr

/-- The state with another queue. -/
def State.withPending (s : State) (v : List Instr) : State := { s with pending := v }
/-- The state with another env. -/
def State.withEnv (s : State) (v : Env) : State := { s with env := v }
/-- The state with another time. -/
def State.withTime (s : State) (v : Timebase) : State := { s with time := v }
/-- The state with another tickDue. -/
def State.withTickDue (s : State) (v : Bool) : State := { s with tickDue := v }
/-- The state with another needDue. -/
def State.withNeedDue (s : State) (v : Bool) : State := { s with needDue := v }
/-- The state with another port. -/
def State.withPort (s : State) (v : Port) : State := { s with port := v }
/-- The state with another mem. -/
def State.withMem (s : State) (v : Memory) : State := { s with mem := v }
/-- The state with another snap. -/
def State.withSnap (s : State) (v : Option Memory) : State := { s with snap := v }
/-- The state with another rst. -/
def State.withRst (s : State) (v : ResetSeq) : State := { s with rst := v }
/-- The state with another ctxs. -/
def State.withCtxs (s : State) (v : Duo Context) : State := { s with ctxs := v }
/-- The state with another plan. -/
def State.withPlan (s : State) (v : PlanStore) : State := { s with plan := v }
/-- The state with another table. -/
def State.withTable (s : State) (v : List Entry) : State := { s with table := v }
/-- The state with another survey. -/
def State.withSurvey (s : State) (v : Survey) : State := { s with survey := v }
/-- The state with another lanes. -/
def State.withLanes (s : State) (v : Quad LaneRec) : State := { s with lanes := v }
/-- The state with another startq. -/
def State.withStartq (s : State) (v : List QueueEntry) : State := { s with startq := v }
/-- The state with another link. -/
def State.withLink (s : State) (v : Link) : State := { s with link := v }
/-- The state with another voice. -/
def State.withVoice (s : State) (v : Voice) : State := { s with voice := v }
/-- The state with another lamps. -/
def State.withLamps (s : State) (v : Duo Lamps) : State := { s with lamps := v }
/-- The state with another matrix. -/
def State.withMatrix (s : State) (v : Matrix) : State := { s with matrix := v }
/-- The state with another recs. -/
def State.withRecs (s : State) (v : Records) : State := { s with recs := v }
/-- The state with another orders. -/
def State.withOrders (s : State) (v : OrderUnit) : State := { s with orders := v }
/-- The state with another supply. -/
def State.withSupply (s : State) (v : Supply) : State := { s with supply := v }
/-- The state with another counters. -/
def State.withCounters (s : State) (v : Counters) : State := { s with counters := v }

/-! ## Reset -/

/-- A context after power-on or a part reset (R1). -/
def Context.reset : Context :=
  { state := .idle, kind := .emergency, source := .matrix, record := none, numberOverride := none, step := 0,
    tries := 0, tried := [], current := none, lane := none, pendingClaim := none, op := none, pendingOutcome := none,
    emergencyStart := false, connKind := .placed, stepTimer := none, locTimer := none, cbTimer := none,
    stepHold := false, connectedOnce := false, choice := none, retry := false, keepFirst := false,
    number := { setup := .emergency, count := 0, digits := [] }, attempt := none, atEnd := false, endPause := false }

/-- A lane record after a reset (R85), its identification to begin. -/
def LaneRec.reset (standby : Standby) : LaneRec :=
  { state := .absent, identity := 0xFFFF, owner := .none, camp := none, noResp := 0, restarts := 0, cause := .none,
    forcedOff := false, power := false, pdPending := false, startTimer := none, restartTimer := none,
    probeTimer := none, readySince := none, fetchArmed := false, ringToRefuse := false, outTag := none, nextTag := 1,
    lastWord := 0, standby := standby, ident := none, removed := false }

/-- The survey fields of a lane at power-on (R84). -/
def SurveyLane.reset : SurveyLane :=
  { due := none, stage := .none, scanTag := none, timer := none, lastResult := .none, lastSize := 0, consider := false }

/-- The survey engine at power-on (R84). -/
def Survey.reset : Survey :=
  { lanes := Quad.all SurveyLane.reset, list := [], queue := [], ctxReq := Duo.both none, orderReq := [] }

/-- The link and the arbiter at power-on (R107). -/
def Link.reset : Link :=
  { inFlight := none, ctxReq := Duo.both none, maint := [], lastFetched := .l3, lastCtx := .p1, waitCount := 0 }

/-- No burst in progress (R111). -/
def Burst.reset : Burst := { stage := .idle, digits := [], next := 0, timer := none }

/-- The crosspoint after a reset (R108, R111). -/
def Voice.reset : Voice :=
  { conn := Duo.both none, muted := Duo.both false, burst := Duo.both Burst.reset }

/-- Every cadence stopped (R119). -/
def Lamps.reset : Lamps := { flash := none, ringer := none }

/-- A FREE record that has never held a call (R147; log entry 35). -/
def CallRecord.blank : CallRecord :=
  { state := .free, seq := 0, cp := .p0, kind := .emergency, source := .matrix, ctxState := .idle, start := 0,
    firstConnect := none, ended := none, last := none, final := none, attempts := 0, dropped := 0, connects := 0,
    drops := 0, presses := 0, offered := 0, answered := 0, passes := 0, step := 0, lane := none, cand := none,
    location := .none, history := [] }

/-- The records at power-on (R147). -/
def Records.reset : Records := { all := Vector.replicate 12 CallRecord.blank, nextSeq := 1, closeOrder := [] }

/-- Every counter 0 (R160). -/
def Counters.zero : Counters :=
  { overwritten := 0, dropped := 0, discarded := 0, stale := 0, windowFaults := 0, linkTimeouts := 0, tamper := 0 }

/-- A step of the built-in plan that attempts any candidate or lane (R47). -/
def builtInAttempt (tries : Nat) (failTarget noneTarget : Option Nat) : AttemptStep :=
  { number := 0, selector := none, genMask := 0, filter := .any, tries := tries, ring := 60,
    failTarget := failTarget, noneTarget := noneTarget }

/-- The built-in plan (R47). -/
def builtInPlan : List PlanStep :=
  [ .attempt (builtInAttempt 3 (some 1) (some 2)),
    .attempt (builtInAttempt 3 (some 2) (some 2)),
    .rescan 90,
    .direct (builtInAttempt 2 none (some 4)),
    .finish ]

/-- The built-in configuration of the matrix (R133). -/
def builtInMatrix : MatrixCfg :=
  { lines := #v[.input 1 true, .input 2 true, .input 1 true, .input 2 true, .input 3 false, .input 1 true,
      .output (.connecting .p0), .output (.connected .p0), .output (.connecting .p1), .output (.connected .p1),
      .output (.ringer .p0), .output (.ringer .p1)],
    cells := #v[⟨.line 1, true, .const1, false⟩, ⟨.line 3, true, .const1, false⟩, ⟨.const1, false, .const1, false⟩,
      ⟨.line 0, false, .line 1, false⟩, ⟨.line 2, false, .line 3, false⟩, ⟨.const1, false, .const1, false⟩,
      ⟨.const1, true, .const1, false⟩, ⟨.const1, true, .const1, false⟩],
    binds := #v[.cell 3, .cell 4, .cell 0, .cell 1, .line 4, .none] }

/-- The setting defaults that power-on writes (R156, R157, 12.5), from the start of the settings block: number
entries, location, allowed operator slots, weights, minimum score, survey yield, watch lane, standby states, reserve
base, timers. -/
def settingDefaults : List Byte :=
  [0, 3, 0x11, 0x02] ++ List.replicate 8 0 ++ List.replicate 36 0 ++ List.replicate 16 0
    ++ [0xFF, 0xFF, 0xFF, 0, 0xFF, 0xFF, 0xFF, 0, 0xFF, 0xFF, 0xFF, 0, 0xFF, 0xFF, 0xFF, 0]
    ++ [40, 20, 30, 25] ++ bytesOf 2 16 ++ [3, 0] ++ [0, 0, 0, 0] ++ bytesOf 2 11600 ++ [0, 0]
    ++ ([30, 20, 20, 600, 2, 300, 90, 1800, 300, 600, 60, 60].map (bytesOf 2)).flatten

/-- What stands outside the part before anything is said of it (log entry 5): every field pin high, 12500 mV and
25.0 °C at the converters, no module fitted, no event line asserted, RESETn high. -/
def Env.reset : Env :=
  { pins := 0xFFF, battery := 40000, temperature := 31200, straps := Quad.all 0xFFFF, evt := Quad.all false,
    resetLow := false }

/-- The exchange memory right after power-on (R162): zeroed, the setting defaults written, and the part status block
rewritten once by the reset measurement (R177, R186; log entry 18): revision count 2, the trigger function values of
the reset evaluation, 12500 mV, 250, 11600 mV, empty start queue. -/
def Memory.afterPowerOn : Memory :=
  (Memory.place ([] : Memory) Config.settingsBase 0x200 settingDefaults).place Config.statusBase 19
    (bytesOf 2 2 ++ [1, 0, 0, 0, 0, 0b011100] ++ bytesOf 2 12500 ++ bytesOf 2 250 ++ bytesOf 2 11600
      ++ [0, 0xFF, 0xFF, 0xFF, 0xFF])

/-- The machine right after power-on (R162): every block's reset work is done, identification of the four lanes has
begun, and the ready flag is still clear (log entry 6). Its queue is empty. -/
def State.reset : State :=
  { pending := []
    env := Env.reset
    time := { uptime := 0, clock := 0, ms := 0 }
    tickDue := false
    needDue := false
    port := { txn := none, ptrA := 0, ptrB := 0, capA := none, capB := none, attention := 0, mask := 0xFF,
              ready := false, hsdo := 0 }
    mem := Memory.afterPowerOn
    snap := none
    rst := { cause := .powerOn, next := .powerOn, needRise := false, callFound := Duo.both false }
    ctxs := Duo.both Context.reset
    plan := { active := builtInPlan, loaded := false, pendingPlan := none }
    table := []
    survey := Survey.reset
    lanes := Quad.all { LaneRec.reset .float with
      ident := some { read := 0, bits := 0, ends := Config.identityMs } }
    startq := []
    link := Link.reset
    voice := Voice.reset
    lamps := Duo.both Lamps.reset
    matrix := { config := builtInMatrix, loaded := false, debounced := 0b010000, timers := Vector.replicate 12 none,
                cells := 0b00000011, fns := 0b011100,
                sources := { lines := 0, active := Duo.both false, critical := false }, raised := [], unshown := 0 }
    recs := Records.reset
    orders := { posted := [], waits := [] }
    supply := { battery := 12500, t10 := 250, vmin := 11600, level := .healthy, timer := 10, power := .active,
                preDormant := .active }
    counters := Counters.zero }

end Sys2Proof.Machine
end

