-- ==== Sys2Proof/Machine/Formats.lean ====
section
/-! DEFINITION. The codes and the byte layouts of chapter 12 (R187): what the part writes for each enumerated field, how
it decodes host and module codes, and the contents of the blocks it writes, each from the byte after its revision count. -/

namespace Sys2Proof.Machine

/-! ## Codes (12.1) -/

/-- Context state codes. -/
def CtxState.code : CtxState → Byte
  | .idle => 0
  | .selecting => 1
  | .waitingLane => 2
  | .attaching => 3
  | .dialling => 4
  | .alerting => 5
  | .connected => 6
  | .clearing => 7
  | .paused => 8
  | .surveyWait => 9
  | .held => 10
  | .callbackWatch => 11
  | .ringing => 12

/-- Lane state codes. -/
def LaneState.code : LaneState → Byte
  | .absent => 0
  | .off => 1
  | .starting => 2
  | .ready => 3
  | .faulted => 4

/-- Owner and tag holder codes. -/
def Owner.code : Owner → Byte
  | .none => 0
  | .ctx .p0 => 1
  | .ctx .p1 => 2
  | .survey => 3

/-- Fault cause codes. -/
def FaultCause.code : FaultCause → Byte
  | .none => 0
  | .noResponse => 1
  | .moduleFault => 2
  | .startTimeout => 3
  | .identity => 4

/-- Scan stage codes. -/
def ScanStage.code : ScanStage → Byte
  | .none => 0
  | .opening => 1
  | .running => 2
  | .reading => 3
  | .aborting => 4

/-- Last scan result codes. -/
def ScanResult.code : ScanResult → Byte
  | .none => 0
  | .completed => 1
  | .failed => 2
  | .skipped => 3

/-- Standby line state codes. -/
def Standby.code : Standby → Byte
  | .float => 0
  | .driveLow => 1
  | .pullDown => 2

/-- A standby setting decoded: a value outside the three is FLOAT (R94, R155). -/
def Standby.ofByte (b : Byte) : Standby :=
  if b = 1 then .driveLow else if b = 2 then .pullDown else .float

/-- Kind codes. -/
def CallKind.code : CallKind → Byte
  | .emergency => 0
  | .test => 1

/-- Source codes. -/
def CallSource.code : CallSource → Byte
  | .matrix => 0
  | .order => 1

/-- Setup kind codes. -/
def SetupKind.code : SetupKind → Byte
  | .emergency => 0
  | .ordinary => 1

/-- A setup kind decoded: neither EMERGENCY nor ORDINARY is EMERGENCY (R155). -/
def SetupKind.ofByte (b : Byte) : SetupKind := if b = 1 then .ordinary else .emergency

/-- Record state codes. -/
def RecState.code : RecState → Byte
  | .free => 0
  | .opened => 1
  | .closed => 2

/-- Location status codes. -/
def LocStatus.code : LocStatus → Byte
  | .none => 0
  | .sent => 1
  | .aborted => 2
  | .invalid => 3

/-- Seen-by codes. -/
def SeenBy.code : SeenBy → Byte
  | .scan => 1
  | .attach => 2
  | .event => 3

/-- Power state codes. -/
def PowerState.code : PowerState → Byte
  | .active => 0
  | .quiet => 1
  | .dormant => 2

/-- Supply level codes. -/
def SupplyLevel.code : SupplyLevel → Byte
  | .healthy => 0
  | .low => 1
  | .critical => 2

/-- Reset cause codes. -/
def ResetCause.code : ResetCause → Byte
  | .powerOn => 1
  | .pin => 2
  | .control => 3

/-- Outcome codes (R44). -/
def CallOutcome.code : CallOutcome → Byte
  | .connected => 0
  | .noResponse => 1
  | .attachRefused => 2
  | .noService => 3
  | .networkBusy => 4
  | .callRejected => 5
  | .numberRefused => 6
  | .noAlert => 7
  | .ringTimeout => 8
  | .callLost => 9
  | .laneFault => 10
  | .preempted => 11
  | .cancelled => 12
  | .supplyRefused => 13
  | .remoteCleared => 14
  | .localCleared => 15
  | .exhausted => 16
  | .partReset => 17

/-- An outcome or 0xFF for absent. -/
def outcomeByte : Option CallOutcome → Byte
  | none => 0xFF
  | some o => o.code

/-- The class of an outcome (R44). -/
def CallOutcome.cls : CallOutcome → OutcomeClass
  | .connected => .success
  | .noResponse | .networkBusy | .ringTimeout | .callLost => .retry
  | .attachRefused | .noService => .bar
  | .callRejected | .noAlert | .laneFault => .next
  | .numberRefused => .advance
  | .preempted | .cancelled | .supplyRefused | .remoteCleared | .localCleared | .exhausted | .partReset => .terminal

/-- Whether an outcome adds a fail (R44). -/
def CallOutcome.addsFail : CallOutcome → Bool
  | .noResponse | .attachRefused | .noService | .networkBusy | .callRejected | .noAlert | .ringTimeout | .callLost => true
  | .connected | .numberRefused | .laneFault | .preempted | .cancelled | .supplyRefused | .remoteCleared
  | .localCleared | .exhausted | .partReset => false

/-- A generation as its number. -/
def Gen.num : Gen → Nat
  | .g2 => 2
  | .g3 => 3
  | .g4 => 4
  | .g5 => 5

/-- The generation of a number, if 2 to 5. -/
def Gen.ofNum : Nat → Option Gen
  | 2 => some .g2
  | 3 => some .g3
  | 4 => some .g4
  | 5 => some .g5
  | _ => none

/-- A generation is in a mask: bit 0 G2 to bit 3 G5. -/
def inMask (m : BitVec 4) (g : Gen) : Bool := m.getLsbD (g.num - 2)

/-- The mask of one generation. -/
def Gen.mask (g : Gen) : BitVec 4 := BitVec.ofNat 4 (2 ^ (g.num - 2))

/-- A lane or 0xFF for absent. -/
def laneByte : Option Lane → Byte
  | none => 0xFF
  | some l => BitVec.ofNat 8 l.num

/-- A generation or 0 for absent. -/
def genByte : Option Network → Byte
  | none => 0
  | some n => BitVec.ofNat 8 n.gen.num

/-- The absent operator code, and ANY in an ATTACH. -/
def noOperator : OpCode := 0xFFFFFF

/-- An operator code or 0xFFFFFF for absent, three bytes. -/
def opBytes : Option Network → List Byte
  | none => bytesOf 3 noOperator.toNat
  | some n => bytesOf 3 n.op.toNat

/-- A time that may be absent, written as 0 then. -/
def timeBytes : Option Seconds → List Byte
  | none => bytesOf 4 0
  | some t => bytesOf 4 t.toNat

/-- Request codes (12.11). -/
def ReqCode.code : ReqCode → Byte
  | .probe => 1
  | .scanStart => 2
  | .scanAbort => 3
  | .scanRead => 4
  | .attach => 5
  | .dial => 6
  | .answer => 7
  | .hangup => 8
  | .tones => 9
  | .fetchEvent => 10
  | .powerDown => 11

/-- The request code of a context's operation. -/
def OpKind.reqCode : OpKind → ReqCode
  | .attach => .attach
  | .dial => .dial
  | .answer => .answer
  | .hangup => .hangup
  | .tones => .tones

/-- The port registers by the low three bits of a select byte (12.2). -/
def PortReg.ofNum : Nat → PortReg
  | 0 => .ptrA
  | 1 => .dataA
  | 2 => .ptrB
  | 3 => .dataB
  | 4 => .attention
  | 5 => .attnMask
  | 6 => .partState
  | _ => .control

/-! ## Operator codes (3.2) -/

/-- Place i (0 for the first) of an operator code. -/
def OpCode.place (c : OpCode) (i : Nat) : Nat := c.toNat / 16 ^ i % 16

/-- A valid operator code: five digits, and a sixth digit or the filler 15 (R50). -/
def OpCode.valid (c : OpCode) : Bool :=
  decide (c.place 0 ≤ 9) && decide (c.place 1 ≤ 9) && decide (c.place 2 ≤ 9) && decide (c.place 3 ≤ 9)
    && decide (c.place 4 ≤ 9) && (decide (c.place 5 ≤ 9) || decide (c.place 5 = 15))

/-- The number formed by the first five digits (R51). -/
def OpCode.five (c : OpCode) : Nat :=
  c.place 0 * 10000 + c.place 1 * 1000 + c.place 2 * 100 + c.place 3 * 10 + c.place 4

/-- Has six digits. -/
def OpCode.six (c : OpCode) : Bool := decide (c.place 5 ≠ 15)

/-- The order of operator codes (R51): the first five digits, then five digits before six, then the sixth digit. -/
def OpCode.less (a b : OpCode) : Bool :=
  if a.five ≠ b.five then decide (a.five < b.five)
  else if a.six = b.six then a.six && decide (a.place 5 < b.place 5)
  else b.six

/-! ## Module identity (R88) -/

/-- The module family. -/
def idFamily (i : BitVec 16) : Nat := i.toNat / 4096
/-- The module's generation mask. -/
def idMask (i : BitVec 16) : BitVec 4 := BitVec.ofNat 4 (i.toNat / 256)
/-- The start class. -/
def idStartClass (i : BitVec 16) : Nat := i.toNat / 16 % 16
/-- The revision. -/
def idRevision (i : BitVec 16) : Nat := i.toNat % 16
/-- The start timeout in seconds: class × 5, and 20 for class 0 (R88). -/
def startTimeoutOf (i : BitVec 16) : Nat := if idStartClass i = 0 then 20 else idStartClass i * 5

/-- The select lines (S1, S0) of each read (R87). -/
def selectLines : Fin 4 → Bool × Bool
  | 0 => (false, true)
  | 1 => (true, false)
  | 2 => (false, false)
  | 3 => (true, true)

/-- The identity bits with read j's four sense lines put in: bit 4i + j is sense line i (R87). -/
def putSense (bits : BitVec 16) (j : Fin 4) (sense : BitVec 4) : BitVec 16 :=
  let one (i : Nat) : BitVec 16 := if sense.getLsbD i then BitVec.ofNat 16 (2 ^ (4 * i + j.val)) else 0
  bits ||| one 0 ||| one 1 ||| one 2 ||| one 3

/-- The sense lines that the straps of an identity present in read j. -/
def strapSense (straps : BitVec 16) (j : Fin 4) : BitVec 4 :=
  BitVec.ofNat 4 (packBits [straps.getLsbD j.val, straps.getLsbD (4 + j.val), straps.getLsbD (8 + j.val),
    straps.getLsbD (12 + j.val)])

/-! ## Trigger functions and matrix codes (12.3, 12.7) -/

/-- The bit of a trigger function. -/
def TrigFn.bit : TrigFn → Nat
  | .call .p0 => 0
  | .call .p1 => 1
  | .cancel .p0 => 2
  | .cancel .p1 => 3
  | .tamper => 4
  | .wake => 5

/-- The trigger functions in bit order. -/
def trigFns : List TrigFn := [.call .p0, .call .p1, .cancel .p0, .cancel .p1, .tamper, .wake]

/-- A cell or line number as a bounded number. -/
def finOf (n : Nat) (k : Nat) : Option (Fin n) := if h : k < n then some ⟨k, h⟩ else none

/-- The source of a code (12.7). -/
def Src.ofByte (b : Byte) : Option Src :=
  let v := b.toNat
  if v < 12 then (finOf 12 v).map Src.line
  else if 16 ≤ v ∧ v < 24 then (finOf 8 (v - 16)).map Src.cell
  else if v = 32 then some .const1
  else if v = 33 then some (.ctxActive .p0)
  else if v = 34 then some (.ctxActive .p1)
  else if v = 35 then some .supplyCritical
  else none

/-- The output source of a code (12.7). -/
def OutSrc.ofByte (b : Byte) : Option OutSrc :=
  let v := b.toNat
  if v = 0 then some (.connecting .p0)
  else if v = 1 then some (.connected .p0)
  else if v = 2 then some (.ringer .p0)
  else if v = 3 then some (.connecting .p1)
  else if v = 4 then some (.connected .p1)
  else if v = 5 then some (.ringer .p1)
  else if 16 ≤ v ∧ v < 24 then (finOf 8 (v - 16)).map OutSrc.cell
  else if v = 40 then some .notHealthy
  else if v = 41 then some .attnMirror
  else none

/-- The binding of a code (12.7). -/
def Binding.ofByte (b : Byte) : Option Binding :=
  let v := b.toNat
  if v < 12 then (finOf 12 v).map Binding.line
  else if 16 ≤ v ∧ v < 24 then (finOf 8 (v - 16)).map Binding.cell
  else if v = 255 then some .none
  else none

/-- A field line item, if it passes the check of R130: bytes group, class, polarity, output source. -/
def LineCfg.ofBytes (group cls pol src : Byte) : Option LineCfg :=
  if group = 0 then some .unused
  else if group = 1 then
    (if pol.toNat ≤ 1 then (finOf 4 cls.toNat).map (fun c => LineCfg.input c (decide (pol = 1))) else none)
  else if group = 2 then (OutSrc.ofByte src).map LineCfg.output
  else none

/-- A cell item, if it passes the check of R130; bit 0 of an inversion byte inverts. -/
def CellCfg.ofBytes (a ia b ib : Byte) : Option CellCfg :=
  match Src.ofByte a, Src.ofByte b with
  | some x, some y => some ⟨x, ia.getLsbD 0, y, ib.getLsbD 0⟩
  | _, _ => none

/-! ## Plan steps (12.6) -/

/-- A target: a step index below the plan length, or 0xFF for END (R48). -/
def targetOf (count : Nat) (b : Byte) : Option (Option Nat) :=
  if b = 0xFF then some none else if b.toNat < count then some (some b.toNat) else none

/-- A lane selector: 0 to 3, or 15 for ANY (R48). -/
def selectorOf (b : Byte) : Option (Option Lane) :=
  if b = 15 then some none else (Lane.ofNum b.toNat).map some

/-- An operator filter (R48). -/
def filterOf (b : Byte) : Option OpFilter :=
  if b = 0 then some .any else if b = 1 then some .allowed else if b = 2 then some .others else none

/-- The attempt fields of a staged step, if they pass the checks of R48. -/
def attemptOf (m : Memory) (a count : Nat) : Option AttemptStep :=
  match finOf 4 (m.read (a + 1)).toNat, selectorOf (m.read (a + 2)), filterOf (m.read (a + 4)),
      targetOf count (m.read (a + 10)), targetOf count (m.read (a + 11)) with
  | some number, some selector, some filter, some failTarget, some noneTarget =>
    let mask := (m.read (a + 3)).toNat
    let tries := (m.read (a + 5)).toNat
    let ring := m.num (a + 6) 2
    if mask < 16 ∧ 1 ≤ tries ∧ tries ≤ 9 ∧ 10 ≤ ring ∧ ring ≤ 300 then
      some { number, selector, genMask := BitVec.ofNat 4 mask, filter, tries, ring, failTarget, noneTarget }
    else none
  | _, _, _, _, _ => none

/-- A staged step at address a of a plan of count steps, if it passes the checks of R48. -/
def stepOf (m : Memory) (a count : Nat) : Option PlanStep :=
  let action := m.read a
  let wait := m.num (a + 8) 2
  if action = 0 then (attemptOf m a count).map PlanStep.attempt
  else if action = 1 then (attemptOf m a count).map PlanStep.direct
  else if action = 2 then (if 1 ≤ wait ∧ wait ≤ 600 then some (.pause wait) else none)
  else if action = 3 then (if 1 ≤ wait ∧ wait ≤ 600 then some (.rescan wait) else none)
  else if action = 4 then some .finish
  else none

/-! ## Contents of the part-written blocks -/

/-- The part status block from offset 2 (12.3). -/
def statusContent (s : State) : List Byte :=
  [s.rst.cause.code, s.supply.power.code, s.supply.level.code, flagByte s.plan.loaded, flagByte s.matrix.loaded,
    s.matrix.fns.setWidth 8]
  ++ bytesOf 2 s.supply.battery ++ bytesOf 2 (signed16 s.supply.t10) ++ bytesOf 2 s.supply.vmin
  ++ [BitVec.ofNat 8 s.startq.length]
  ++ ((s.startq.map (fun (e : QueueEntry) => BitVec.ofNat 8 e.lane.num)) ++ List.replicate 4 0xFF).take 4 ++ [0]
  ++ bytesOf 4 s.time.uptime.toNat ++ bytesOf 4 s.time.clock.toNat
  ++ bytesOf 2 s.counters.overwritten ++ bytesOf 2 s.counters.dropped ++ bytesOf 2 s.counters.discarded
  ++ bytesOf 2 s.counters.stale ++ bytesOf 2 s.counters.windowFaults ++ bytesOf 2 s.counters.linkTimeouts
  ++ bytesOf 2 s.counters.tamper

/-- The lane status block from offset 2 (12.8). While the lane is powered and no standby line state is in force, its byte goes
on showing the last one read, of which R94 is silent (DESIGN CHOICE, log entry 59). -/
def laneContent (r : LaneRec) (v : SurveyLane) : List Byte :=
  [r.state.code, r.owner.code] ++ bytesOf 2 r.identity.toNat
  ++ [BitVec.ofNat 8 (idFamily r.identity), (idMask r.identity).setWidth 8,
      BitVec.ofNat 8 (idStartClass r.identity), BitVec.ofNat 8 (idRevision r.identity)]
  ++ opBytes r.camp
  ++ [genByte r.camp, BitVec.ofNat 8 r.noResp, BitVec.ofNat 8 r.restarts, r.cause.code, flagByte r.forcedOff,
      r.standby.code, BitVec.ofNat 8 ((r.outTag.map Prod.fst).getD 0),
      ((r.outTag.map Prod.snd).getD .none).code, flagByte r.power]
  ++ bytesOf 4 r.lastWord.toNat ++ [0, 0] ++ timeBytes v.due
  ++ [flagByte v.due.isSome, v.stage.code, v.lastResult.code, BitVec.ofNat 8 v.lastSize]

/-- An entry place of the candidate mirror (12.9). -/
def entryContent (e : Entry) : List Byte :=
  [BitVec.ofNat 8 e.key.lane.num, BitVec.ofNat 8 e.key.gen.num] ++ bytesOf 3 e.key.op.toNat
  ++ [BitVec.ofNat 8 e.quality] ++ bytesOf 2 (signed16 e.level) ++ bytesOf 2 e.age
  ++ [BitVec.ofNat 8 e.fails, e.seen.code] ++ timeBytes e.barred
  ++ [flagByte e.barred.isSome, outcomeByte e.last] ++ bytesOf 2 e.score ++ [0, 0, 0, 0]

/-- The candidate mirror from offset 2 (12.9): count, entries in table order; places beyond the count are zeros. -/
def mirrorContent (t : List Entry) : List Byte :=
  [BitVec.ofNat 8 t.length, 0, 0, 0, 0, 0] ++ (t.map entryContent).flatten

/-- A history entry (12.10). -/
def histContent (h : HistEntry) : List Byte :=
  bytesOf 4 h.number.toNat ++ [laneByte (some h.lane), genByte h.net] ++ opBytes h.net
  ++ [BitVec.ofNat 8 h.step, outcomeByte h.outcome, 0] ++ bytesOf 2 h.score
  ++ bytesOf 2 (h.duration.getD 0) ++ [flagByte h.duration.isSome] ++ List.replicate 7 0

/-- A call record from offset 2 (12.10). -/
def recordContent (r : CallRecord) : List Byte :=
  [r.state.code, BitVec.ofNat 8 r.cp.num, r.kind.code, r.source.code, r.ctxState.code,
    flagByte r.firstConnect.isSome + 2 * flagByte r.ended.isSome]
  ++ bytesOf 2 r.seq.toNat ++ [0, 0] ++ bytesOf 4 r.start.toNat ++ timeBytes r.firstConnect ++ timeBytes r.ended
  ++ [outcomeByte r.last, outcomeByte r.final, r.location.code, BitVec.ofNat 8 r.step, laneByte r.lane,
      genByte r.cand] ++ opBytes r.cand ++ [BitVec.ofNat 8 r.presses]
  ++ bytesOf 2 r.connects ++ bytesOf 2 r.drops ++ bytesOf 2 r.offered ++ bytesOf 2 r.answered ++ bytesOf 2 r.passes
  ++ bytesOf 4 r.attempts.toNat ++ bytesOf 4 r.dropped.toNat ++ [BitVec.ofNat 8 r.history.length]
  ++ List.replicate 11 0 ++ (r.history.map histContent).flatten

/-- The request frame that a transaction sends (12.11). -/
def Transaction.frame (t : Transaction) : List Byte :=
  [BitVec.ofNat 8 t.lane.num, t.code.code, BitVec.ofNat 8 t.tag, BitVec.ofNat 8 t.args.length] ++ t.args

end Sys2Proof.Machine
end

