-- ==== Sys2Proof/Machine/Settings.lean ====
section
/-! DEFINITION. The settings (R155 to R157): each is read whole from the settings block at the moment of its use and
clamped there. While a host DATA write transaction is open the part reads the memory as it stood before the
transaction's first byte (R154; log entry 9). -/

namespace Sys2Proof.Machine

/-- The memory as the part reads the host's fields from it (R154). -/
def State.hostMem (s : State) : Memory := s.snap.getD s.mem

/-- A byte of the settings block. -/
def setting8 (s : State) (off : Nat) : Byte := s.hostMem.read (Config.settingsBase + off)

/-- A 16-bit field of the settings block. -/
def setting16 (s : State) (off : Nat) : Nat := s.hostMem.num (Config.settingsBase + off) 2

/-- Number list entry i (12.5): setup kind, digit count, ten digit bytes. -/
def numberEntry (s : State) (i : Fin 4) : NumberEntry :=
  { setup := SetupKind.ofByte (setting8 s (12 * i.val))
    count := (setting8 s (12 * i.val + 1)).toNat
    digits := s.hostMem.bytes (Config.settingsBase + 12 * i.val + 2) 10 }

/-- The part-side number check (R36): a count of 1 to 20 and every counted digit 0 to 9. -/
def NumberEntry.passes (e : NumberEntry) : Bool :=
  decide (1 ≤ e.count) && decide (e.count ≤ 20) && ((digitsOf e.digits).take e.count).all (fun d => decide (d ≤ 9))

/-- Location digit count, clamped to 0 to 24 (R112). -/
def locationCount (s : State) : Nat := clamp 0 24 (setting8 s 0x30).toNat

/-- The counted location digits (R112). -/
def locationDigits (s : State) : List Nat :=
  (digitsOf (s.hostMem.bytes (Config.settingsBase + 0x32) 12)).take (locationCount s)

/-- Allowed operator slot i. -/
def allowedSlot (s : State) (i : Nat) : OpCode :=
  BitVec.ofNat 24 (s.hostMem.num (Config.settingsBase + 0x40 + 4 * i) 3)

/-- An operator is in the allowed operator list: an empty or invalid slot matches none (R51, R155). -/
def operatorAllowed (s : State) (op : OpCode) : Bool :=
  [0, 1, 2, 3].any (fun i => (allowedSlot s i).valid && decide (allowedSlot s i = op))

/-- A generation's weight, clamped to 0 to 63 (R53). -/
def genWeight (s : State) (g : Gen) : Nat := clamp 0 63 (setting8 s (0x50 + (g.num - 2))).toNat

/-- Minimum score, 0 to 511. -/
def minimumScore (s : State) : Nat := clamp 0 511 (setting16 s 0x54)

/-- Survey yield, 0 to 7. -/
def surveyYield (s : State) : Nat := clamp 0 7 (setting8 s 0x56).toNat

/-- The lane that the watch lane setting names, 0 to 3 (R90). -/
def watchSetting (s : State) : Lane := (Lane.ofNum (clamp 0 3 (setting8 s 0x57).toNat)).getD .l0

/-- A lane's standby line state setting (R94). -/
def standbySetting (s : State) (l : Lane) : Standby := Standby.ofByte (setting8 s (0x58 + l.num))

/-- Reserve base, 9000 to 14000 mV (R179). -/
def reserveBase (s : State) : Nat := clamp 9000 14000 (setting16 s 0x5C)

/-- A timer setting by its place in the table of R157, clamped to its range. -/
def timerSetting (s : State) (i lo hi : Nat) : Nat := clamp lo hi (setting16 s (0x60 + 2 * i))

/-- Attach timeout. -/
def attachTimeoutOf (s : State) : Nat := timerSetting s 0 10 120
/-- Alert timeout. -/
def alertTimeoutOf (s : State) : Nat := timerSetting s 1 5 60
/-- Retry pause. -/
def retryPauseOf (s : State) : Nat := timerSetting s 2 5 600
/-- Callback window. -/
def callbackWindowOf (s : State) : Nat := timerSetting s 3 0 3600
/-- Location delay. -/
def locationDelayOf (s : State) : Nat := timerSetting s 4 0 10
/-- Survey interval. -/
def surveyIntervalOf (s : State) : Nat := timerSetting s 5 60 3600
/-- Scan timeout. -/
def scanTimeoutOf (s : State) : Nat := timerSetting s 6 30 300
/-- Candidate lifetime. -/
def lifetimeOf (s : State) : Nat := timerSetting s 7 300 7200
/-- Bar time. -/
def barTimeOf (s : State) : Nat := timerSetting s 8 30 3600
/-- Fail decay period. -/
def failDecayOf (s : State) : Nat := timerSetting s 9 60 3600
/-- Lane restart delay. -/
def restartDelayOf (s : State) : Nat := timerSetting s 10 10 600
/-- Probe interval. -/
def probeIntervalOf (s : State) : Nat := timerSetting s 11 10 600

end Sys2Proof.Machine
end

