-- ==== Sys2Proof/Machine/Ops.lean ====
section
/-! DEFINITION. Named access to the state: one context, one lane, one lane's survey fields, the link, the record of a
context. Every update below goes through the with-functions of State. -/

namespace Sys2Proof.Machine

/-- Context n. -/
def State.ctx (s : State) (n : Cp) : Context := s.ctxs.get n

/-- Change context n. -/
def modCtx (n : Cp) (f : Context → Context) (s : State) : State := s.withCtxs (s.ctxs.set n (f (s.ctx n)))

/-- Lane l's record. -/
def State.lane (s : State) (l : Lane) : LaneRec := s.lanes.get l

/-- Change lane l's record. -/
def modLane (l : Lane) (f : LaneRec → LaneRec) (s : State) : State := s.withLanes (s.lanes.set l (f (s.lane l)))

/-- Lane l's survey fields. -/
def State.scan (s : State) (l : Lane) : SurveyLane := s.survey.lanes.get l

/-- Change lane l's survey fields. -/
def modScan (l : Lane) (f : SurveyLane → SurveyLane) (s : State) : State :=
  s.withSurvey { s.survey with lanes := s.survey.lanes.set l (f (s.scan l)) }

/-- Change the link. -/
def modLink (f : Link → Link) (s : State) : State := s.withLink (f s.link)

/-- Change the matrix. -/
def modMatrix (f : Matrix → Matrix) (s : State) : State := s.withMatrix (f s.matrix)

/-- Change the supply fields. -/
def modSupply (f : Supply → Supply) (s : State) : State := s.withSupply (f s.supply)

/-- Change the host port. -/
def modPort (f : Port → Port) (s : State) : State := s.withPort (f s.port)

/-- Change the counters. -/
def modCounters (f : Counters → Counters) (s : State) : State := s.withCounters (f s.counters)

/-- A record. -/
def State.record (s : State) (i : Fin 12) : CallRecord := s.recs.all[i]

/-- Put a record. -/
def putRecord (i : Fin 12) (r : CallRecord) (s : State) : State :=
  s.withRecs { s.recs with all := s.recs.all.set i r }

/-- Change the OPEN record of context n, if it has one (R140). -/
def modRecord (n : Cp) (f : CallRecord → CallRecord) (s : State) : State :=
  match (s.ctx n).record with
  | none => s
  | some i => putRecord i (f (s.record i)) s

/-- Uptime. -/
def State.now (s : State) : Seconds := s.time.uptime

/-- A lane is usable (R85): present, not FAULTED, and its forced-off flag clear. -/
def LaneRec.usable (r : LaneRec) : Bool :=
  decide (r.state ≠ .absent) && decide (r.state ≠ .faulted) && !r.forcedOff

/-- A context is active in every state other than IDLE and CALLBACK_WATCH (R2). -/
def CtxState.isActive (st : CtxState) : Bool := decide (st ≠ .idle) && decide (st ≠ .callbackWatch)

/-- Survey is stopped while the supply level is CRITICAL or the power state is DORMANT (R81). -/
def State.surveyStopped (s : State) : Bool :=
  decide (s.supply.level = .critical) || decide (s.supply.power = .dormant)

/-- A lane is in the start queue. -/
def State.queued (s : State) (l : Lane) : Bool := s.startq.any (fun e => decide (e.lane = l))

/-- A lane is owned by a call context. -/
def Owner.isCtx : Owner → Bool
  | .ctx _ => true
  | .none => false
  | .survey => false

/-- A scan is in flight in OPENING, RUNNING and READING (R71). -/
def ScanStage.inFlight : ScanStage → Bool
  | .opening => true
  | .running => true
  | .reading => true
  | .none => false
  | .aborting => false

end Sys2Proof.Machine
end

