-- ==== Sys2Proof/Machine/Matrix.lean ====
section
/-! DEFINITION. The trigger matrix (R121 to R127, R130 to R134): sources, cells, evaluation, trigger functions, the
staged image and its checks. -/

namespace Sys2Proof.Machine

/-- The ATTN line is asserted while the register and the mask have a bit set in common (R158); it is released while
RESETn is low (R148). -/
def State.attnAsserted (s : State) : Bool :=
  decide (s.port.attention &&& s.port.mask ≠ 0) && !s.env.resetLow

/-- The CONNECTING lamp (R118). -/
def State.connectingLamp (s : State) (n : Cp) : Bool := ((s.lamps.get n).flash.map Phase.on).getD false

/-- The CONNECTED lamp (R118). -/
def State.connectedLamp (s : State) (n : Cp) : Bool := decide ((s.ctx n).state = .connected)

/-- The ringer (R118). -/
def State.ringerOn (s : State) (n : Cp) : Bool := ((s.lamps.get n).ringer.map Phase.on).getD false

/-- The eight cell numbers. -/
def cellIndexes : List (Fin 8) := [0, 1, 2, 3, 4, 5, 6, 7]

/-- The twelve line numbers. -/
def lineIndexes : List (Fin 12) := [0, 1, 2, 3, 4, 5, 6, 7, 8, 9, 10, 11]

/-- The debounced levels, or another twelve bits of the field lines, with one line's replaced. -/
def setLevel (levels : BitVec 12) (i : Fin 12) (v : Bool) : BitVec 12 :=
  BitVec.ofNat 12 (packBits (lineIndexes.map (fun j => if j = i then v else levels.getLsbD j.val)))

/-- The value of a field line as the matrix has it, over given cell outputs (R121, R123). -/
def Matrix.lineValue (m : Matrix) (cells : BitVec 8) (i : Fin 12) : Bool :=
  match m.config.lines[i] with
  | .unused => false
  | .input _ _ => m.debounced.getLsbD i.val
  | .output (.cell j) => cells.getLsbD j.val
  | .output (.connecting _) => m.sources.lines.getLsbD i.val
  | .output (.connected _) => m.sources.lines.getLsbD i.val
  | .output (.ringer _) => m.sources.lines.getLsbD i.val
  | .output .notHealthy => m.sources.lines.getLsbD i.val
  | .output .attnMirror => m.sources.lines.getLsbD i.val

/-- The value of a source as the matrix has it (R124). -/
def Matrix.srcValue (m : Matrix) (cells : BitVec 8) : Src → Bool
  | .line i => m.lineValue cells i
  | .cell j => cells.getLsbD j.val
  | .const1 => true
  | .ctxActive n => m.sources.active.get n
  | .supplyCritical => m.sources.critical

/-- A cell's output from its two inputs after inversion, by its fixed type; for a latch, old is its state before the
evaluation, the reset input B wins, and both at 0 hold (R125). -/
def gate (j : Nat) (old a b : Bool) : Bool :=
  if j ≤ 1 then a && b
  else if j = 2 then !(a && b)
  else if j ≤ 4 then a || b
  else if j = 5 then a != b
  else if b then false
  else if a then true
  else old

/-- Cell j's output over given cell outputs. -/
def Matrix.cellOutput (m : Matrix) (cells : BitVec 8) (j : Fin 8) : Bool :=
  let c := m.config.cells[j]
  gate j.val (m.cells.getLsbD j.val) (m.srcValue cells c.a != c.invA) (m.srcValue cells c.b != c.invB)

/-- Every cell computed once over given cell outputs. -/
def Matrix.cellSweep (m : Matrix) (cells : BitVec 8) : BitVec 8 :=
  BitVec.ofNat 8 (packBits (cellIndexes.map (m.cellOutput cells)))

/-- The cell outputs of an evaluation (R126): no path of the configuration runs through more than eight cells, since it
contains no cycle (R131), so eight sweeps compute each cell after the sources it depends on. -/
def Matrix.evalCells (m : Matrix) : Nat → BitVec 8 → BitVec 8
  | 0, cells => cells
  | k + 1, cells => m.evalCells k (m.cellSweep cells)

/-- The value of a binding (R124). -/
def Matrix.bindValue (m : Matrix) (cells : BitVec 8) : Binding → Bool
  | .none => false
  | .line i => m.lineValue cells i
  | .cell j => cells.getLsbD j.val

/-- The trigger function values over given cell outputs. -/
def Matrix.fnValues (m : Matrix) (cells : BitVec 8) : BitVec 6 :=
  BitVec.ofNat 6 (packBits (([0, 1, 2, 3, 4, 5] : List (Fin 6)).map (fun f => m.bindValue cells m.config.binds[f])))

/-- The cells and the trigger functions take the values of an evaluation; a change of any function value is one rewrite of
the part status block (R120, R126, R127). -/
def Matrix.computed (m : Matrix) : Matrix :=
  let cells := m.evalCells 8 m.cells
  let fns := m.fnValues cells
  { m with cells := cells, fns := fns, unshown := if fns = m.fns then m.unshown else m.unshown + 1 }

/-- The functions that rise between two sets of values (R127). -/
def rises (old new : BitVec 6) : List TrigFn :=
  trigFns.filter (fun f => !old.getLsbD f.bit && new.getLsbD f.bit)

/-- One evaluation of the matrix (R126): the cells take their values, the trigger function values are compared with
those of the previous evaluation, and each rise is an event handed to its consumer (R127). -/
def Matrix.evaluated (m : Matrix) : Matrix :=
  { m.computed with raised := m.raised ++ rises m.fns m.computed.fns }

/-- The sources outside the matrix whose changes start an evaluation (R126), in the order in which changes that reach it
together are taken (log entry 47). -/
inductive OuterSource where
  | active (n : Cp)
  | critical
  | line (i : Fin 12)
deriving DecidableEq, Repr

/-- Every such source, in order. -/
def outerSources : List OuterSource := [.active .p0, .active .p1, .critical] ++ lineIndexes.map OuterSource.line

/-- The present value of a source outside the matrix (R121, R123, R124); an OUTPUT line whose source is a cell follows its
cell within the evaluation, and an INPUT line its debounced level, so neither is counted here. -/
def presentValue (s : State) (c : MatrixCfg) : OuterSource → Bool
  | .active n => (s.ctx n).state.isActive
  | .critical => decide (s.supply.level = .critical)
  | .line i =>
    match c.lines[i] with
    | .unused => false
    | .input _ _ => false
    | .output (.cell _) => false
    | .output (.connecting n) => s.connectingLamp n
    | .output (.connected n) => s.connectedLamp n
    | .output (.ringer n) => s.ringerOn n
    | .output .notHealthy => decide (s.supply.level ≠ .healthy)
    | .output .attnMirror => s.attnAsserted

/-- The value of a source as taken. -/
def Sources.value (v : Sources) : OuterSource → Bool
  | .active n => v.active.get n
  | .critical => v.critical
  | .line i => v.lines.getLsbD i.val

/-- A source as taken takes a value. -/
def Sources.put (v : Sources) (b : Bool) : OuterSource → Sources
  | .active n => { v with active := v.active.set n b }
  | .critical => { v with critical := b }
  | .line i => { v with lines := setLevel v.lines i b }

/-- A change of one source is taken, in an evaluation of its own (R126); unchanged, nothing. -/
def takeSource (s : State) (m : Matrix) (c : OuterSource) : Matrix :=
  let now := presentValue s m.config c
  if m.sources.value c = now then m else Matrix.evaluated { m with sources := m.sources.put now c }

/-- The matrix takes every change of its sources outside it, one evaluation for each (R126). -/
def evalMatrix (s : State) : State := modMatrix (fun m => outerSources.foldl (takeSource s) m) s

/-- The evaluation that follows a reset or a load: latches cleared, every source as it stands, then evaluated, and the
values found become the baseline with no event (R132, R134). -/
def baselineMatrix (s : State) : State :=
  modMatrix (fun m => Matrix.computed { m with
    cells := m.cells &&& 0x3F
    sources :=
      { lines := BitVec.ofNat 12 (packBits (lineIndexes.map (fun i => presentValue s m.config (.line i))))
        active := ⟨presentValue s m.config (.active .p0), presentValue s m.config (.active .p1)⟩
        critical := presentValue s m.config .critical } }) s

/-- The pin level of a line taken through its polarity; only an INPUT line is sampled (R121, R122). -/
def sampledLevel (s : State) (i : Fin 12) : Bool :=
  match s.matrix.config.lines[i] with
  | .input _ inverted => s.env.pins.getLsbD i.val != inverted
  | .unused => false
  | .output _ => false

/-- The levels that every INPUT line samples now (R134). -/
def sampleAll (s : State) : BitVec 12 := BitVec.ofNat 12 (packBits (lineIndexes.map (sampledLevel s)))

/-- The matrix starts again at a reset (R134): INPUT lines take the sampled level, timers stop, latches are cleared, and
the values found are the baseline; events not yet taken are gone, and the reset's own rewrites of the part status block
publish the baseline (R134, R162). -/
def restartMatrix (s : State) : State :=
  modMatrix (fun m => { m with unshown := 0 }) (baselineMatrix (modMatrix (fun m =>
    { m with debounced := sampleAll s, timers := Vector.replicate 12 none, raised := [] }) s))

/-- The CALL functions at 1 (R132, R134). -/
def callsAtOne (s : State) : Duo Bool := ⟨s.matrix.fns.getLsbD 0, s.matrix.fns.getLsbD 1⟩

/-- The debounce time of a class, in milliseconds (R122). -/
def debounceMs : Fin 4 → Nat
  | 0 => 0
  | 1 => 20
  | 2 => 80
  | 3 => 300

/-! ## The staged image (R130, R131) -/

/-- Twelve things, one for each field line. -/
def vec12 {α : Type} (f : Fin 12 → α) : Vector α 12 :=
  #v[f 0, f 1, f 2, f 3, f 4, f 5, f 6, f 7, f 8, f 9, f 10, f 11]

/-- Eight things, one for each cell. -/
def vec8 {α : Type} (f : Fin 8 → α) : Vector α 8 := #v[f 0, f 1, f 2, f 3, f 4, f 5, f 6, f 7]

/-- Six things, one for each trigger function. -/
def vec6 {α : Type} (f : Fin 6 → α) : Vector α 6 := #v[f 0, f 1, f 2, f 3, f 4, f 5]

/-- What R130 finds: the first bad item, or the image. -/
inductive ImageCheck where
  | bad (item : Nat)
  | good (c : MatrixCfg)

/-- Byte b of staged item n. -/
def itemByte (m : Memory) (n b : Nat) : Byte := m.read (Config.matrixBase + 4 * n + b)

/-- Staged field line n. -/
def stagedLine (m : Memory) (n : Nat) : Option LineCfg :=
  LineCfg.ofBytes (itemByte m n 0) (itemByte m n 1) (itemByte m n 2) (itemByte m n 3)

/-- Staged cell n, item 12 + n. -/
def stagedCell (m : Memory) (n : Nat) : Option CellCfg :=
  CellCfg.ofBytes (itemByte m (12 + n) 0) (itemByte m (12 + n) 1) (itemByte m (12 + n) 2) (itemByte m (12 + n) 3)

/-- Staged binding n, item 20 + n. -/
def stagedBind (m : Memory) (n : Nat) : Option Binding := Binding.ofByte (itemByte m (20 + n) 0)

/-- Whether staged item n passes its check. -/
def itemPasses (m : Memory) (n : Nat) : Bool :=
  if n < 12 then (stagedLine m n).isSome
  else if n < 20 then (stagedCell m (n - 12)).isSome
  else (stagedBind m (n - 20)).isSome

/-- The staged image, where every item passes (R130). -/
def stagedConfig (m : Memory) : MatrixCfg :=
  { lines := vec12 (fun i : Fin 12 => (stagedLine m i.val).getD .unused)
    cells := vec8 (fun j : Fin 8 => (stagedCell m j.val).getD ⟨.const1, false, .const1, false⟩)
    binds := vec6 (fun f : Fin 6 => (stagedBind m f.val).getD .none) }

/-- The check of the items in item index order (R130). -/
def checkImage (m : Memory) : ImageCheck :=
  match (List.range 26).find? (fun n => !itemPasses m n) with
  | some n => .bad n
  | none => .good (stagedConfig m)

/-- The cells that a source depends on at once: a cell, or an OUTPUT line whose source is a cell (R131). -/
def Src.cells (c : MatrixCfg) : Src → List (Fin 8)
  | .cell j => [j]
  | .line i =>
    match c.lines[i] with
    | .output (.cell j) => [j]
    | _ => []
  | .const1 => []
  | .ctxActive _ => []
  | .supplyCritical => []

/-- The cells that a cell depends on at once. -/
def cellDeps (c : MatrixCfg) (j : Fin 8) : List (Fin 8) := (c.cells[j].a).cells c ++ (c.cells[j].b).cells c

/-- The cells reached from a set of cells in at most k further dependencies. -/
def reachCells (c : MatrixCfg) : Nat → List (Fin 8) → List (Fin 8)
  | 0, found => found
  | k + 1, found =>
    reachCells c k (cellIndexes.filter (fun j => decide (j ∈ found) || found.any (fun i => decide (j ∈ cellDeps c i))))

/-- A cell lies on a cycle: it depends, directly or through others, on itself (R131). -/
def onCycle (c : MatrixCfg) (j : Fin 8) : Bool := decide (j ∈ reachCells c 8 (cellDeps c j))

/-- The lowest-numbered cell on a cycle (R131). -/
def firstCycle (c : MatrixCfg) : Option (Fin 8) := cellIndexes.find? (onCycle c)

/-- A line stays INPUT with the same polarity across a load (R132). -/
def keepsInput (old new : LineCfg) : Bool :=
  match old, new with
  | .input _ p, .input _ q => decide (p = q)
  | _, _ => false

/-- The image becomes the active configuration and the running state is set (R132, steps 1 to 4). -/
def takeImage (c : MatrixCfg) (s : State) : State :=
  let old := s.matrix.config
  let s' := modMatrix (fun m => { m with config := c, loaded := true }) s
  let levels := BitVec.ofNat 12 (packBits (lineIndexes.map (fun i =>
    if keepsInput old.lines[i] c.lines[i] then s.matrix.debounced.getLsbD i.val else sampledLevel s' i)))
  let timers := vec12 (fun i : Fin 12 =>
    if keepsInput old.lines[i] c.lines[i] then s.matrix.timers[i] else none)
  baselineMatrix (modMatrix (fun m => { m with debounced := levels, timers := timers }) s')

end Sys2Proof.Machine
end

