-- ==== Sys2Proof/Machine/Flags.lean ====
section
/-! DEFINITION. The attention register and the seven counters (R158, R160), and the rewrites of the part status block
and of the lane status blocks (R86, R159). -/

namespace Sys2Proof.Machine

/-- The attention bits (R158). -/
inductive Attn where
  | order | record | lane | table | supply | trigger | window | reset
deriving DecidableEq, Repr

/-- The mask of an attention bit. -/
def Attn.mask : Attn → Byte
  | .order => 0x01
  | .record => 0x02
  | .lane => 0x04
  | .table => 0x08
  | .supply => 0x10
  | .trigger => 0x20
  | .window => 0x40
  | .reset => 0x80

/-- A block raises an attention bit (R158). The register is 0 until the ready flag is set, so a raise before that is
covered by RESET (R86, R70, R147, R175, R186). The attention mirror may change with it, so the matrix is evaluated. -/
def raise (b : Attn) (s : State) : State :=
  if s.port.ready then evalMatrix (modPort (fun p => { p with attention := p.attention ||| b.mask }) s) else s

/-- The largest value of a counter (R160). -/
def counterMax : Nat := 65535

/-- Stale events + 1 (R103). -/
def countStale (s : State) : State := modCounters (fun c => { c with stale := satInc counterMax c.stale }) s

/-- Scan entries discarded + 1 (R160). -/
def countDiscarded (s : State) : State :=
  modCounters (fun c => { c with discarded := satInc counterMax c.discarded }) s

/-- Candidates dropped + 1 (R58). -/
def countDropped (s : State) : State := modCounters (fun c => { c with dropped := satInc counterMax c.dropped }) s

/-- Records overwritten + 1 (R138). -/
def countOverwritten (s : State) : State :=
  modCounters (fun c => { c with overwritten := satInc counterMax c.overwritten }) s

/-- Link timeouts + 1 (R101). -/
def countTimeout (s : State) : State :=
  modCounters (fun c => { c with linkTimeouts := satInc counterMax c.linkTimeouts }) s

/-- Tamper events + 1 (R129). -/
def countTamper (s : State) : State := modCounters (fun c => { c with tamper := satInc counterMax c.tamper }) s

/-- Window faults + 1 (R152). -/
def countWindow (s : State) : State :=
  modCounters (fun c => { c with windowFaults := satInc counterMax c.windowFaults }) s

/-! ## Rewrites -/

/-- The bytes of the part status block after its revision count that the part writes. -/
def statusSize : Nat := 42

/-- The part status block is rewritten (R159). -/
def rewriteStatus (s : State) : State :=
  s.withMem (s.mem.rewrite Config.statusBase statusSize (statusContent s))

/-- The block with its present revision count and the content it should show; equal to the memory when nothing that it
publishes has changed. -/
def Memory.shown (m : Memory) (base size : Nat) (content : List Byte) : Memory :=
  m.place (base + 2) (size - 2) content

/-- k rewrites of the part status block. -/
def rewriteStatuses : Nat → State → State
  | 0, s => s
  | k + 1, s => rewriteStatuses k (rewriteStatus s)

/-- The changes of the part status block are published (R159): one rewrite for each evaluation of the matrix that has
changed a function value, a value that has risen and fallen again included (R120, R127); without such a one, one rewrite
when what the block shows is not what it should. An event that leaves every field as it was makes no rewrite, that on a
counter at 65535 included (DESIGN CHOICE, log entry 48; R160). -/
def flushStatus (s : State) : State :=
  if s.matrix.unshown = 0 then
    (if s.mem.shown Config.statusBase statusSize (statusContent s) ≠ s.mem then rewriteStatus s else s)
  else rewriteStatuses s.matrix.unshown (modMatrix (fun m => { m with unshown := 0 }) s)

/-- The first address of a lane's status block (12.8). -/
def laneAddr (l : Lane) : Nat := Config.laneBase + 64 * l.num

/-- The bytes of a lane status block that the part writes. -/
def laneSize : Nat := 36

/-- A lane status block is rewritten under its revision count. -/
def writeLane (l : Lane) (s : State) : State :=
  s.withMem (s.mem.rewrite (laneAddr l) laneSize (laneContent (s.lane l) (s.scan l)))

/-- A lane status block is rewritten and LANE is raised, whatever the block showed before (R97). -/
def showLane (l : Lane) (s : State) : State := raise .lane (writeLane l s)

/-- A lane status block is rewritten, and LANE is raised when the lane's state or owner has changed (R86). -/
def rewriteLane (l : Lane) (s : State) : State :=
  let old := (s.mem.read (laneAddr l + 2), s.mem.read (laneAddr l + 3))
  let s' := writeLane l s
  if old ≠ ((s.lane l).state.code, (s.lane l).owner.code) then raise .lane s' else s'

/-- A change of a published field of a lane is published by one rewrite (R86); during a reset a lane's block waits for
its identification (R86, R162). -/
def flushLane (l : Lane) (s : State) : State :=
  if !s.port.ready && (s.lane l).ident.isSome then s
  else if s.mem.shown (laneAddr l) laneSize (laneContent (s.lane l) (s.scan l)) ≠ s.mem then rewriteLane l s
  else s

/-- What one event has changed of the lanes and of the part's status is published before the lane manager or the survey
engine takes the next (R86, R159). -/
def publishBlocks (s : State) : State :=
  s |> flushLane .l0 |> flushLane .l1 |> flushLane .l2 |> flushLane .l3 |> flushStatus

end Sys2Proof.Machine
end

