-- ==== Sys2Proof/Machine/Table.lean ====
section
/-! DEFINITION. The candidate table (R49 to R70): scoring, order, insertion and update, outcomes, removal, and the
publication of the mirror. -/

namespace Sys2Proof.Machine

/-! ## Score and order -/

/-- The score of six inputs and a bar (R54). Every quotient here is of counts, so it rounds down. -/
def scoreValue (level : Int) (quality weight age fails penalty : Nat) (barred : Bool) : Nat :=
  let base : Int := (level + 125) * 4
  let bonus : Int := (quality * 10 : Nat)
  let agePenalty : Int := (min (age / 16) 100 : Nat)
  let failPenalty : Int := (min (fails * 48) 240 : Nat)
  let lanePenalty : Int := (penalty * 20 : Nat)
  if barred then 0
  else (clampInt 0 511 (base + bonus + weight - agePenalty - failPenalty - lanePenalty)).toNat

/-- An entry's age at a scoring (R56). -/
def ageOf (now updated : Seconds) : Nat := min (elapsed now updated) 65535

/-- An entry is scored: its age and its stored score are calculated (R55). -/
def scored (s : State) (e : Entry) : Entry :=
  let age := ageOf s.now e.updated
  { e with
    age := age
    score := scoreValue e.level e.quality (genWeight s e.key.gen) age e.fails (s.lane e.key.lane).noResp
      e.barred.isSome }

/-- A level as it is stored (R53). -/
def storedLevel (v : Int) : Int := clampInt (-125) (-45) v

/-- A quality as it is stored (R53). -/
def storedQuality (q : Nat) : Nat := clamp 0 7 q

/-- The table order (R52): each stage decides between entries that the stages before it leave equal. -/
def Entry.before (a b : Entry) : Bool :=
  if a.score ≠ b.score then decide (b.score < a.score)
  else if a.level ≠ b.level then decide (b.level < a.level)
  else if a.key.lane ≠ b.key.lane then decide (a.key.lane.num < b.key.lane.num)
  else if a.key.op ≠ b.key.op then a.key.op.less b.key.op
  else decide (b.key.gen.num ≤ a.key.gen.num)

/-- The table re-ordered (R52). -/
def ordered (t : List Entry) : List Entry := t.insertionSort (fun a b => a.before b = true)

/-! ## The mirror -/

/-- The bytes of the mirror region: 12.9 writes the rest of the region as 0. -/
def mirrorSize : Nat := 0x300

/-- A change of the table: it takes its new entries, re-ordered, the mirror is rewritten, and TABLE is raised (R69). -/
def publishTable (t : List Entry) (s : State) : State :=
  let t := ordered t
  raise .table ((s.withTable t).withMem (s.mem.rewrite Config.mirrorBase mirrorSize (mirrorContent t)))

/-- An entry of a key. -/
def State.entry (s : State) (k : CandKey) : Option Entry := s.table.find? (fun e => decide (e.key = k))

/-- The entry of a key is changed and scored, and the change is published; no entry, no change. -/
def changeEntry (k : CandKey) (f : Entry → Entry) (s : State) : State :=
  if (s.entry k).isSome then
    publishTable (s.table.map (fun e => if e.key = k then scored s (f e) else e)) s
  else s

/-! ## Reports -/

/-- A network report: where it came from and what it says (3.6). -/
structure Report where
  lane    : Lane
  op      : OpCode
  gen     : Gen
  level   : Int
  quality : Nat
  source  : SeenBy
deriving DecidableEq, Repr

/-- The report's key. -/
def Report.key (r : Report) : CandKey := ⟨r.lane, r.op, r.gen⟩

/-- A new entry of a report, scored (R49, R57). -/
def newEntry (s : State) (r : Report) : Entry :=
  scored s
    { key := r.key, level := storedLevel r.level, quality := storedQuality r.quality, age := 0, fails := 0,
      barred := none, last := none, seen := r.source, score := 0, updated := s.now, failChange := s.now }

/-- An entry updated by a report (R59); a direct attempt's also clears the fails (R38). -/
def updateEntry (s : State) (r : Report) (clearFails : Bool) (e : Entry) : Entry :=
  let e := { e with level := storedLevel r.level, quality := storedQuality r.quality, updated := s.now,
                    seen := r.source }
  if clearFails then { e with fails := 0, failChange := s.now } else e

/-- A lane takes reports (R57): it is not ABSENT, FAULTED or forced off. -/
def takesReports (r : LaneRec) : Bool := r.usable

/-- A report is offered to the table (R50, R57 to R59). An invalid operator code or a lane out of service discards and
counts it; an entry of its key is updated; otherwise it is inserted, by the full-table rule when 24 entries stand. -/
def offer (r : Report) (clearFails : Bool) (s : State) : State :=
  if !r.op.valid then countDiscarded s
  else if !takesReports (s.lane r.lane) then countDiscarded s
  else if (s.entry r.key).isSome then changeEntry r.key (updateEntry s r clearFails) s
  else if s.table.length < Config.tableSize then publishTable (newEntry s r :: s.table) s
  else
    match s.table.getLast? with
    | none => s
    | some lowest =>
      if lowest.score < (newEntry s r).score then publishTable (newEntry s r :: s.table.dropLast) s
      else countDropped s

/-- A LEVEL_REPORT on a camped lane (R60). -/
def levelReport (l : Lane) (level : Int) (s : State) : State :=
  match (s.lane l).camp with
  | none => s
  | some n =>
    changeEntry ⟨l, n.op, n.gen⟩
      (fun e => { e with level := storedLevel level, updated := s.now, seen := .event }) s

/-! ## Outcomes -/

/-- What an outcome changes in an entry (R46, R61). -/
def applyToEntry (s : State) (o : CallOutcome) (e : Entry) : Entry :=
  let e := if o.addsFail then { e with fails := satInc 15 e.fails, failChange := s.now } else e
  let e := if o = .connected then { e with fails := 0, failChange := s.now } else e
  let e := if o.cls = .bar then { e with barred := some (later s.now (barTimeOf s)) } else e
  { e with last := some o }

/-- An outcome is applied to a candidate (R46): terminal outcomes and LANE_FAULT leave the table as it is, and so does
an outcome whose candidate is not in the table. -/
def outcomeToTable (k : Option CandKey) (o : CallOutcome) (s : State) : State :=
  match k with
  | none => s
  | some k => if o.cls = .terminal ∨ o = .laneFault then s else changeEntry k (applyToEntry s o) s

/-! ## Removal and re-scoring -/

/-- Every entry of the named lanes is removed, in one change; none there, no change (R66, R67). -/
def removeLanes (named : Lane → Bool) (s : State) : State :=
  if s.table.any (fun e => named e.key.lane) then publishTable (s.table.filter (fun e => !named e.key.lane)) s else s

/-- A lane leaves service: its entries are removed, and the lane falls due for survey when it becomes READY (R66, R72). -/
def removeLane (l : Lane) (s : State) : State :=
  modLane l (fun r => { r with removed := true }) (removeLanes (fun m => decide (m = l)) s)

/-- The entries of a lane are scored with its present no-response count (R68). Of a lane without entries nothing is scored
and nothing is published, which R68 and R69 leave open (DESIGN CHOICE, log entry 53). -/
def rescoreLane (l : Lane) (s : State) : State :=
  if s.table.any (fun e => decide (e.key.lane = l)) then
    publishTable (s.table.map (fun e => if e.key.lane = l then scored s e else e)) s
  else s

/-- A lane's no-response count takes a value of 0 to 2; a change re-scores the lane's entries (R68, R96). -/
def setNoResp (l : Lane) (n : Nat) (s : State) : State :=
  if (s.lane l).noResp = n then s else rescoreLane l (modLane l (fun r => { r with noResp := n }) s)

/-! ## The score tick -/

/-- An entry has outlived the candidate lifetime (R65). -/
def outlived (s : State) (e : Entry) : Bool := decide (lifetimeOf s ≤ ageOf s.now e.updated)

/-- A bar whose time has come (R63). -/
def barDue (s : State) (e : Entry) : Bool := expired s.now e.barred

/-- The bar lifted, if its time has come (R63). -/
def liftBar (s : State) (e : Entry) : Entry := if barDue s e then { e with barred := none } else e

/-- A fail count above 0 whose decay period has passed (R64). -/
def failDue (s : State) (e : Entry) : Bool :=
  decide (0 < e.fails) && reached s.now (later e.failChange (failDecayOf s))

/-- The fail count one lower, if its period has passed (R64). -/
def decayFail (s : State) (e : Entry) : Entry :=
  if failDue s e then { e with fails := e.fails - 1, failChange := s.now } else e

/-- One entry at a score tick, after the lifetime check (R62, steps 3 to 5). -/
def tickEntry (s : State) (e : Entry) : Entry := scored s (decayFail s (liftBar s e))

end Sys2Proof.Machine
end

