-- ==== Sys2Proof/Machine/Records.lean ====
section
/-! DEFINITION. The record writer (R135 to R147): opening, updating, the attempt history, closing, release. -/

namespace Sys2Proof.Machine

/-- The twelve records in index order. -/
def recordIndexes : List (Fin 12) := [0, 1, 2, 3, 4, 5, 6, 7, 8, 9, 10, 11]

/-- The first address of a record (12.10). -/
def recordAddr (i : Fin 12) : Nat := Config.recordBase + 256 * i.val

/-- The bytes of a record. -/
def recordSize : Nat := 256

/-- A record is rewritten whole under its revision count (R137). -/
def rewriteRecord (i : Fin 12) (s : State) : State :=
  s.withMem (s.mem.rewrite (recordAddr i) recordSize (recordContent (s.record i)))

/-- The operator and generation of a candidate (R136). -/
def CandKey.network (k : CandKey) : Network := ⟨k.op, k.gen⟩

/-- What a record shows of its context (R1, R136): state, step index, current lane (the lane of a pending claim while
it waits for one), current candidate. -/
def shownIn (c : Context) (r : CallRecord) : CallRecord :=
  { r with
    ctxState := c.state
    step := c.step
    lane := c.lane.orElse (fun _ => c.pendingClaim)
    cand := c.current.map CandKey.network }

/-- All that one event changed of context n's record is published in one rewrite (R137, R140). Where nothing of it has changed
there is none, a repeat press on a count that stands at 255 included (DESIGN CHOICE, log entry 48); a step move and a location
status written over the same value rewrite the record themselves (showRecord, rewriteOwn). -/
def flushRecord (n : Cp) (s : State) : State :=
  match (s.ctx n).record with
  | none => s
  | some i =>
    let s' := putRecord i (shownIn (s.ctx n) (s.record i)) s
    if s'.mem.shown (recordAddr i) recordSize (recordContent (s'.record i)) ≠ s'.mem then rewriteRecord i s' else s'

/-- Context n's record is rewritten whether or not a field of it has changed, as on every step move (R33, R140). -/
def showRecord (n : Cp) (s : State) : State :=
  match (s.ctx n).record with
  | none => s
  | some i => rewriteRecord i (putRecord i (shownIn (s.ctx n) (s.record i)) s)

/-- What one event has changed is published before the next one is taken: each record, each lane status block and the part
status block in one rewrite (R86, R137, R159; log entry 12). A record so shows every state that its context enters, the
passage through SELECTING included (R136), and a lane's block every owner (R71). -/
def publish (s : State) : State := publishBlocks (flushRecord .p1 (flushRecord .p0 s))

/-- The record a call is opened in (R138): the first FREE one, else the first CLOSED TEST one of the close order, else
the first of the close order. -/
def chooseRecord (s : State) : Option (Fin 12) :=
  match recordIndexes.find? (fun i => decide ((s.record i).state = .free)) with
  | some i => some i
  | none =>
    match s.recs.closeOrder.find? (fun i => decide ((s.record i).kind = .test)) with
    | some i => some i
    | none => s.recs.closeOrder.head?

/-- The record of a call that opens now (R136, "At opening"). -/
def openedRecord (s : State) (n : Cp) (kind : CallKind) (source : CallSource) : CallRecord :=
  { CallRecord.blank with
    state := .opened, seq := s.recs.nextSeq, cp := n, kind := kind, source := source, ctxState := .selecting,
    start := s.time.clock, lane := (s.ctx n).lane }

/-- A record is opened for a call request (R138); RECORD is raised when its rewrite ends (R146). At least eleven
records are FREE or CLOSED at that moment (R138), so there is always one to choose. -/
def openRecord (n : Cp) (kind : CallKind) (source : CallSource) (s : State) : State :=
  match chooseRecord s with
  | none => s
  | some i =>
    let s := if (s.record i).state = .closed then
        countOverwritten (s.withRecs { s.recs with closeOrder := s.recs.closeOrder.filter (fun j => decide (j ≠ i)) })
      else s
    let s := putRecord i (openedRecord s n kind source) s
    let s := s.withRecs { s.recs with nextSeq := s.recs.nextSeq + 1 }
    let s := modCtx n (fun c => { c with record := some i }) s
    raise .record (rewriteRecord i s)

/-- An attempt starts (R41, R142, R143): one more try, one more attempt, a new entry at the front of the history; the
oldest of eight entries makes room and is counted. -/
def beginAttempt (n : Cp) (l : Lane) (net : Option Network) (score : Nat) (s : State) : State :=
  let step := (s.ctx n).step
  let s := modCtx n (fun c => { c with tries := c.tries + 1, attempt := some ⟨s.now, false⟩ }) s
  modRecord n (fun r =>
    { r with
      attempts := r.attempts + 1
      dropped := if r.history.length < Config.historySize then r.dropped else r.dropped + 1
      history := (⟨r.attempts + 1, l, net, step, score, none, none⟩ : HistEntry)
        :: r.history.take (Config.historySize - 1) }) s

/-- The history entry of an attempt that ends (R142). -/
def completeEntry (o : CallOutcome) (duration : Nat) : List HistEntry → List HistEntry
  | [] => []
  | h :: hs => { h with outcome := some o, duration := some duration } :: hs

/-- The attempt in progress ends (R41, R142): its entry takes the outcome, or CONNECTED if it reached CONNECTED, and its
duration in uptime. Without an attempt in progress, nothing. -/
def endAttempt (n : Cp) (o : CallOutcome) (s : State) : State :=
  match (s.ctx n).attempt with
  | none => s
  | some a =>
    let o := if a.connected then .connected else o
    let s' := modRecord n (fun r =>
      { r with history := completeEntry o (min (elapsed s.now a.start) 65535) r.history }) s
    modCtx n (fun c => { c with attempt := none }) s'

/-- The network and the score of the attempt in progress are written when a direct attempt's ATTACH_DONE is taken
(R38, R142). -/
def fillAttempt (n : Cp) (net : Network) (score : Nat) (s : State) : State :=
  modRecord n (fun r =>
    match r.history with
    | [] => r
    | h :: hs => { r with history := { h with net := some net, score := score } :: hs }) s

/-- An outcome is written as the record's last outcome (R8). -/
def setLast (n : Cp) (o : CallOutcome) (s : State) : State := modRecord n (fun r => { r with last := some o }) s

/-- The location status of context n's record (R117). -/
def setLocation (n : Cp) (v : LocStatus) (s : State) : State := modRecord n (fun r => { r with location := v }) s

/-- Context n's record is rewritten for an event that writes one of its fields, whether or not the field's value changes, as
the end of a burst writes SENT over SENT (R140 and the example of 8.10). -/
def rewriteOwn (n : Cp) (s : State) : State :=
  match (s.ctx n).record with
  | none => s
  | some i => rewriteRecord i s

/-- The last outcome of context n's record. -/
def lastOutcome (s : State) (n : Cp) : Option CallOutcome := (s.ctx n).record.bind (fun i => (s.record i).last)

/-- A closed record (R144). -/
def closedRecord (final : Option CallOutcome) (clock : Seconds) (c : Context) (r : CallRecord) : CallRecord :=
  { shownIn c r with
    state := .closed, final := final, last := final, ended := some clock, ctxState := .idle, lane := none,
    cand := none }

/-- Context n's record closes (R144): an attempt in progress is completed with the final outcome, the record is
rewritten, joins the back of the close order, and RECORD is raised (R146); the context has no record any more. -/
def closeRecord (n : Cp) (final : Option CallOutcome) (s : State) : State :=
  let s := endAttempt n (final.getD .partReset) s
  match (s.ctx n).record with
  | none => s
  | some i =>
    let s := putRecord i (closedRecord final s.time.clock (s.ctx n) (s.record i)) s
    let s := s.withRecs { s.recs with closeOrder := s.recs.closeOrder ++ [i] }
    let s := modCtx n (fun c => { c with record := none }) s
    raise .record (rewriteRecord i s)

/-- The host releases a CLOSED record (R145): it leaves the close order and is rewritten with state FREE and every
other field as it was. -/
def releaseRecord (i : Fin 12) (s : State) : State :=
  let s := s.withRecs { s.recs with closeOrder := s.recs.closeOrder.filter (fun j => decide (j ≠ i)) }
  rewriteRecord i (putRecord i { s.record i with state := .free } s)

/-- A repeat press (R10). -/
def countPress (n : Cp) (s : State) : State := modRecord n (fun r => { r with presses := satInc 255 r.presses }) s

/-- A drop (R21, R23, R26). -/
def countDrop (n : Cp) (s : State) : State := modRecord n (fun r => { r with drops := satInc 65535 r.drops }) s

end Sys2Proof.Machine
end

