-- ==== Sys2Proof/Machine/Voice.lean ====
section
/-! DEFINITION. The voice crosspoint, the location burst and the indications (R108 to R119). -/

namespace Sys2Proof.Machine

/-! ## Indications -/

/-- The states in which the CONNECTING lamp flashes (R118). -/
def CtxState.flashes : CtxState → Bool
  | .selecting | .waitingLane | .attaching | .dialling | .alerting | .paused | .surveyWait | .held => true
  | .idle | .connected | .clearing | .callbackWatch | .ringing => false

/-- Half a period of the flash, in milliseconds (R118). -/
def flashMs : Nat := 500
/-- The ringer's on phase, in milliseconds (R118). -/
def ringOnMs : Nat := 1000
/-- The ringer's off phase, in milliseconds (R118). -/
def ringOffMs : Nat := 2000

/-- The indications of a call point whose context goes from one state to another (R118): the flash keeps its phase
among the flashing states and starts on an on phase when it is entered; the ringer starts on an on phase on entry into
RINGING and stops when it is left. -/
def lampsFor (ms : Nat) (old new : CtxState) (p : Lamps) : Lamps :=
  { flash := if new.flashes then (if old.flashes then p.flash else some ⟨true, ms + flashMs⟩) else none
    ringer := if new = .ringing then (if old = .ringing then p.ringer else some ⟨true, ms + ringOnMs⟩) else none }

/-- Context n enters a state: its indications follow, and the matrix sees CCn_ACTIVE and the lamps change (R2, R118,
R126). -/
def setState (n : Cp) (st : CtxState) (s : State) : State :=
  let lamps := s.lamps.set n (lampsFor s.time.ms (s.ctx n).state st (s.lamps.get n))
  evalMatrix ((modCtx n (fun c => { c with state := st }) s).withLamps lamps)

/-! ## Crosspoint -/

/-- Change the burst of a call point. -/
def modBurst (n : Cp) (f : Burst → Burst) (s : State) : State :=
  s.withVoice { s.voice with burst := s.voice.burst.set n (f (s.voice.burst.get n)) }

/-- The mute state of a call point: true is MUTED (R108, R110). -/
def setMute (n : Cp) (v : Bool) (s : State) : State :=
  s.withVoice { s.voice with muted := s.voice.muted.set n v }

/-- The call point is connected to a lane, its mute state OPEN (R109). -/
def joinPath (n : Cp) (l : Lane) (s : State) : State :=
  setMute n false (s.withVoice { s.voice with conn := s.voice.conn.set n (some l) })

/-- A burst in SENDING or PACING is cut short: the stage is IDLE, the digits are emptied, the pacing timer stops, the
mute state is OPEN, and the location status is ABORTED (R115, R116). That next digit is 0 and the digits are emptied also after
a NAK or a NO_RESPONSE, of which R115 is silent, is DESIGN CHOICE (log entry 65). -/
def abortBurst (n : Cp) (s : State) : State :=
  if (s.voice.burst.get n).stage = .idle then s
  else setLocation n .aborted (setMute n false (modBurst n (fun _ => Burst.reset) s))

/-- The connection is broken and a burst in progress is aborted (R109, R116). -/
def breakPath (n : Cp) (s : State) : State :=
  abortBurst n (setMute n false (s.withVoice { s.voice with conn := s.voice.conn.set n none }))

/-! ## Location burst -/

/-- The weighted sum of location digits: weights 1, 3, 1, 3 … (R113); w is the present weight. -/
def weightedSum : Nat → List Nat → Nat
  | _, [] => 0
  | w, d :: ds => d * w + weightedSum (4 - w) ds

/-- The check digit (R113). -/
def checkDigit (ds : List Nat) : Nat := (10 - weightedSum 1 ds % 10) % 10

/-- The group of up to eight digits that starts at next digit (R114). -/
def burstGroup (b : Burst) : List Nat := (b.digits.drop b.next).take 8

/-- The arguments of a TONES request: digit count and four digit bytes (12.11). -/
def tonesArgs (group : List Nat) : List Byte := BitVec.ofNat 8 group.length :: packDigits 4 group

end Sys2Proof.Machine
end

