-- ==== Sys2Proof/Machine/Link.lean ====
section
/-! DEFINITION. The lane link and its arbiter (R4, R74, R100 to R107): requests, their withdrawal, results given up, and
the grant. -/

namespace Sys2Proof.Machine

/-! ## Requests and withdrawals -/

/-- The result of the transaction in flight is given up, if it is one of these (R101). -/
def giveUp (p : Transaction → Bool) (s : State) : State :=
  modLink (fun k => { k with inFlight := k.inFlight.map (fun t => if p t then { t with wanted := false } else t) }) s

/-- A context gives up the result of its own transaction. -/
def giveUpCtx (n : Cp) (s : State) : State := giveUp (fun t => decide (t.requester = .ctx n)) s

/-- The survey engine gives up the result of its transaction on a lane (R80, R81). -/
def giveUpSurvey (l : Lane) (s : State) : State :=
  giveUp (fun t => decide (t.requester = .survey) && decide (t.lane = l)) s

/-- Every result of a lane is given up (R97, R101). -/
def giveUpLane (l : Lane) (s : State) : State := giveUp (fun t => decide (t.lane = l)) s

/-- A context's pending request is replaced or withdrawn (R4). -/
def setRequest (n : Cp) (q : Option CtxRequest) (s : State) : State :=
  modLink (fun k => { k with ctxReq := k.ctxReq.set n q }) s

/-- A context presents a request on its claimed lane: an earlier one not yet granted is withdrawn, and the result of
one in flight no longer reaches the context (R4). -/
def ctxRequest (n : Cp) (kind : OpKind) (args : List Byte) (s : State) : State :=
  match (s.ctx n).lane with
  | none => s
  | some l => setRequest n (some ⟨kind, l, args⟩) (giveUpCtx n s)

/-- A context gives up what it asked of the link: its pending request is withdrawn and the result of its transaction in
flight is given up (R12, R89, R101; log entry 14). -/
def dropRequest (n : Cp) (s : State) : State := setRequest n none (giveUpCtx n s)

/-- A maintenance request becomes needed; at most one of each kind for each lane (R106). -/
def addMaint (l : Lane) (k : MaintKind) (s : State) : State :=
  if s.link.maint.any (fun x => decide (x = (l, k))) then s
  else modLink (fun q => { q with maint := q.maint ++ [(l, k)] }) s

/-- A maintenance request is no longer called for (R106). -/
def dropMaint (l : Lane) (k : MaintKind) (s : State) : State :=
  modLink (fun q => { q with maint := q.maint.filter (fun x => decide (x ≠ (l, k))) }) s

/-- A POWER_DOWN of the lane is waiting for its grant. -/
def State.pdWaiting (s : State) (l : Lane) : Bool := s.link.maint.any (fun x => decide (x = (l, .powerDown)))

/-- A transaction joins the back of the survey engine's queue (R74). -/
def queueScan (l : Lane) (tx : ScanTx) (s : State) : State :=
  s.withSurvey { s.survey with queue := s.survey.queue ++ [(l, tx)] }

/-- The wait count is 0 while the survey engine has no request pending (R107). -/
def settleWait (s : State) : State :=
  if s.survey.queue.isEmpty then modLink (fun k => { k with waitCount := 0 }) s else s

/-- A lane's transaction is taken out of the survey engine's queue (R74). -/
def dropScan (l : Lane) (s : State) : State :=
  settleWait (s.withSurvey { s.survey with queue := s.survey.queue.filter (fun x => decide (x.1 ≠ l)) })

/-- A lane has a transaction waiting in the survey engine's queue. -/
def State.scanQueued (s : State) (l : Lane) : Bool := s.survey.queue.any (fun x => decide (x.1 = l))

/-- Every request addressed to a lane is withdrawn, of every requester, and the result of a transaction of the lane in
flight is given up (R97, R106). -/
def withdrawLane (l : Lane) (s : State) : State :=
  giveUpLane l (dropScan l (modLink (fun k =>
    { k with
      ctxReq := ⟨k.ctxReq.c0.filter (fun q => decide (q.lane ≠ l)), k.ctxReq.c1.filter (fun q => decide (q.lane ≠ l))⟩
      maint := k.maint.filter (fun x => decide (x.1 ≠ l)) }) s))

/-! ## Grant -/

/-- What the arbiter can grant (R106, R107). -/
inductive Grant where
  | fetch (l : Lane)
  | survey (l : Lane) (tx : ScanTx)
  | ctx (n : Cp) (q : CtxRequest)
  | maint (l : Lane) (k : MaintKind)
deriving DecidableEq, Repr

/-- A lane needs a fetch (R102): STARTING or READY, its event line asserted, fetch armed set. -/
def State.needsFetch (s : State) (l : Lane) : Bool :=
  (decide ((s.lane l).state = .starting) || decide ((s.lane l).state = .ready)) && s.env.evt.get l
    && (s.lane l).fetchArmed

/-- The lane the fetch rotation chooses: the first that needs a fetch from the lane after the last lane fetched on
(R107). -/
def State.fetchChoice (s : State) : Option Lane :=
  let l := s.link.lastFetched.succ
  [l, l.succ, l.succ.succ, l.succ.succ.succ].find? s.needsFetch

/-- The survey engine's request: the oldest transaction of its queue (R74). -/
def State.surveyRequest (s : State) : Option (Lane × ScanTx) := s.survey.queue.head?

/-- The survey engine is promoted: its wait count has reached the survey yield setting; a yield of 0 never promotes
(R107). -/
def State.promoted (s : State) : Bool := decide (0 < surveyYield s) && decide (surveyYield s ≤ s.link.waitCount)

/-- The context whose request is chosen: of two, the one not granted most recently (R107). -/
def State.ctxChoice (s : State) : Option Grant :=
  let first := s.link.lastCtx.other
  match s.link.ctxReq.get first with
  | some q => some (.ctx first q)
  | none => (s.link.ctxReq.get first.other).map (Grant.ctx first.other)

/-- The request to grant: the first class that holds one (R107). -/
def State.chooseGrant (s : State) : Option Grant :=
  match s.fetchChoice with
  | some l => some (.fetch l)
  | none =>
    let survey := s.surveyRequest.map (fun x => Grant.survey x.1 x.2)
    (if s.promoted then survey else none)
      |>.orElse (fun _ => s.ctxChoice)
      |>.orElse (fun _ => s.link.maint.head?.map (fun x => Grant.maint x.1 x.2))
      |>.orElse (fun _ => survey)

/-- A transaction is given the lane's next tag, the next tag advances from 255 to 1, and the request frame is sent; holder
is set where the tag becomes the lane's outstanding operation tag (R100, R101). -/
def sendRequest (l : Lane) (code : ReqCode) (who : Requester) (args : List Byte) (holder : Option Owner)
    (s : State) : State :=
  let tag := (s.lane l).nextTag
  modLink (fun k =>
      { k with inFlight := some { lane := l, code := code, requester := who, tag := tag, args := args, wanted := true,
                                  deadline := s.time.ms + Config.responseMs } })
    (modLane l (fun r =>
      { r with
        nextTag := if 255 ≤ tag then 1 else tag + 1
        outTag := match holder with
          | none => r.outTag
          | some h => some (tag, h) }) s)

/-- A grant to another requester while the survey engine has a request pending adds one to its wait count (R107). -/
def countWait (s : State) : State :=
  if s.survey.queue.isEmpty then s else modLink (fun k => { k with waitCount := k.waitCount + 1 }) s

/-- The request code of a maintenance request (R106). -/
def MaintKind.reqCode : MaintKind → ReqCode
  | .probe => .probe
  | .powerDown => .powerDown
  | .refuseRing => .hangup

/-- The request code of a survey transaction. -/
def ScanTx.reqCode : ScanTx → ReqCode
  | .start => .scanStart
  | .read => .scanRead
  | .abort => .scanAbort

/-- One request is granted (R100, R107): on a context's grant its outstanding operation becomes the kind and the tag
(R4); the tag of a SCAN_START is the scan's tag (R74). -/
def performGrant (g : Grant) (s : State) : State :=
  match g with
  | .fetch l =>
    sendRequest l .fetchEvent .manager [] none (modLink (fun k => { k with lastFetched := l }) (countWait s))
  | .survey l tx =>
    let tag := (s.lane l).nextTag
    let s := s.withSurvey { s.survey with queue := s.survey.queue.tail }
    let s := modLink (fun k => { k with waitCount := 0 }) s
    match tx with
    | .start =>
      sendRequest l .scanStart .survey [(idMask (s.lane l).identity).setWidth 8] (some .survey)
        (modScan l (fun v => { v with scanTag := some tag }) s)
    | .read => sendRequest l .scanRead .survey [] (some .survey) s
    | .abort => sendRequest l .scanAbort .survey [] none s
  | .ctx n q =>
    let tag := (s.lane q.lane).nextTag
    let s := modLink (fun k => { k with lastCtx := n, ctxReq := k.ctxReq.set n none }) (countWait s)
    let s := modCtx n (fun c => { c with op := some (q.kind, tag) }) s
    sendRequest q.lane q.kind.reqCode (.ctx n) q.args (if q.kind = .tones then none else some (.ctx n)) s
  | .maint l k =>
    sendRequest l k.reqCode .manager [] none
      (modLink (fun q => { q with maint := q.maint.tail }) (countWait s))

/-- When the link is free and a request is pending, one request is granted at once (R107). -/
def grantLink (s : State) : State :=
  match s.link.inFlight with
  | some _ => s
  | none =>
    match s.chooseGrant with
    | none => s
    | some g => performGrant g s

end Sys2Proof.Machine
end

