-- ==== Sys2Proof/Machine/Lanes.lean ====
section
/-! DEFINITION. The lane manager (R85 to R99): due times and the end of a scan on a lane, ownership, need and power, the
start queue, becoming READY. -/

namespace Sys2Proof.Machine

/-! ## Marks -/

/-- The survey list must look at a lane again (R73). -/
def markLane (l : Lane) (s : State) : State := modScan l (fun v => { v with consider := true }) s

/-- The survey list must look at every lane again, when survey resumes (R81). -/
def markAll (s : State) : State := lanes.foldl (fun s l => markLane l s) s

/-- Need must be evaluated (R90). -/
def markNeed (s : State) : State := s.withNeedDue true

/-! ## Due times and the survey list (R72, R73) -/

/-- The survey period: the survey interval, times 1 when ACTIVE and HEALTHY and times 4 otherwise (R72). -/
def surveyPeriod (s : State) : Nat :=
  surveyIntervalOf s * (if s.supply.power = .active ∧ s.supply.level = .healthy then 1 else 4)

/-- The due time of a lane. -/
def State.due (s : State) (l : Lane) : Seconds := (s.scan l).due.getD s.now

/-- A lane stands before another in the survey list: earlier due time, then lower lane number (R73). -/
def dueBefore (s : State) (l m : Lane) : Bool :=
  if s.due l = s.due m then decide (l.num < m.num) else reached (s.due m) (s.due l)

/-- The lanes of the list before which a lane is put in. -/
def insertDue (s : State) (l : Lane) : List Lane → List Lane
  | [] => [l]
  | m :: ms => if dueBefore s l m then l :: m :: ms else m :: insertDue s l ms

/-- A lane joins the survey list, or keeps its place there; the engine considers it (R73). -/
def joinList (l : Lane) (s : State) : State :=
  if s.survey.list.any (fun m => decide (m = l)) then markLane l s
  else markLane l (s.withSurvey { s.survey with list := insertDue s l s.survey.list })

/-- A lane leaves the survey list. -/
def leaveList (l : Lane) (s : State) : State :=
  s.withSurvey { s.survey with list := s.survey.list.filter (fun m => decide (m ≠ l)) }

/-- An immediate request sets a lane's due time to the present uptime: it joins the list, or keeps its place there (R82; log
entry 42). -/
def dueOnRequest (l : Lane) (s : State) : State := joinList l (modScan l (fun v => { v with due := some s.now }) s)

/-- A lane's due time is set to the present uptime: it falls due at once (R72), and stands in the list by its new due time,
also when it stood there already (R73; log entry 42). -/
def dueNow (l : Lane) (s : State) : State := dueOnRequest l (leaveList l s)

/-- A lane's due time is set one survey period on (R72). -/
def dueLater (l : Lane) (s : State) : State :=
  modScan l (fun v => { v with due := some (later s.now (surveyPeriod s)) }) s

/-- A lane that is ABSENT has no due time and is not on the list (R72, R73). -/
def dueNever (l : Lane) (s : State) : State := leaveList l (modScan l (fun v => { v with due := none }) s)

/-! ## The end of a scan (R78, R81) -/

/-- A request's status for a lane that is PENDING becomes this one (R82, R83). -/
def settleIn (l : Lane) (v : ReqStatus) (q : SurveyReq) : SurveyReq :=
  if q.get l = some .pending then q.set l (some v) else q

/-- Every immediate request that holds a lane as pending is told (R78, R82). -/
def tellRequests (l : Lane) (v : ReqStatus) (s : State) : State :=
  s.withSurvey
    { s.survey with
      ctxReq := ⟨s.survey.ctxReq.c0.map (settleIn l v), s.survey.ctxReq.c1.map (settleIn l v)⟩
      orderReq := s.survey.orderReq.map (fun x => (x.1, settleIn l v x.2)) }

/-- The outstanding tag of a lane becomes absent: it is marked stale (R103). -/
def staleTag (l : Lane) (s : State) : State := modLane l (fun r => { r with outTag := none }) s

/-- A scan ends (R78): its tag is stale, its timer stops, the result and the due time are set, and the requests that
wait for the lane take the result. -/
def endScan (l : Lane) (completed : Bool) (s : State) : State :=
  let s := modLane l (fun r =>
    { r with outTag := r.outTag.filter (fun t => decide (t.2 ≠ Owner.survey)) }) s
  let s := modScan l (fun v =>
    { v with scanTag := none, timer := none, lastResult := if completed then .completed else .failed }) s
  tellRequests l (if completed then .completed else .failed) (dueLater l s)

/-- A lane is lost to the survey engine (R81): a scan in flight ends failed, the lane's transaction is taken out of the
queue, the result of one in flight is given up, the stage becomes NONE, and the survey list looks at the lane again. R81
says so of a lane in ABORTING after a timeout; one in ABORTING after a claim gives up its abort in the same way (DESIGN
CHOICE, log entry 51). -/
def scanLost (l : Lane) (s : State) : State :=
  if (s.scan l).stage = .none then s
  else
    let s := if (s.scan l).stage.inFlight then endScan l false s else s
    modScan l (fun v => { v with stage := .none, consider := true }) (giveUpSurvey l (dropScan l s))

/-! ## Ownership (R89) -/

/-- A lane calls for the refusal of a ring: READY, without owner, ring to refuse set (R104). -/
def considerRing (l : Lane) (s : State) : State :=
  if (s.lane l).state = .ready ∧ (s.lane l).owner = .none ∧ (s.lane l).ringToRefuse = true then addMaint l .refuseRing s
  else s

/-- A lane that is READY without owner and with no POWER_DOWN pending is probed: the timer starts (R95). -/
def startProbe (l : Lane) (s : State) : State :=
  if (s.lane l).state = .ready ∧ (s.lane l).owner = .none then
    modLane l (fun r => { r with probeTimer := some (later s.now (probeIntervalOf s)) }) s
  else s

/-- The condition for probing has ended: the timer stops and a PROBE or a ring refusal still waiting is withdrawn (R95,
R104). -/
def stopProbe (l : Lane) (s : State) : State :=
  dropMaint l .refuseRing (dropMaint l .probe (modLane l (fun r => { r with probeTimer := none }) s))

/-- A lane's owner changes (R89): the probe timer stops when it becomes owned and starts when it becomes unowned, a
context's claim clears ring to refuse, and the lane is considered again by R90, R73 and R104. -/
def setOwner (l : Lane) (o : Owner) (s : State) : State :=
  let s := modLane l (fun r =>
    { r with owner := o, ringToRefuse := if o.isCtx then false else r.ringToRefuse }) s
  let s := markNeed (markLane l s)
  if o = .none then considerRing l (startProbe l s) else stopProbe l s

/-- The survey engine releases a lane (R78, R89). -/
def releaseSurvey (l : Lane) (s : State) : State :=
  if (s.lane l).owner = .survey then setOwner l .none (staleTag l s) else s

/-! ## Power (R92 to R94) -/

/-- A lane's power is cut (R85, R96): the camp record, the outstanding tag and ready since become absent, ring to
refuse and fetch armed are cleared, every request of the lane is withdrawn, and the standby line state is read (R94).
Power-down pending is cleared at once, also when the lane's POWER_DOWN is in flight and runs on without its result (DESIGN
CHOICE, log entry 52; R85, R99). -/
def cutPower (l : Lane) (s : State) : State :=
  let s := modLane l (fun r =>
    { r with power := false, camp := none, outTag := none, ringToRefuse := false, fetchArmed := false,
             readySince := none, pdPending := false, startTimer := none, probeTimer := none,
             standby := standbySetting s l }) s
  setNoResp l 0 (withdrawLane l s)

/-- A lane's power goes off otherwise than by a fault: a scan on it ends first (R81), then the power is cut. -/
def powerOff (l : Lane) (s : State) : State := cutPower l (scanLost l s)

/-- A lane takes a state; need and the survey list look at it again (R73, R90). -/
def setLaneState (l : Lane) (st : LaneState) (s : State) : State :=
  markNeed (markLane l (modLane l (fun r => { r with state := st }) s))

/-- A lane leaves the start queue. -/
def dequeue (l : Lane) (s : State) : State := s.withStartq (s.startq.filter (fun e => decide (e.lane ≠ l)))

/-- A lane becomes READY (R92, R93): the camp record is absent, the no-response count 0, ready since the present uptime,
the probe timer runs when it has no owner, and it falls due for survey when its candidates had been removed (R72). -/
def becomeReady (l : Lane) (s : State) : State :=
  let s := setLaneState l .ready (modLane l (fun r =>
    { r with startTimer := none, camp := none, pdPending := false, readySince := some s.now }) s)
  let s := considerRing l (startProbe l (setNoResp l 0 s))
  if (s.lane l).removed then dueNow l (modLane l (fun r => { r with removed := false }) s) else s

/-! ## Need (R90) -/

/-- The watch lane: the one the setting names when usable, else the lowest-numbered usable lane (R90). -/
def watchLane (s : State) : Option Lane :=
  if (s.lane (watchSetting s)).usable then some (watchSetting s) else lanes.find? (fun l => (s.lane l).usable)

/-- The automatic power rule wants a lane (R90). -/
def autoWants (s : State) (l : Lane) : Bool :=
  if s.supply.power = .dormant ∨ s.supply.level = .critical then false
  else if s.supply.power = .quiet ∨ s.supply.level = .low then decide (watchLane s = some l)
  else (s.lane l).usable

/-- A context's pending claim names a lane. -/
def claimPending (s : State) (l : Lane) : Bool :=
  decide ((s.ctx .p0).pendingClaim = some l) || decide ((s.ctx .p1).pendingClaim = some l)

/-- A lane needs power: a context owns it or holds a pending claim on it, or the automatic power rule wants it (R90). -/
def needsPower (s : State) (l : Lane) : Bool := (s.lane l).owner.isCtx || claimPending s l || autoWants s l

/-- The class of a lane's place in the start queue: EMERGENCY when it is owned by, or the subject of a pending claim of,
an EMERGENCY context (R91). -/
def emergencyClass (s : State) (l : Lane) : Bool :=
  [Cp.p0, Cp.p1].any (fun n =>
    decide ((s.ctx n).kind = .emergency)
      && (decide ((s.lane l).owner = .ctx n) || decide ((s.ctx n).pendingClaim = some l)))

/-- A lane joins the start queue: an EMERGENCY entry behind the last EMERGENCY entry, an OTHER entry at the back
(R91). -/
def enqueue (l : Lane) (s : State) : State :=
  if emergencyClass s l then
    s.withStartq (s.startq.takeWhile (fun e => e.emergency) ++ [⟨l, true⟩] ++ s.startq.dropWhile (fun e => e.emergency))
  else s.withStartq (s.startq ++ [⟨l, false⟩])

/-- A queued lane whose class has changed leaves its place and joins again under its class (R91). -/
def requeue (l : Lane) (s : State) : State :=
  if s.startq.any (fun e => decide (e.lane = l) && decide (e.emergency ≠ emergencyClass s l)) then
    enqueue l (dequeue l s)
  else s

/-- A lane that needs power (R90, R91, R93). -/
def giveNeed (l : Lane) (s : State) : State :=
  match (s.lane l).state with
  | .off =>
    if (s.lane l).pdPending && s.pdWaiting l then becomeReady l (dropMaint l .powerDown s)
    else if s.queued l then requeue l s
    else enqueue l s
  | .starting => s
  | .ready => s
  | .absent => s
  | .faulted => s

/-- A lane that no longer needs power is powered down according to its state (R93); a scan on it ends first (R81). -/
def dropNeed (l : Lane) (s : State) : State :=
  match (s.lane l).state with
  | .off =>
    let s := dequeue l s
    if (s.lane l).pdPending && s.pdWaiting l && decide (s.supply.level = .critical) then powerOff l s else s
  | .starting => setLaneState l .off (powerOff l s)
  | .ready =>
    let s := if (s.lane l).owner = .survey then releaseSurvey l (scanLost l s) else s
    if s.supply.level = .critical then setLaneState l .off (powerOff l s)
    else
      let s := modLane l (fun r => { r with pdPending := true }) (stopProbe l s)
      addMaint l .powerDown (setLaneState l .off s)
  | .absent => s
  | .faulted => s

/-- Need is evaluated for one lane (R90). -/
def needLane (s : State) (l : Lane) : State := if needsPower s l then giveNeed l s else dropNeed l s

/-- Need is evaluated for every lane, if an event of R90's list has come. Lanes that come to need power at one evaluation
join the start queue in the order of their numbers, and so do the POWER_DOWNs of lanes that lose it join the maintenance
requests, both of which the spec leaves open (DESIGN CHOICE, log entry 49; R91, R106). -/
def needPass (s : State) : State :=
  if s.needDue then lanes.foldl needLane (publishBlocks (s.withNeedDue false)) else s

/-! ## Starting (R92) -/

/-- A lane is STARTING. -/
def State.someStarting (s : State) : Bool :=
  Sys2Proof.lanes.any (fun l => decide ((s.lane l).state = .starting))

/-- The lane to start: the first in queue order whose POWER_DOWN is not pending, when none is STARTING (R92). -/
def State.startChoice (s : State) : Option Lane :=
  if s.someStarting then none
  else (s.startq.find? (fun e => !(s.lane e.lane).pdPending)).map QueueEntry.lane

/-- A lane is started (R92): it leaves the queue, its power is on and with it its link gate open (State.linkGateOpen), its state
STARTING, fetch armed is set, and the start timer runs with the start timeout of its start class (R88). -/
def startLane (l : Lane) (s : State) : State :=
  setLaneState l .starting (modLane l (fun r =>
    { r with power := true, fetchArmed := true,
             startTimer := some (later s.now (startTimeoutOf r.identity)) }) (dequeue l s))

/-- The first lane in queue order is started, when none is STARTING (R92). -/
def startNext (s : State) : State :=
  match s.startChoice with
  | none => s
  | some l => startLane l (publishBlocks s)

/-! ## Faults (R97, R98), less what the former owner does -/

/-- The restart policy (R98): with restarts below 3 the restart timer is started. -/
def startRestart (l : Lane) (s : State) : State :=
  if (s.lane l).restarts < 3 then
    modLane l (fun r => { r with restartTimer := some (later s.now (restartDelayOf s)) }) s
  else s

/-- Steps 1 to 3 of a fault (R97): the lane is shut down, its candidates are removed, its owner is cleared. A scan on it is ended
later, when the survey engine is told. A count that has reached 3 goes to 0 without a re-score, the removal standing in its
place (R68). -/
def shutFaulted (l : Lane) (cause : FaultCause) (s : State) : State :=
  let s := modLane l (fun r =>
    { r with cause := cause, noResp := if cause = .noResponse then 0 else r.noResp }) s
  let s := dequeue l (setLaneState l .faulted (cutPower l s))
  setOwner l .none (removeLane l s)

end Sys2Proof.Machine
end

