-- ==== Sys2Proof/Machine/Survey.lean ====
section
/-! DEFINITION. The survey engine (R73 to R84): considering the list, starting and abandoning scans, the stop, immediate
requests. -/

namespace Sys2Proof.Machine

/-! ## Scans -/

/-- A scan starts (R75): the lane's owner is SURVEY, the stage OPENING, and SCAN_START is queued. -/
def startScan (l : Lane) (s : State) : State :=
  queueScan l .start (modScan l (fun v => { v with stage := .opening }) (setOwner l .survey s))

/-- A survey of the list is skipped (R73): the lane leaves the list, last scan result SKIPPED, a new due time. -/
def skipLane (l : Lane) (s : State) : State :=
  dueLater l (modScan l (fun v => { v with lastResult := .skipped }) (leaveList l s))

/-- A lane of the survey list is considered (R73). A lane in ABORTING stays until the abort has ended, as R79 says, also
one that is OFF and not in the start queue or forced off, of which R73's table has a second row (DEDUCED, log entry
50). -/
def considerLane (s : State) (l : Lane) : State :=
  let r := s.lane l
  if !(s.scan l).consider then s
  else
    let s := modScan l (fun v => { v with consider := false }) s
    if !s.survey.list.any (fun m => decide (m = l)) || s.surveyStopped then s
    else if r.state = .absent then dueNever l s
    else if (s.scan l).stage = .aborting then s
    else if r.forcedOff = true ∨ r.state = .faulted then skipLane l s
    else if r.state = .off then (if s.queued l then s else skipLane l s)
    else if r.state = .ready ∧ r.owner = .none ∧ (s.scan l).stage = .none then startScan l (leaveList l s)
    else s

/-- Every marked lane is considered: those of the list in list order; the marks of the others are put away (R73). -/
def considerAll (s : State) : State :=
  if lanes.any (fun l => (s.scan l).consider) then
    let s := publishBlocks s
    lanes.foldl considerLane (s.survey.list.foldl considerLane s)
  else s

/-- The scan's transactions after a claim by a context, by its stage (R80). -/
def abandonStage (l : Lane) (s : State) : State :=
  let toAbort := fun s => queueScan l .abort (modScan l (fun v => { v with stage := .aborting }) s)
  let toNone := fun s => modScan l (fun v => { v with stage := .none }) s
  match (s.scan l).stage with
  | .none => s
  | .opening => if s.scanQueued l then toNone (dropScan l s) else toAbort (giveUpSurvey l s)
  | .running => toAbort s
  | .reading => if s.scanQueued l then toNone (dropScan l s) else toNone (giveUpSurvey l s)
  | .aborting => s

/-- A context's claim takes a lane from the survey engine at once; a scan in flight ends failed (R78, R80). -/
def abandonScan (l : Lane) (s : State) : State :=
  if (s.scan l).stage.inFlight then abandonStage l (endScan l false s) else s

/-- A scan ends with nothing to abort (R78): the stage becomes NONE and the engine releases the lane. -/
def finishScan (l : Lane) (completed : Bool) (s : State) : State :=
  releaseSurvey l (modScan l (fun v => { v with stage := .none }) (endScan l completed s))

/-- Survey stops (R81): every lane the engine owns is lost to it and released at once. -/
def surveyStop (s : State) : State :=
  lanes.foldl (fun s l => if (s.lane l).owner = .survey then releaseSurvey l (scanLost l s) else s) s

/-! ## Immediate requests (R82, R83) -/

/-- A lane is skipped for a request: survey is stopped, the lane is not usable, a call context owns it, or it is OFF and
not in the start queue (R82). -/
def skippedNow (s : State) (l : Lane) : Bool :=
  s.surveyStopped || !(s.lane l).usable || (s.lane l).owner.isCtx
    || (decide ((s.lane l).state = .off) && !s.queued l)

/-- The status a named lane gets when the request is made (R82). -/
def requestStatus (s : State) (named : Lane → Bool) (l : Lane) : Option ReqStatus :=
  if !named l then none else if skippedNow s l then some .skipped else some .pending

/-- The request for the named lanes as it is made (R82). -/
def newRequest (s : State) (named : Lane → Bool) : SurveyReq :=
  ⟨requestStatus s named .l0, requestStatus s named .l1, requestStatus s named .l2, requestStatus s named .l3⟩

/-- A pending lane of a request with no scan in flight falls due at once (R82). -/
def requestDue (q : SurveyReq) (s : State) (l : Lane) : State :=
  if q.get l = some .pending ∧ (s.scan l).stage.inFlight = false then dueOnRequest l s else s

/-- The lanes that a request makes due (R82). -/
def requestDues (q : SurveyReq) (s : State) : State := lanes.foldl (requestDue q) s

/-- A RESCAN's request (R39, R82). -/
def makeCtxRequest (n : Cp) (named : Lane → Bool) (s : State) : State :=
  let q := newRequest s named
  requestDues q (s.withSurvey { s.survey with ctxReq := s.survey.ctxReq.set n (some q) })

/-- A SURVEY_NOW's request (R82). -/
def makeOrderRequest (slot : Fin 8) (named : Lane → Bool) (s : State) : State :=
  let q := newRequest s named
  requestDues q (s.withSurvey { s.survey with orderReq := s.survey.orderReq ++ [(slot, q)] })

/-- A context's request is dropped; its scans go on (R83). -/
def dropRescan (n : Cp) (s : State) : State :=
  s.withSurvey { s.survey with ctxReq := s.survey.ctxReq.set n none }

/-- An order's request is dropped; its scans go on (R83). -/
def dropOrderRequest (slot : Fin 8) (s : State) : State :=
  s.withSurvey { s.survey with orderReq := s.survey.orderReq.filter (fun x => decide (x.1 ≠ slot)) }

/-- A request is complete when none of its lanes is PENDING (R83). -/
def complete (q : SurveyReq) : Bool := lanes.all (fun l => decide (q.get l ≠ some .pending))

/-- A pending lane that is not yet scanning has become SKIPPED (R82). -/
def sweepLane (s : State) (l : Lane) : State :=
  if skippedNow s l ∧ (s.scan l).stage.inFlight = false then tellRequests l .skipped s else s

/-- Every lane's pending requests are looked at (R82). -/
def skipSweep (s : State) : State := lanes.foldl sweepLane s

/-- The lane mask of the lanes of a request with one status (R83). -/
def statusMask (q : SurveyReq) (v : ReqStatus) : Byte :=
  BitVec.ofNat 8 (packBits (lanes.map (fun l => decide (q.get l = some v))))

end Sys2Proof.Machine
end

