-- ==== Sys2Proof/Machine/Calls.lean ====
section
/-! DEFINITION. What a call context does (R3 to R28): claims, CLEARING, outcomes and classes, the end of a call, the
start of one, teardown, connections, callbacks. -/

namespace Sys2Proof.Machine

/-! ## Claims (R3, R19, R89) -/

/-- A context releases its claim (R3, R89): its request is withdrawn, its tag on the lane is stale, and the lane passes at
once to the other context when that one's pending claim names it (R19), else it has no owner. -/
def releaseClaim (n : Cp) (s : State) : State :=
  match (s.ctx n).lane with
  | none => modCtx n (fun c => { c with op := none }) s
  | some l =>
    let s := staleTag l (dropRequest n s)
    let s := modCtx n (fun c => { c with lane := none, op := none }) s
    if (s.ctx n.other).pendingClaim = some l then
      setOwner l (.ctx n.other) (modCtx n.other (fun c => { c with pendingClaim := none, lane := some l }) s)
    else setOwner l .none s

/-- A context claims a lane (R3, R89): a claim it holds on another lane is released, and a scan on the lane is
abandoned (R80). -/
def takeLane (n : Cp) (l : Lane) (s : State) : State :=
  if (s.ctx n).lane = some l then s
  else
    let s := abandonScan l (releaseClaim n s)
    setOwner l (.ctx n) (modCtx n (fun c => { c with lane := some l }) s)

/-- A pending claim is cleared (R12, R18, R23). -/
def clearPendingClaim (n : Cp) (s : State) : State :=
  if (s.ctx n).pendingClaim = none then s else markNeed (modCtx n (fun c => { c with pendingClaim := none }) s)

/-- The tag of a context's claimed lane is marked stale (R27). -/
def staleClaim (n : Cp) (s : State) : State :=
  match (s.ctx n).lane with
  | none => s
  | some l => staleTag l s

/-- The camp record of a context's claimed lane becomes absent or present. -/
def setCamp (l : Lane) (v : Option Network) (s : State) : State := modLane l (fun r => { r with camp := v }) s

/-- The camp record of a context's claimed lane becomes absent (R42). -/
def clearCamp (n : Cp) (s : State) : State :=
  match (s.ctx n).lane with
  | none => s
  | some l => setCamp l none s

/-! ## Timers -/

/-- The step timer stops. -/
def stopStep (n : Cp) (s : State) : State := modCtx n (fun c => { c with stepTimer := none }) s

/-- The step timer starts with d seconds (R27). -/
def startStep (n : Cp) (d : Nat) (s : State) : State :=
  modCtx n (fun c => { c with stepTimer := some (later s.now d) }) s

/-! ## Moves (R33, R45) -/

/-- A step move to a target; a target of END leaves the step index (R32, R33; log entry 16). -/
def stepMove (n : Cp) (target : Option Nat) (s : State) : State :=
  modCtx n (fun c =>
    { c with step := target.getD c.step, atEnd := target.isNone, tries := 0, tried := [], current := none,
             choice := none, retry := false }) s

/-- The target one step on from PAUSE or RESCAN: END when it equals the plan length (R32). -/
def nextTarget (s : State) (n : Cp) : Option Nat :=
  if (s.ctx n).step + 1 < s.plan.active.length then some ((s.ctx n).step + 1) else none

/-- The attempt fields of a context's plan step, if it has any. -/
def attemptStep (s : State) (n : Cp) : Option AttemptStep :=
  match s.plan.active[(s.ctx n).step]? with
  | some (.attempt a) => some a
  | some (.direct a) => some a
  | some (.pause _) => none
  | some (.rescan _) => none
  | some .finish => none
  | none => none

/-- The choice joins the tried set and the current candidate becomes absent (R45). -/
def joinTried (n : Cp) (s : State) : State :=
  modCtx n (fun c =>
    { c with tried := c.tried ++ c.choice.toList.filter (fun x => !c.tried.any (fun y => decide (y = x))),
             current := none, choice := none, retry := false }) s

/-- The class of an outcome acts on the step state (R45). -/
def classStep (n : Cp) (o : CallOutcome) (s : State) : State :=
  let a := attemptStep s n
  let tries := (a.map AttemptStep.tries).getD 0
  let fail := a.bind AttemptStep.failTarget
  let remain := decide ((s.ctx n).tries < tries)
  match o.cls with
  | .retry => if remain then modCtx n (fun c => { c with retry := true }) s else stepMove n fail s
  | .next => if remain then joinTried n s else stepMove n fail (joinTried n s)
  | .bar => if remain then joinTried n s else stepMove n fail (joinTried n s)
  | .advance => stepMove n fail s
  | .success => s
  | .terminal => s

/-! ## Leaving CONNECTED and entering CLEARING -/

/-- A context leaves CONNECTED (R109, R116, R27, R41): the path is broken, a burst aborted, the location delay stopped,
and the attempt that connected ends with its connection, CONNECTED in its history entry (R142). -/
def leaveConnected (n : Cp) (s : State) : State :=
  if (s.ctx n).state = .connected then
    modCtx n (fun c => { c with locTimer := none }) (endAttempt n .connected (breakPath n s))
  else s

/-- CLEARING is entered with a pending outcome and a HANGUP request (R9); absent stands for a ring that is refused
(R15; log entry 23). -/
def enterClearing (n : Cp) (pend : Option CallOutcome) (s : State) : State :=
  let s := stopStep n (leaveConnected n s)
  let s := modCtx n (fun c => { c with pendingOutcome := pend }) s
  ctxRequest n .hangup [] (setState n .clearing s)

/-- A non-terminal pending outcome is replaced; a terminal one stands (R9). -/
def replacePending (n : Cp) (o : CallOutcome) (s : State) : State :=
  match (s.ctx n).pendingOutcome with
  | none => s
  | some p => if p.cls = .terminal then s else modCtx n (fun c => { c with pendingOutcome := some o }) s

/-! ## The end of a call -/

/-- All of a context's timers stop. -/
def stopTimers (n : Cp) (s : State) : State :=
  modCtx n (fun c => { c with stepTimer := none, locTimer := none, cbTimer := none }) s

/-- The record closes and the context goes to IDLE, its claim released (R11, R24). -/
def toIdle (n : Cp) (final : Option CallOutcome) (s : State) : State :=
  setState n .idle (closeRecord n final (releaseClaim n (stopTimers n s)))

/-- The watch ends: the last ending outcome is the final outcome (R15, R24). -/
def endWatch (n : Cp) (s : State) : State := toIdle n (lastOutcome s n) s

/-- The lane of a context's claim, when it is READY. -/
def readyClaim (s : State) (n : Cp) : Bool :=
  match (s.ctx n).lane with
  | none => false
  | some l => decide ((s.lane l).state = .ready)

/-- The other context waits for this one's lane (R19). -/
def laneWanted (s : State) (n : Cp) : Bool :=
  (s.ctx n).lane.isSome && decide ((s.ctx n.other).pendingClaim = (s.ctx n).lane)

/-- The end-of-call rule (R11): the watch is kept when the call has connected, the callback window setting is not 0 and
the claimed lane is READY, but not for PREEMPTED or SUPPLY_REFUSED. A watch whose lane the other context waits for ends
at once with PREEMPTED (R19; log entry 37). -/
def endCall (n : Cp) (o : CallOutcome) (s : State) : State :=
  let s := endAttempt n o (setLast n o (dropRescan n (dropRequest n s)))
  if (s.ctx n).connectedOnce = true ∧ callbackWindowOf s ≠ 0 ∧ readyClaim s n = true
      ∧ o ≠ .preempted ∧ o ≠ .supplyRefused then
    if laneWanted s n then toIdle n (some .preempted) s
    else
      modCtx n (fun c => { c with cbTimer := some (later s.now (callbackWindowOf s)) })
        (setState n .callbackWatch (stopTimers n s))
  else toIdle n (some o) (clearPendingClaim n s)

/-- The callback window starts from full: a setting of 0 ends the watch at once (R25, R26; log entry 31). -/
def restartWatch (n : Cp) (s : State) : State :=
  let s := dropRequest n s
  if callbackWindowOf s = 0 then endWatch n s
  else
    modCtx n (fun c => { c with cbTimer := some (later s.now (callbackWindowOf s)) }) (setState n .callbackWatch s)

/-! ## The start of a call -/

/-- A call starts (R5, steps 2 to 5): a record is opened, the step state is reset, SELECTING on step 0. A claim the
context holds now is its kept lane (R3, R35). -/
def startCall (n : Cp) (kind : CallKind) (source : CallSource) (number : Option (Fin 4)) (hold : Bool)
    (s : State) : State :=
  let s := openRecord n kind source s
  let s := modCtx n (fun c =>
    { c with
      kind := kind, source := source, numberOverride := number, stepHold := hold, step := 0, tries := 0, tried := [],
      connectedOnce := false, pendingOutcome := none, emergencyStart := false, current := none, choice := none,
      retry := false, keepFirst := c.lane.isSome, attempt := none, atEnd := false, endPause := false }) s
  setState n .selecting s

/-- A call request taken in IDLE or CALLBACK_WATCH (R5): a watch it finds closes its record with the last ending
outcome, the kept lane stays claimed. -/
def takeRequest (n : Cp) (kind : CallKind) (source : CallSource) (number : Option (Fin 4)) (hold : Bool)
    (s : State) : State :=
  let s := if (s.ctx n).state = .callbackWatch then
      closeRecord n (lastOutcome s n) (modCtx n (fun c => { c with cbTimer := none }) s)
    else s
  startCall n kind source number hold s

/-- The emergency call that follows a preemption (R18): emergency start pending is cleared and the call starts with no
claim from the test call. -/
def startEmergency (n : Cp) (s : State) : State :=
  startCall n .emergency .matrix none false (modCtx n (fun c => { c with emergencyStart := false }) s)

/-! ## Teardown (R18 to R20) -/

/-- A teardown is complete (R18): the claim is released, the record closes; with an emergency start pending the
emergency call follows, else the context goes to IDLE. -/
def finishTeardown (n : Cp) (o : CallOutcome) (s : State) : State :=
  if (s.ctx n).emergencyStart then
    let s := clearPendingClaim n (dropRescan n (dropRequest n s))
    startEmergency n (closeRecord n (some o) (releaseClaim n (stopTimers n s)))
  else endCall n o s

/-- A test call is torn down with an outcome, by its state (R18, R19, R20). -/
def teardown (n : Cp) (o : CallOutcome) (s : State) : State :=
  match (s.ctx n).state with
  | .dialling => enterClearing n (some o) s
  | .alerting => enterClearing n (some o) s
  | .connected => enterClearing n (some o) s
  | .ringing => enterClearing n (some o) s
  | .clearing => replacePending n o s
  | .attaching => finishTeardown n o (staleClaim n s)
  | .selecting => finishTeardown n o s
  | .waitingLane => finishTeardown n o s
  | .paused => finishTeardown n o s
  | .surveyWait => finishTeardown n o s
  | .held => finishTeardown n o s
  | .callbackWatch => finishTeardown n o s
  | .idle => s

/-- A CALL trigger over the call point's own test call (R18); with an emergency start already pending, no effect
(R10). -/
def preemptOwn (n : Cp) (s : State) : State :=
  if (s.ctx n).emergencyStart then s
  else teardown n .preempted (modCtx n (fun c => { c with emergencyStart := true }) s)

/-- A context's test call gives way to CRITICAL supply (R20). -/
def refuseSupply (n : Cp) (s : State) : State :=
  if (s.ctx n).kind = .test ∧ (s.ctx n).state ≠ .idle ∧ (s.ctx n).state ≠ .callbackWatch ∧ (s.ctx n).state ≠ .ringing
  then teardown n .supplyRefused s
  else s

/-! ## Outcomes (R8, R46) -/

/-- The rest of R8 for a non-terminal outcome whose candidate update is made: last outcome, history entry, class, and
then HELD for a test call with step hold, else SELECTING. -/
def settleOutcome (n : Cp) (o : CallOutcome) (s : State) : State :=
  let s := classStep n o (endAttempt n o (setLast n o s))
  setState n (if (s.ctx n).stepHold then .held else .selecting) s

/-- A non-terminal outcome applied at once (R8, R46): the candidate is updated before the class acts. What the attempt
still asked of the link is given up (log entry 14). -/
def applyOutcome (n : Cp) (o : CallOutcome) (s : State) : State :=
  settleOutcome n o (outcomeToTable (s.ctx n).current o (stopStep n (dropRequest n s)))

/-- An outcome that needs the module's call cleared, NO_ALERT or RING_TIMEOUT (R8, R27; log entry 15): when it is taken the
attempt ends and the candidate is updated (R41, R46); the rest follows when CLEARING ends. -/
def clearingOutcome (n : Cp) (o : CallOutcome) (s : State) : State :=
  enterClearing n (some o) (endAttempt n o (outcomeToTable (s.ctx n).current o s))

/-- CLEARING ends (R9): the pending outcome is applied and cleared; with an emergency start pending R18 follows. -/
def leaveClearing (n : Cp) (s : State) : State :=
  let pend := (s.ctx n).pendingOutcome
  let s := modCtx n (fun c => { c with pendingOutcome := none, op := none }) (dropRequest n s)
  if (s.ctx n).emergencyStart then
    startEmergency n (closeRecord n (pend.orElse (fun _ => lastOutcome s n)) (releaseClaim n (stopTimers n s)))
  else
    match pend with
    | none => endWatch n s
    | some o => if o.cls = .terminal then endCall n o s else settleOutcome n o s

/-! ## Cancels (R12 to R15) -/

/-- The lane that a context claims is taken out of the start queue (R12). -/
def dequeueClaim (n : Cp) (s : State) : State :=
  match (s.ctx n).lane with
  | none => s
  | some l => dequeue l s

/-- A cancel; byOrder is true for a CANCEL_CALL order (R12 to R15). -/
def cancel (n : Cp) (byOrder : Bool) (s : State) : State :=
  match (s.ctx n).state with
  | .selecting => endCall n .cancelled (clearPendingClaim n s)
  | .waitingLane => endCall n .cancelled (clearPendingClaim n (dequeueClaim n s))
  | .paused => endCall n .cancelled (clearPendingClaim n s)
  | .surveyWait => endCall n .cancelled (clearPendingClaim n s)
  | .held => endCall n .cancelled (clearPendingClaim n s)
  | .attaching => endCall n .cancelled (releaseClaim n (staleClaim n s))
  | .dialling => enterClearing n (some .cancelled) s
  | .alerting => enterClearing n (some .cancelled) s
  | .connected => enterClearing n (some .localCleared) s
  | .clearing => replacePending n .cancelled s
  | .idle => s
  | .callbackWatch => if byOrder then endWatch n s else s
  | .ringing => if byOrder then enterClearing n none s else s

/-! ## Pauses (R10, R27, R39, R40) -/

/-- A PAUSE ends: step index + 1, SELECTING (R39). -/
def endPauseStep (n : Cp) (s : State) : State :=
  setState n .selecting (stepMove n (nextTarget s n) (stopStep n s))

/-- The retry pause ends: step index 0, plan passes + 1, SELECTING (R40). -/
def endRetryPause (n : Cp) (s : State) : State :=
  let s := modRecord n (fun r => { r with passes := satInc 65535 r.passes }) (stopStep n s)
  setState n .selecting (modCtx n (fun c => { c with endPause := false }) (stepMove n (some 0) s))

/-- A pause ends, early or at its expiry. -/
def endPause (n : Cp) (s : State) : State := if (s.ctx n).endPause then endRetryPause n s else endPauseStep n s

/-- SURVEY_WAIT ends: step index + 1, SELECTING; its request is dropped (R39, R83). -/
def endSurveyWait (n : Cp) (s : State) : State := endPauseStep n (dropRescan n s)

/-! ## The requests of an attempt (R37, R42, R43) -/

/-- DIAL is requested under the alert timeout, with the number entry as read at the step's evaluation (R43). The nibbles
beyond its digit count go out as the settings hold them, which R187 leaves open (DESIGN CHOICE, log entry 54). -/
def startDial (n : Cp) (s : State) : State :=
  let e := (s.ctx n).number
  let s := startStep n (alertTimeoutOf s) (setState n .dialling s)
  ctxRequest n .dial ([e.setup.code, BitVec.ofNat 8 e.count] ++ e.digits) s

/-- ATTACH is requested under the attach timeout: operator, generation mask, setup kind (R37, R42). -/
def startAttach (n : Cp) (op : OpCode) (mask : BitVec 4) (s : State) : State :=
  let e := (s.ctx n).number
  let s := startStep n (attachTimeoutOf s) (setState n .attaching s)
  ctxRequest n .attach (bytesOf 3 op.toNat ++ [mask.setWidth 8, e.setup.code]) s

/-- The generations an ATTEMPT_DIRECT step allows on a lane: the step's mask limited to the module's, or the module's
whole mask when the step's is 0 (R37). -/
def directMask (a : AttemptStep) (r : LaneRec) : BitVec 4 :=
  if a.genMask = 0 then idMask r.identity else a.genMask &&& idMask r.identity

/-- A context whose claimed lane is READY goes on (R7, R37, R42): ATTACH for a direct attempt or a camp record that
differs, DIAL on a lane camped on the candidate's network. -/
def proceedOnReady (n : Cp) (l : Lane) (s : State) : State :=
  match (s.ctx n).choice with
  | none => s
  | some (.cand k) =>
    if (s.lane l).camp = some ⟨k.op, k.gen⟩ then startDial n s else startAttach n k.op k.gen.mask s
  | some (.lane _) =>
    startAttach n noOperator
      (((attemptStep s n).map (fun a => directMask a (s.lane l))).getD (idMask (s.lane l).identity)) s

/-! ## The location burst (R112 to R115) -/

/-- The group that starts at next digit is requested (R114). -/
def sendGroup (n : Cp) (s : State) : State :=
  ctxRequest n .tones (tonesArgs (burstGroup (s.voice.burst.get n)))
    (modBurst n (fun b => { b with stage := .sending, timer := none }) s)

/-- The location burst begins (R112): no digits, no burst; a digit above 9, location status INVALID; else the check
digit is appended, the microphone is muted and the first group is requested (R113, R114). -/
def beginBurst (n : Cp) (s : State) : State :=
  let ds := locationDigits s
  if ds.isEmpty then s
  else if ds.any (fun d => decide (9 < d)) then setLocation n .invalid s
  else
    sendGroup n (setMute n true
      (modBurst n (fun _ => { stage := .sending, digits := ds ++ [checkDigit ds], next := 0, timer := none }) s))

/-- The burst ends played whole (R114), and SENT is written (R140). -/
def endBurst (n : Cp) (s : State) : State :=
  rewriteOwn n (setLocation n .sent (setMute n false (modBurst n (fun _ => Burst.reset) s)))

/-! ## Connections (R7, R21, R25, R26, R141) -/

/-- The record's share of an entry into CONNECTED: connects + 1, and the first connect time, once (R140, R141); RECORD
is raised for the first (R146). -/
def recordConnect (n : Cp) (s : State) : State :=
  let first := ((s.ctx n).record.map (fun i => decide ((s.record i).firstConnect = none))).getD false
  let s := modRecord n (fun r =>
    { r with connects := satInc 65535 r.connects,
             firstConnect := some (r.firstConnect.getD s.time.clock) }) s
  if first then raise .record (flushRecord n s) else s

/-- CONNECTED is entered by a placed call (R7): the outcome CONNECTED is applied, the crosspoint joins the call point to
the claimed lane, the location delay starts; a delay of 0 begins the burst at once (R27). The matrix so sees the raise of TABLE
first, then the context's state with its lamps, then the raise of RECORD, of which R7 and R118 fix no order (DESIGN CHOICE, log
entry 69). -/
def connect (n : Cp) (s : State) : State :=
  match (s.ctx n).lane with
  | none => s
  | some l =>
    let s := outcomeToTable (s.ctx n).current .connected (stopStep n s)
    let s := modCtx n (fun c =>
      { c with connKind := .placed, connectedOnce := true,
               attempt := c.attempt.map (fun a => { a with connected := true }) }) s
    let s := joinPath n l (setState n .connected (setLast n .connected s))
    recordConnect n (if locationDelayOf s = 0 then beginBurst n s
      else modCtx n (fun c => { c with locTimer := some (later s.now (locationDelayOf s)) }) s)

/-- The ACK of an ANSWER (R25): a callback connection. -/
def connectCallback (n : Cp) (s : State) : State :=
  match (s.ctx n).lane with
  | none => s
  | some l =>
    let s := modCtx n (fun c => { c with connKind := .callback }) s
    let s := joinPath n l (setState n .connected s)
    recordConnect n (modRecord n (fun r => { r with answered := satInc 65535 r.answered }) s)

/-- The redial after CALL_LOST on a placed connection (R21): an attempt on the same candidate and lane, without HANGUP and
without ATTACH. -/
def redial (n : Cp) (l : Lane) (s : State) : State :=
  let k := (s.ctx n).current
  startDial n (beginAttempt n l (k.map CandKey.network)
    (((k.bind s.entry).map Entry.score).getD 0) s)

/-- CALL_LOST on a placed connection (R21): the path is broken, a drop, tries used and the tried set reset, the RETRY
class; a redial, or HELD for a test call with step hold. -/
def lostPlaced (n : Cp) (s : State) : State :=
  match (s.ctx n).lane with
  | none => s
  | some l =>
    let s := countDrop n (leaveConnected n (dropRequest n s))
    let s := endAttempt n .callLost (setLast n .callLost (outcomeToTable (s.ctx n).current .callLost s))
    let s := modCtx n (fun c => { c with tries := 0, tried := [] }) s
    if (s.ctx n).stepHold then setState n .held (modCtx n (fun c => { c with retry := true }) s)
    else redial n l s

/-- CALL_LOST or SERVICE_LOST on a callback connection (R26). -/
def lostCallback (n : Cp) (s : State) : State :=
  restartWatch n (setLast n .callLost (countDrop n (leaveConnected n s)))

/-- CLEARED_REMOTE on a connection (R21, R26). -/
def remoteCleared (n : Cp) (s : State) : State :=
  let s' := leaveConnected n s
  if (s.ctx n).connKind = .placed then endCall n .remoteCleared s' else restartWatch n (setLast n .remoteCleared s')

/-- CALL_LOST taken by a context (R21, R26). -/
def callLost (n : Cp) (s : State) : State :=
  match (s.ctx n).state with
  | .dialling => applyOutcome n .callLost s
  | .alerting => applyOutcome n .callLost s
  | .connected => if (s.ctx n).connKind = .placed then lostPlaced n s else lostCallback n s
  | .idle => s
  | .selecting => s
  | .waitingLane => s
  | .attaching => s
  | .clearing => s
  | .paused => s
  | .surveyWait => s
  | .held => s
  | .callbackWatch => s
  | .ringing => s

/-! ## Callbacks (R24, R25) -/

/-- A context's ANSWER has been granted and its result is still wanted. -/
def answerGranted (s : State) (n : Cp) : Bool :=
  ((s.link.inFlight).map (fun t =>
    decide (t.requester = .ctx n) && decide (t.code = .answer) && t.wanted)).getD false

/-- An ANSWER is outstanding: pending at the arbiter, or granted and still wanted (R25). -/
def answering (s : State) (n : Cp) : Bool :=
  ((s.link.ctxReq.get n).map (fun q => decide (q.kind = .answer))).getD false || answerGranted s n

/-- INCOMING_RING in CALLBACK_WATCH (R24). -/
def ring (n : Cp) (s : State) : State :=
  if (s.ctx n).state = .callbackWatch then
    setState n .ringing (modRecord n (fun r => { r with offered := satInc 65535 r.offered })
      (modCtx n (fun c => { c with cbTimer := none }) s))
  else s

/-- A CALL trigger in RINGING answers the callback; while the ANSWER is outstanding it is a repeat press (R25). -/
def answerRing (n : Cp) (s : State) : State :=
  if answering s n then countPress n s else ctxRequest n .answer [] s

/-- The ring ends without a connection (R22, R25): the tag of an ANSWER already granted is stale and its result given up; back to
CALLBACK_WATCH with the window from full. -/
def ringEnds (n : Cp) (s : State) : State :=
  restartWatch n (if answerGranted s n then staleClaim n s else s)

/-- SERVICE_LOST taken by the owner context (R22). -/
def serviceLost (n : Cp) (s : State) : State :=
  match (s.ctx n).state with
  | .attaching => applyOutcome n .noService (staleClaim n s)
  | .dialling => applyOutcome n .noService s
  | .alerting => applyOutcome n .noService s
  | .connected => if (s.ctx n).connKind = .placed then lostPlaced n s else lostCallback n s
  | .ringing => ringEnds n s
  | .idle => s
  | .selecting => s
  | .waitingLane => s
  | .clearing => s
  | .paused => s
  | .surveyWait => s
  | .held => s
  | .callbackWatch => s

/-- CLEARED_REMOTE taken by a context (R21, R25, R26, R43). -/
def clearedRemote (n : Cp) (s : State) : State :=
  match (s.ctx n).state with
  | .dialling => applyOutcome n .callRejected s
  | .alerting => applyOutcome n .callRejected s
  | .connected => remoteCleared n s
  | .ringing => ringEnds n s
  | .idle => s
  | .selecting => s
  | .waitingLane => s
  | .attaching => s
  | .clearing => s
  | .paused => s
  | .surveyWait => s
  | .held => s
  | .callbackWatch => s

/-! ## Lane faults (R23) -/

/-- What a lane fault does to the context whose claim it voids, by its state (R23). -/
def faultByState (n : Cp) (s : State) : State :=
  match (s.ctx n).state with
  | .waitingLane => applyOutcome n .laneFault s
  | .attaching => applyOutcome n .laneFault s
  | .dialling => applyOutcome n .laneFault s
  | .alerting => applyOutcome n .laneFault s
  | .connected =>
    let s' := leaveConnected n (countDrop n s)
    if (s.ctx n).connKind = .placed then applyOutcome n .laneFault s' else toIdle n (some .laneFault) s'
  | .clearing => leaveClearing n s
  | .callbackWatch => endWatch n s
  | .ringing => endWatch n s
  | .idle => s
  | .selecting => s
  | .paused => s
  | .surveyWait => s
  | .held => s

/-- A lane fault reaches a context: its claim on the lane is void, or its pending claim is cleared and it takes
LANE_FAULT (R23). -/
def tellFault (n : Cp) (l : Lane) (s : State) : State :=
  let s := if (s.ctx n).lane = some l then
      faultByState n (modCtx n (fun c => { c with lane := none, op := none }) s)
    else s
  if (s.ctx n).pendingClaim = some l then applyOutcome n .laneFault (clearPendingClaim n s) else s

/-- A lane faults (R97), in this order: it is shut down, its candidates are removed, its owner is cleared, its block is rewritten
and LANE raised, the former owner is told, the survey engine by the failed end of its scan (R81) or a context by LANE_FAULT,
and the restart policy runs. The survey fields that the end of the scan changes are so published by a rewrite of their own,
after that of R97's step 3, which R86's "rewritten once" leaves open (DESIGN CHOICE, log entry 70). -/
def faultLane (l : Lane) (cause : FaultCause) (s : State) : State :=
  startRestart l (tellFault .p1 l (tellFault .p0 l (scanLost l (showLane l (shutFaulted l cause s)))))

end Sys2Proof.Machine
end

