-- ==== Sys2Proof/Machine/Evaluate.lean ====
section
/-! DEFINITION. Step evaluation (R32 to R41): eligibility, the choice, the number check, the actions of a step, and the
limit on moves within one stay in SELECTING. -/

namespace Sys2Proof.Machine

/-! ## Eligibility (R34, R37) -/

/-- The step's generation mask takes a generation: every one when the mask is 0 (R31). -/
def genAllowed (m : BitVec 4) (g : Gen) : Bool := decide (m = 0) || inMask m g

/-- An operator satisfies a filter (R31). -/
def filterPasses (s : State) (f : OpFilter) (op : OpCode) : Bool :=
  match f with
  | .any => true
  | .allowed => operatorAllowed s op
  | .others => !operatorAllowed s op

/-- The setup kind rule: an ORDINARY number may be dialled through an allowed operator only (R34, condition 4). -/
def setupPasses (s : State) (e : NumberEntry) (op : OpCode) : Bool :=
  decide (e.setup = .emergency) || operatorAllowed s op

/-- A lane matches the step's selector (R31). -/
def selectorTakes (sel : Option Lane) (l : Lane) : Bool :=
  match sel with
  | none => true
  | some k => decide (k = l)

/-- Conditions 1 to 8 of R34. -/
def eligibleBut9 (s : State) (n : Cp) (a : AttemptStep) (num : NumberEntry) (e : Entry) : Bool :=
  selectorTakes a.selector e.key.lane
    && genAllowed a.genMask e.key.gen && inMask (idMask (s.lane e.key.lane).identity) e.key.gen
    && filterPasses s a.filter e.key.op
    && setupPasses s num e.key.op
    && e.barred.isNone
    && decide (minimumScore s ≤ e.score)
    && !(s.ctx n).tried.any (fun c => decide (c = .cand e.key))
    && (s.lane e.key.lane).usable

/-- The conditions of R37 on a lane, but for its owner. -/
def qualifiesButOwner (s : State) (n : Cp) (a : AttemptStep) (l : Lane) : Bool :=
  selectorTakes a.selector l
    && (s.lane l).usable
    && (decide (a.genMask = 0) || decide (a.genMask &&& idMask (s.lane l).identity ≠ 0))
    && !(s.ctx n).tried.any (fun c => decide (c = .lane l))

/-- A lane is not owned by the other context (R34, condition 9). -/
def notOthers (s : State) (n : Cp) (l : Lane) : Bool := decide ((s.lane l).owner ≠ .ctx n.other)

/-- A lane may be had by preemption: the other context owns it and holds a TEST call, and this one an EMERGENCY call
(R34). -/
def byPreemption (s : State) (n : Cp) (l : Lane) : Bool :=
  decide ((s.lane l).owner = .ctx n.other) && decide ((s.ctx n.other).kind = .test)
    && decide ((s.ctx n).kind = .emergency)

/-! ## The choice (R35, R37) -/

/-- What an evaluation has chosen: what the attempt is made on, its lane, its network if a candidate, the stored score,
and whether the lane is had by preemption. -/
structure Pick where
  choice  : Choice
  lane    : Lane
  net     : Option Network
  score   : Nat
  preempt : Bool

/-- A candidate as a pick. -/
def Entry.pick (e : Entry) (preempt : Bool) : Pick :=
  { choice := .cand e.key, lane := e.key.lane, net := some e.key.network, score := e.score, preempt := preempt }

/-- A lane as a pick of a direct attempt. -/
def lanePick (l : Lane) (preempt : Bool) : Pick :=
  { choice := .lane l, lane := l, net := none, score := 0, preempt := preempt }

/-- The key of the kept lane's camped candidate, for a call started from CALLBACK_WATCH that has started no attempt
(R35). -/
def keptKey (s : State) (n : Cp) : Option CandKey :=
  if (s.ctx n).keepFirst then
    (s.ctx n).lane.bind (fun l => (s.lane l).camp.map (fun c => ⟨l, c.op, c.gen⟩))
  else none

/-- The key of a retry (R35). -/
def retryKey (s : State) (n : Cp) : Option CandKey := if (s.ctx n).retry then (s.ctx n).current else none

/-- The choice of an ATTEMPT step (R35): the kept lane's camped candidate, a retry, table order, preemption. -/
def chooseCandidate (s : State) (n : Cp) (a : AttemptStep) (num : NumberEntry) : Option Pick :=
  let ok (e : Entry) : Bool := eligibleBut9 s n a num e && notOthers s n e.key.lane
  let keyed (k : Option CandKey) : Option Entry := (k.bind s.entry).filter ok
  match keyed (keptKey s n) with
  | some e => some (e.pick false)
  | none =>
    match keyed (retryKey s n) with
    | some e => some (e.pick false)
    | none =>
      match s.table.find? ok with
      | some e => some (e.pick false)
      | none =>
        (s.table.find? (fun e => eligibleBut9 s n a num e && byPreemption s n e.key.lane)).map
          (fun e => e.pick true)

/-- The kept lane of a direct attempt (R37). -/
def keptLane (s : State) (n : Cp) : Option Lane := if (s.ctx n).keepFirst then (s.ctx n).lane else none

/-- The lane of a direct retry (R37). -/
def retryLane (s : State) (n : Cp) : Option Lane :=
  if (s.ctx n).retry then
    match (s.ctx n).choice with
    | some (.lane l) => some l
    | some (.cand _) => none
    | none => none
  else none

/-- The choice of an ATTEMPT_DIRECT step (R37): the kept lane, the lane of a retry, the lowest-numbered lane, the
lowest-numbered lane by preemption. -/
def chooseLane (s : State) (n : Cp) (a : AttemptStep) : Option Pick :=
  let ok (l : Lane) : Bool := qualifiesButOwner s n a l && notOthers s n l
  match (keptLane s n).filter ok with
  | some l => some (lanePick l false)
  | none =>
    match (retryLane s n).filter ok with
    | some l => some (lanePick l false)
    | none =>
      match lanes.find? ok with
      | some l => some (lanePick l false)
      | none => (lanes.find? (fun l => qualifiesButOwner s n a l && byPreemption s n l)).map (fun l => lanePick l true)

/-! ## Acting on the choice -/

/-- What one evaluation of a step comes to: SELECTING is left, or a move to a target within the same stay (R32). -/
inductive Evaluated where
  | done (s : State)
  | move (s : State) (target : Option Nat)

/-- The context takes its choice: it becomes the current candidate of an ATTEMPT, absent for a direct attempt, and the
attempt starts (R35, R37, R41). -/
def startAttempt (n : Cp) (p : Pick) (s : State) : State :=
  let s := modCtx n (fun c =>
    { c with
      choice := some p.choice, retry := false, keepFirst := false,
      current := match p.choice with
        | .cand k => some k
        | .lane _ => none }) s
  beginAttempt n p.lane p.net p.score s

/-- A number entry that fails the check ends the attempt at once (R36): NUMBER_REFUSED, one try, one history entry of
duration 0, the candidate untouched, the claim kept; then the fail target, in HELD for a test call with step hold. -/
def refuseNumber (n : Cp) (a : AttemptStep) (p : Pick) (s : State) : Evaluated :=
  let s := setLast n .numberRefused (endAttempt n .numberRefused (startAttempt n p s))
  if (s.ctx n).stepHold then .done (setState n .held (stepMove n a.failTarget s)) else .move s a.failTarget

/-- The attempt starts on a lane to be had by preemption (R19): the pending claim is set and the other context's test
call is torn down with PREEMPTED. A claim on another lane is released (R3; log entry 38). -/
def waitForPreempted (n : Cp) (p : Pick) (s : State) : State :=
  let s := releaseClaim n (startAttempt n p s)
  let s := markNeed (modCtx n (fun c => { c with pendingClaim := some p.lane }) s)
  teardown n.other .preempted (setState n .waitingLane s)

/-- The attempt starts on a lane the context may claim (R35, R7): READY goes on at once, else WAITING_LANE. -/
def claimAndGo (n : Cp) (p : Pick) (s : State) : State :=
  let s := takeLane n p.lane (startAttempt n p s)
  if (s.lane p.lane).state = .ready then proceedOnReady n p.lane s else setState n .waitingLane s

/-- The choice of an ATTEMPT or ATTEMPT_DIRECT step is acted on; no choice is a move to the none target (R35, R36). -/
def actOn (n : Cp) (a : AttemptStep) (num : NumberEntry) (p : Option Pick) (s : State) : Evaluated :=
  match p with
  | none => .move s a.noneTarget
  | some p =>
    if !num.passes then refuseNumber n a p s
    else if p.preempt then .done (waitForPreempted n p s)
    else .done (claimAndGo n p s)

/-- The number entry is read at the start of the step's evaluation; a TEST call's override stands in place of the step's
number index (R31, R32). -/
def readNumber (n : Cp) (a : AttemptStep) (s : State) : NumberEntry :=
  numberEntry s ((s.ctx n).numberOverride.getD a.number)

/-- A PAUSE step (R39). -/
def enterPause (n : Cp) (wait : Nat) (s : State) : State :=
  let s := modCtx n (fun c => { c with endPause := false }) (startStep n wait (releaseClaim n s))
  setState n .paused s

/-- A RESCAN step (R39): the claim is released, the lane manager acts on that, and the lanes then STARTING or READY and
not owned by a context are requested; none, and the context moves on. -/
def enterRescan (n : Cp) (wait : Nat) (s : State) : Evaluated :=
  let s := startNext (needPass (releaseClaim n s))
  let named (l : Lane) : Bool :=
    (decide ((s.lane l).state = .starting) || decide ((s.lane l).state = .ready)) && !(s.lane l).owner.isCtx
  if lanes.any named then .done (setState n .surveyWait (startStep n wait (makeCtxRequest n named s)))
  else .move s (nextTarget s n)

/-- END (R40): an EMERGENCY call waits out the retry pause, a TEST call ends with EXHAUSTED; either way the claim is
released. -/
def reachEnd (n : Cp) (s : State) : State :=
  let s := releaseClaim n s
  match (s.ctx n).kind with
  | .emergency =>
    let s := modCtx n (fun c => { c with endPause := true }) (startStep n (retryPauseOf s) s)
    setState n .paused s
  | .test => endCall n .exhausted s

/-- One evaluation of the step at the step index (R32); an index at the plan length is END. -/
def evalStep (n : Cp) (s : State) : Evaluated :=
  if (s.ctx n).atEnd then .done (reachEnd n s)
  else
    match s.plan.active[(s.ctx n).step]? with
    | none => .done (reachEnd n s)
    | some .finish => .done (reachEnd n s)
    | some (.pause wait) => .done (enterPause n wait s)
    | some (.rescan wait) => enterRescan n wait s
    | some (.attempt a) =>
      let num := readNumber n a s
      actOn n a num (chooseCandidate s n a num) (modCtx n (fun c => { c with number := num }) s)
    | some (.direct a) =>
      let num := readNumber n a s
      actOn n a num (chooseLane s n a) (modCtx n (fun c => { c with number := num }) s)

/-- A stay in SELECTING with a number of moves left (R32): with none left, the move that would be made is END. -/
def evalLoop (n : Cp) : Nat → State → State
  | 0, s =>
    match evalStep n s with
    | .done s' => s'
    | .move s' _ => reachEnd n (publish (showRecord n (stepMove n none s')))
  | k + 1, s =>
    match evalStep n s with
    | .done s' => s'
    | .move s' target => evalLoop n k (publish (showRecord n (stepMove n target s')))

/-- A context in SELECTING evaluates its step and leaves the state at once (R7, R32). Its record has shown SELECTING
before (R136), and is rewritten on each move (R33). -/
def evaluate (n : Cp) (s : State) : State :=
  if (s.ctx n).state = .selecting then evalLoop n Config.moveLimit (publish s) else s

end Sys2Proof.Machine
end

