-- ==== Sys2Proof/Machine/Operands.lean ====
section
/-! DEFINITION. The operand forms: order slots with their codes, arguments and results (R163 to R170, 12.4), response
frames as they are judged (R188), and the fields of an event word (12.11). -/

namespace Sys2Proof.Machine

/-! ## Order slots -/

/-- The first address of an order slot (12.4). -/
def slotAddr (i : Fin 8) : Nat := Config.slotBase + 32 * i.val

/-- The eight slot numbers. -/
def slotIndexes : List (Fin 8) := [0, 1, 2, 3, 4, 5, 6, 7]

/-- Slot state codes (12.4). -/
def slotEmpty : Byte := 0
/-- POSTED. -/
def slotPosted : Byte := 1
/-- TAKEN. -/
def slotTaken : Byte := 2
/-- DONE. -/
def slotDone : Byte := 3
/-- WITHDRAW. -/
def slotWithdraw : Byte := 4

/-- A slot's state byte. -/
def State.slotState (s : State) (i : Fin 8) : Byte := s.mem.read (slotAddr i)

/-- The part, or the order unit for the host, writes a slot's state byte (R164, R166, R167). -/
def setSlotState (i : Fin 8) (b : Byte) (s : State) : State := s.withMem (s.mem.write (slotAddr i) b)

/-- A slot's order code, read with the body (R154, R166). -/
def orderCode (s : State) (i : Fin 8) : Nat := (s.hostMem.read (slotAddr i + 1)).toNat

/-- Argument n of a slot's order: one byte at offset 3 + n (12.4). -/
def orderArg (s : State) (i : Fin 8) (n : Nat) : Byte := s.hostMem.read (slotAddr i + 3 + n)

/-- SET_TIME's argument: four bytes at offset 4 (12.4). -/
def timeArg (s : State) (i : Fin 8) : Seconds := BitVec.ofNat 32 (s.hostMem.num (slotAddr i + 4) 4)

/-- The rows of the opcode table that take an order. -/
inductive OrderRow where
  | setTime | placeCall | cancelCall | continueCall | loadPlan | loadMatrix | surveyNow | forgetCandidates
  | laneReset | laneForceOff | laneAuto | setPower | setPowerDormant | clearCounts | unknown
deriving DecidableEq, Repr

/-- The row of a slot's order, by its code and, for LANE_CONTROL and SET_POWER, by the argument that tells the rows apart
(12.4). An order whose argument names none of its rows is taken by LANE_CONTROL_RESET or SET_POWER, which refuses it with
BAD_ARGUMENT (log entry 21). -/
def orderRow (s : State) (i : Fin 8) : OrderRow :=
  match orderCode s i with
  | 1 => .setTime
  | 2 => .placeCall
  | 3 => .cancelCall
  | 4 => .continueCall
  | 5 => .loadPlan
  | 6 => .loadMatrix
  | 7 => .surveyNow
  | 8 => .forgetCandidates
  | 9 => if orderArg s i 2 = 1 then .laneForceOff else if orderArg s i 2 = 2 then .laneAuto else .laneReset
  | 10 => if orderArg s i 1 = 2 then .setPowerDormant else .setPower
  | 11 => .clearCounts
  | _ => .unknown

/-- The result codes (12.4). -/
inductive ResultCode where
  | ok | busy | badArgument | badContent | loop | refusedSupply | superseded | withdrawn | abortedByReset
  | unknownOrder
deriving DecidableEq, Repr

/-- The code of a result. -/
def ResultCode.code : ResultCode → Byte
  | .ok => 1
  | .busy => 2
  | .badArgument => 3
  | .badContent => 4
  | .loop => 5
  | .refusedSupply => 6
  | .superseded => 7
  | .withdrawn => 8
  | .abortedByReset => 9
  | .unknownOrder => 10

/-- An order completes (R167): result code and detail are written, then DONE, its wait is over, and ORDER is raised. -/
def completeOrder (i : Fin 8) (r : ResultCode) (detail : List Byte) (s : State) : State :=
  let s := s.withMem (s.mem.place (slotAddr i + 16) 16 ([r.code, 0] ++ detail))
  let s := setSlotState i slotDone s
  raise .order (s.withOrders { s.orders with waits := s.orders.waits.filter (fun x => decide (x.1 ≠ i)) })

/-- An order that is taken (R166): its slot leaves the posted list and becomes TAKEN. -/
def takeOrder (i : Fin 8) (s : State) : State :=
  setSlotState i slotTaken (s.withOrders { s.orders with posted := s.orders.posted.filter (fun j => decide (j ≠ i)) })

/-- An order enters its wait (R168). -/
def waitOrder (i : Fin 8) (w : Wait) (s : State) : State :=
  s.withOrders { s.orders with waits := s.orders.waits ++ [(i, w)] }

/-- A check of one argument: its number when it is outside its range. -/
def badIf (n : Nat) (bad : Bool) : Option Nat := if bad then some n else none

/-- The first bad argument of a slot's order (R170). -/
def badArgument (s : State) (i : Fin 8) : Option Nat :=
  let arg (n : Nat) : Nat := (orderArg s i n).toNat
  match orderCode s i with
  | 2 =>
    badIf 1 (decide (1 < arg 1))
      |>.orElse (fun _ => badIf 2 (decide (1 < arg 2)))
      |>.orElse (fun _ => badIf 3 (decide (arg 2 = 1) && decide (3 < arg 3)))
      |>.orElse (fun _ => badIf 4 (decide (arg 2 = 1) && decide (1 < arg 4)))
  | 3 => badIf 1 (decide (1 < arg 1))
  | 4 => badIf 1 (decide (1 < arg 1))
  | 7 => badIf 1 (decide (15 < arg 1))
  | 8 => badIf 1 (decide (15 < arg 1))
  | 9 => badIf 1 (decide (3 < arg 1)) |>.orElse (fun _ => badIf 2 (decide (2 < arg 2)))
  | 10 => badIf 1 (decide (2 < arg 1))
  | _ => none

/-- The call point that argument 1 names. -/
def argCp (s : State) (i : Fin 8) : Cp := if orderArg s i 1 = 1 then .p1 else .p0

/-- The lane that argument 1 names. -/
def argLane (s : State) (i : Fin 8) : Lane := (Lane.ofNum (orderArg s i 1).toNat).getD .l0

/-- The lanes that the mask of argument 1 names. -/
def argLanes (s : State) (i : Fin 8) (l : Lane) : Bool := (orderArg s i 1).getLsbD l.num

/-! ## Response frames (R188) -/

/-- The result of a transaction (R101). -/
inductive TxResult where
  | ack (data : List Byte)
  | nak (cause : Byte)
  | noResponse
deriving DecidableEq, Repr

/-- The cause EMPTY (12.11). -/
def causeEmpty : Byte := 6

/-- The bytes of data that a request's ACK needs (12.11, R188): a SCAN_READ's count above 6 is judged by R76 whatever its
length. -/
def dataNeeded (code : ReqCode) (data : List Byte) : Nat :=
  match code with
  | .fetchEvent => 4
  | .scanRead =>
    match data with
    | [] => 1
    | c :: _ => if c.toNat ≤ 6 then 1 + 7 * c.toNat else 1
  | .probe | .scanStart | .scanAbort | .attach | .dial | .answer | .hangup | .tones | .powerDown => 0

/-- A response frame judged on its content (R188). -/
def judge (code : ReqCode) (f : ResponseFrame) : TxResult :=
  if f.status = 0 then
    (if f.data.length < dataNeeded code f.data then .nak causeEmpty else .ack f.data)
  else if f.status = 1 then .nak f.cause
  else .nak 0

/-! ## Event words (12.11) -/

/-- Byte i of a response's data. -/
def dataByte (d : List Byte) (i : Nat) : Byte := (d[i]?).getD 0

/-- The event word at the start of a fetch response's data. -/
def wordOf (d : List Byte) : BitVec 32 := BitVec.ofNat 32 (natOf (d.take 4))

/-- The kind byte of an event word. -/
def wordKind (w : BitVec 32) : Nat := w.toNat % 256
/-- The result or cause of an event word. -/
def wordResult (w : BitVec 32) : Nat := w.toNat / 256 % 256
/-- The level of an event word: the byte's value v means -v dBm. -/
def wordLevel (w : BitVec 32) : Int := -((w.toNat / 65536 % 256 : Nat) : Int)
/-- The tag of an event word. -/
def wordTag (w : BitVec 32) : Nat := w.toNat / 16777216

/-- The kinds of event word (12.11). -/
inductive WordKind where
  | ready | scanDone | attachDone | alerting | connected | callFailed | callLost | clearedRemote | incomingRing
  | serviceLost | levelReport | moduleFault
deriving DecidableEq, Repr

/-- The kind of a number; 0 and above 12 are unknown. -/
def WordKind.ofNum : Nat → Option WordKind
  | 1 => some .ready
  | 2 => some .scanDone
  | 3 => some .attachDone
  | 4 => some .alerting
  | 5 => some .connected
  | 6 => some .callFailed
  | 7 => some .callLost
  | 8 => some .clearedRemote
  | 9 => some .incomingRing
  | 10 => some .serviceLost
  | 11 => some .levelReport
  | 12 => some .moduleFault
  | _ => none

/-- An attach report: operator code, generation number, quality (12.11). -/
structure AttachReport where
  op      : OpCode
  gen     : Nat
  quality : Nat
deriving DecidableEq, Repr

/-- The attach report in a fetch response's data, if its five bytes are there (R188). -/
def attachReport (d : List Byte) : Option AttachReport :=
  if 9 ≤ d.length then
    some { op := BitVec.ofNat 24 (natOf ((d.drop 4).take 3)), gen := (dataByte d 7).toNat,
           quality := (dataByte d 8).toNat }
  else none

/-- A network entry of a scan report: operator, generation number, level, quality (12.11). -/
structure ScanNetwork where
  op      : OpCode
  gen     : Nat
  level   : Int
  quality : Nat
deriving DecidableEq, Repr

/-- Network entry i of a scan report's data (12.11). -/
def scanNetwork (d : List Byte) (i : Nat) : ScanNetwork :=
  let b := d.drop (1 + 7 * i)
  { op := BitVec.ofNat 24 (natOf (b.take 3)), gen := (dataByte b 3).toNat,
    level := (BitVec.ofNat 16 (natOf ((b.drop 4).take 2))).toInt, quality := (dataByte b 6).toNat }

end Sys2Proof.Machine
end

