-- ==== Sys2Proof/Machine/Settle.lean ====
section
/-! DEFINITION. What takes no time: after each command the part goes on until nothing is left to be done at once (step
evaluations, need, starts, the survey list, completed requests, a pending plan), then the arbiter grants, and the blocks
it has changed are rewritten (log entry 12). -/

namespace Sys2Proof.Machine

/-- A waiting context whose claimed lane is READY. -/
def canProceed (s : State) (n : Cp) : Bool := decide ((s.ctx n).state = .waitingLane) && readyClaim s n

/-- A context leaves WAITING_LANE when its claimed lane is READY (R7). -/
def proceed (n : Cp) (s : State) : State :=
  if canProceed s n then
    match (s.ctx n).lane with
    | none => s
    | some l => proceedOnReady n l (publish s)
  else s

/-- A context's RESCAN request is complete (R83). -/
def rescanComplete (s : State) (n : Cp) : Bool :=
  decide ((s.ctx n).state = .surveyWait) && ((s.survey.ctxReq.get n).map complete).getD false

/-- A complete RESCAN request ends SURVEY_WAIT (R39, R83). -/
def leaveSurveyWait (n : Cp) (s : State) : State :=
  if rescanComplete s n then endSurveyWait n (publish s) else s

/-- The complete SURVEY_NOW requests. -/
def completeRequests (s : State) : List (Fin 8 × SurveyReq) := s.survey.orderReq.filter (fun x => complete x.2)

/-- A complete SURVEY_NOW completes its order with OK and three lane masks (R83). -/
def completeSurvey (s : State) (x : Fin 8 × SurveyReq) : State :=
  completeOrder x.1 .ok [statusMask x.2 .completed, statusMask x.2 .failed, statusMask x.2 .skipped]
    (dropOrderRequest x.1 s)

/-- Every complete SURVEY_NOW completes its order. -/
def completeSurveys (s : State) : State := (completeRequests s).foldl completeSurvey s

/-- A pending plan can become active: both contexts are in IDLE or CALLBACK_WATCH (R30). -/
def planReady (s : State) : Bool :=
  s.plan.pendingPlan.isSome && !(s.ctx .p0).state.isActive && !(s.ctx .p1).state.isActive

/-- The slot of the LOAD_PLAN that waits (R169). -/
def planWaiter (s : State) : Option (Fin 8) := (s.orders.waits.find? (fun x => decide (x.2 = Wait.plan))).map Prod.fst

/-- The pending plan becomes active and its order completes with OK (R30). -/
def activatePlan (s : State) : State :=
  if planReady s then
    match s.plan.pendingPlan with
    | none => s
    | some p =>
      let s' := s.withPlan { active := p, loaded := true, pendingPlan := none }
      match planWaiter s with
      | none => s'
      | some i => completeOrder i .ok [] s'
  else s

/-- A lane of a request that has just become SKIPPED. -/
def sweepDue (s : State) (l : Lane) : Bool :=
  skippedNow s l && !(s.scan l).stage.inFlight
    && (((s.survey.ctxReq.c0).map (fun q => decide (q.get l = some .pending))).getD false
      || ((s.survey.ctxReq.c1).map (fun q => decide (q.get l = some .pending))).getD false
      || s.survey.orderReq.any (fun x => decide (x.2.get l = some .pending)))

/-- Something is left to be done at once. -/
def unsettled (s : State) : Bool :=
  decide ((s.ctx .p0).state = .selecting) || decide ((s.ctx .p1).state = .selecting)
    || s.needDue || s.startChoice.isSome || canProceed s .p0 || canProceed s .p1
    || lanes.any (sweepDue s) || lanes.any (fun l => (s.scan l).consider)
    || rescanComplete s .p0 || rescanComplete s .p1 || !(completeRequests s).isEmpty || planReady s

/-- One round of what is done at once: evaluations, need, the start of the next lane, contexts whose lane is READY, the
immediate requests, the survey list, completed requests, the pending plan. Each is an event of its own: what those before
it have changed is published first (R86, R137, R159). A pending lane that leaves service is SKIPPED for its requests (R82) and
then considered by R73, which takes it off the list with last scan result SKIPPED: R82's "keeps its place" is taken to say what
the request does to the lane, not what R73 does at the same change (DESIGN CHOICE, log entry 67). -/
def round (s : State) : State :=
  s |> evaluate .p0 |> evaluate .p1 |> needPass |> startNext |> proceed .p0 |> proceed .p1 |> skipSweep
    |> considerAll |> leaveSurveyWait .p0 |> leaveSurveyWait .p1 |> completeSurveys |> activatePlan

/-- Rounds until nothing is left, at most k. -/
def settleRounds : Nat → State → State
  | 0, s => s
  | k + 1, s => if unsettled s then settleRounds k (round s) else s

/-- The most rounds that one command makes; more than any chain of the rules needs, and what were left would go on at the
next command (log entry 12). -/
def settleLimit : Nat := 32

/-- Everything that is to be done at once is done. -/
def settle (s : State) : State := settleRounds settleLimit s

/-- The end of a command: what follows at once is done, the arbiter grants, the changes are published. -/
def finish (s : State) : State := publish (grantLink (settle s))

end Sys2Proof.Machine
end

