-- ==== Sys2Proof/Machine/Supply.lean ====
section
/-! DEFINITION. The supply monitor and power control (R176 to R184): conversion, reserve threshold, supply level, what a
change of level or of power state does, leaving DORMANT; and the CALL event, which leaves DORMANT first (R5, R128). -/

namespace Sys2Proof.Machine

/-! ## Conversion (R178, R179) -/

/-- Battery mV of a battery code (R178). -/
def batteryMv (code : BitVec 16) : Nat := code.toNat * 5 / 16

/-- T10 of a temperature code (R178): the quotient rounds toward minus infinity. -/
def t10Of (code : BitVec 16) : Int := clampInt (-400) 850 (250 + Int.fdiv (((code.toNat : Int) - 31200) * 10) 52)

/-- The cold add in mV (R179). -/
def coldAdd (t10 : Int) : Nat := if 0 ≤ t10 then 0 else min (2 * t10.natAbs) 800

/-- The reserve threshold V_min (R179). -/
def reserveThreshold (base : Nat) (t10 : Int) : Nat := base + coldAdd t10

/-! ## Levels (R180, R186) -/

/-- The level by the plain boundaries, as a reset finds it (R186). -/
def plainLevel (v vmin : Nat) : SupplyLevel :=
  if v < vmin then .critical else if v < vmin + 400 then .low else .healthy

/-- The level from the level held (R180): left downwards below the boundary, upwards at the boundary plus 100 mV. -/
def nextLevel (held : SupplyLevel) (v vmin : Nat) : SupplyLevel :=
  match held with
  | .healthy => if v < vmin then .critical else if v < vmin + 400 then .low else .healthy
  | .low => if v < vmin then .critical else if v < vmin + 500 then .low else .healthy
  | .critical => if v < vmin + 100 then .critical else if v < vmin + 500 then .low else .healthy

/-! ## Measurement (R177) -/

/-- Seconds to the next measurement: 10 in ACTIVE and QUIET, 60 in DORMANT (R177). -/
def measureInterval (p : PowerState) : Nat := if p = .dormant then 60 else 10

/-- The readings of a measurement are worked out and the timer is started (R177); plain is for a reset's (R186). -/
def takeReadings (plain : Bool) (battery temperature : BitVec 16) (s : State) : State :=
  let t10 := t10Of temperature
  let vmin := reserveThreshold (reserveBase s) t10
  let v := batteryMv battery
  modSupply (fun p =>
    { p with
      battery := v, t10 := t10, vmin := vmin,
      level := if plain then plainLevel v vmin else nextLevel p.level v vmin,
      timer := later s.now (measureInterval p.power) }) s

/-- A lane whose standby line state is in force: unpowered OFF, FAULTED or ABSENT (R94). -/
def inStandby (r : LaneRec) : Bool :=
  match r.state with
  | .off => !r.power
  | .faulted => true
  | .absent => true
  | .starting => false
  | .ready => false

/-- Each measurement reads a lane's standby line setting again (R94). -/
def rereadStandby (s : State) (l : Lane) : State :=
  if inStandby (s.lane l) then modLane l (fun r => { r with standby := standbySetting s l }) s else s

/-- A change of supply level is handed to its neighbours (R181): the matrix sees it, survey stops or resumes, test calls
end on entry into CRITICAL, need is evaluated, and SUPPLY is raised. Of this order R181 fixes only that survey comes before the
lane manager; the rest is DESIGN CHOICE (log entry 62). -/
def levelChanged (wasStopped : Bool) (s : State) : State :=
  let s := evalMatrix s
  let s := if s.surveyStopped then (if wasStopped then s else surveyStop s)
    else (if wasStopped then markAll s else s)
  let s := if s.supply.level = .critical then refuseSupply .p1 (refuseSupply .p0 s) else s
  raise .supply (markNeed s)

/-- A measurement (R177): the readings, one rewrite of the part status block, the lane manager's occasion to evaluate
need and to read its settings again, and a change of level handed on. -/
def measure (battery temperature : BitVec 16) (s : State) : State :=
  let level := s.supply.level
  let stopped := s.surveyStopped
  let s := rewriteStatus (takeReadings false battery temperature s)
  let s := markNeed (lanes.foldl rereadStandby s)
  if s.supply.level = level then s else levelChanged stopped s

/-! ## Power states (R182 to R184) -/

/-- The power state changes (R182): the part status block is rewritten, SUPPLY is raised, the change is handed to the
lane manager and to the survey engine, which stops or resumes. -/
def changePower (p : PowerState) (s : State) : State :=
  let wasStopped := s.surveyStopped
  let s := rewriteStatus (modSupply (fun v => { v with power := p }) s)
  let s := if s.surveyStopped then (if wasStopped then s else surveyStop s)
    else (if wasStopped then markAll s else s)
  raise .supply (markNeed s)

/-- The part enters DORMANT (R183), remembering the state it leaves. -/
def enterDormant (s : State) : State :=
  changePower .dormant (modSupply (fun v => { v with preDormant := v.power }) s)

/-- The part leaves DORMANT, if it is DORMANT, for its pre-dormant state (R184): a measurement is made at once, and the lane
manager and the survey engine look at the change when both are done. SUPPLY for the change of power state is raised before the
measurement and what a change of level does, of which R184 fixes no order (DESIGN CHOICE, log entry 63). -/
def leaveDormant (s : State) : State :=
  if s.supply.power = .dormant then
    measure s.env.battery s.env.temperature (changePower s.supply.preDormant s)
  else s

/-- What wakes the part out of DORMANT has first brought it back to its pre-dormant state, with all that follows at once: the
lanes wanted join the start queue and the first is started, survey resumes (R184). -/
def wake (s : State) : State := if s.supply.power = .dormant then finish (leaveDormant s) else s

/-! ## The CALL and CANCEL events (R10, R18, R25, R128) -/

/-- What a CALL event does in a context's state (R128). -/
def callByState (n : Cp) (s : State) : State :=
  let repeatOrPreempt := fun s => if (s.ctx n).kind = .test then preemptOwn n s else countPress n s
  match (s.ctx n).state with
  | .idle => takeRequest n .emergency .matrix none false s
  | .callbackWatch => takeRequest n .emergency .matrix none false s
  | .ringing => answerRing n s
  | .paused => if (s.ctx n).kind = .test then preemptOwn n s else endPause n (countPress n s)
  | .selecting => repeatOrPreempt s
  | .waitingLane => repeatOrPreempt s
  | .attaching => repeatOrPreempt s
  | .dialling => repeatOrPreempt s
  | .alerting => repeatOrPreempt s
  | .connected => repeatOrPreempt s
  | .clearing => repeatOrPreempt s
  | .surveyWait => repeatOrPreempt s
  | .held => repeatOrPreempt s

/-- A CALL_CPn event is taken by its context (R128): out of DORMANT first (R5, R184); every one raises TRIGGER, after the context
has acted, of which R128 fixes no order (DESIGN CHOICE, log entry 66). -/
def callTaken (n : Cp) (s : State) : State := raise .trigger (callByState n (wake s))

/-! ## Trigger events and their consumers (R127 to R129) -/

/-- An event leaves the list of those handed over and not yet taken (log entry 4). -/
def unraise (f : TrigFn) (s : State) : State := modMatrix (fun m => { m with raised := m.raised.erase f }) s

/-- An event brought while the ready flag is clear waits until it is set (log entry 4). -/
def hold (f : TrigFn) (s : State) : State :=
  if s.matrix.raised.any (fun g => decide (g = f)) then s
  else modMatrix (fun m => { m with raised := m.raised ++ [f] }) s

end Sys2Proof.Machine
end

