-- ==== Sys2Proof/Machine/HostPort.lean ====
section
/-! DEFINITION. The host port (R148 to R154, R158, R161, R164, R165, R145): select byte, windows, write mediation,
attention, port reset. A data byte that belongs to no open transaction of its register is without effect (log entry 3). -/

namespace Sys2Proof.Machine

/-- The two windows (R150). -/
inductive Window where
  | a | b
deriving DecidableEq, Repr

/-- A window's pointer. -/
def Port.ptr (p : Port) : Window → BitVec 13
  | .a => p.ptrA
  | .b => p.ptrB

/-- A window's pointer takes a value. -/
def setPtr (w : Window) (v : BitVec 13) (s : State) : State :=
  match w with
  | .a => modPort (fun p => { p with ptrA := v }) s
  | .b => modPort (fun p => { p with ptrB := v }) s

/-- A window's pointer advances by one, from 0x1FFF to 0 (R150). -/
def advance (w : Window) (s : State) : State := setPtr w (s.port.ptr w + 1) s

/-- A window's captured high byte (R154). -/
def Port.cap (p : Port) : Window → Option Byte
  | .a => p.capA
  | .b => p.capB

/-- A window's capture is taken or discarded (R154). -/
def setCap (w : Window) (v : Option Byte) (s : State) : State :=
  match w with
  | .a => modPort (fun p => { p with capA := v }) s
  | .b => modPort (fun p => { p with capB := v }) s

/-- The window of a DATA register. -/
def PortReg.dataWindow : PortReg → Option Window
  | .dataA => some .a
  | .dataB => some .b
  | .ptrA | .ptrB | .attention | .attnMask | .partState | .control => none

/-- The window of a PTR register. -/
def PortReg.ptrWindow : PortReg → Option Window
  | .ptrA => some .a
  | .ptrB => some .b
  | .dataA | .dataB | .attention | .attnMask | .partState | .control => none

/-- The open transaction writes a register. -/
def State.writing (s : State) (reg : PortReg) : Bool :=
  (s.port.txn.map (fun t => decide (t.reg = reg) && !t.read)).getD false

/-- The window that the open transaction writes data through. -/
def State.writeWindow (s : State) : Option Window :=
  s.port.txn.bind (fun t => if t.read then none else t.reg.dataWindow)

/-- The window that the open transaction reads data through. -/
def State.readWindow (s : State) : Option Window :=
  s.port.txn.bind (fun t => if t.read then t.reg.dataWindow else none)

/-! ## Write mediation (9.2, R151) -/

/-- What an address is to write mediation. -/
inductive Place where
  | taken
  | dropped
  | slotState (i : Fin 8)
  | slotBody (i : Fin 8)
  | recordState (i : Fin 12)
deriving DecidableEq, Repr

/-- An address of the order slot region. -/
def slotPlace (off : Nat) : Place :=
  match finOf 8 (off / 32) with
  | none => .dropped
  | some i => if off % 32 = 0 then .slotState i else if off % 32 < 16 then .slotBody i else .dropped

/-- An address of the call record region. -/
def recordPlace (off : Nat) : Place :=
  match finOf 12 (off / 256) with
  | none => .dropped
  | some i => if off % 256 = 2 then .recordState i else .dropped

/-- The region map of 9.2. -/
def placeOf (a : Nat) : Place :=
  if a < Config.slotBase then .dropped
  else if a < Config.settingsBase then slotPlace (a - Config.slotBase)
  else if a < Config.laneBase then .taken
  else if a < Config.scratchBase then .dropped
  else if a < Config.recordBase then .taken
  else if a < Config.scratch2Base then recordPlace (a - Config.recordBase)
  else .taken

/-- A dropped host write (R152): window faults + 1, published, and WINDOW raised. -/
def dropWrite (s : State) : State := flushStatus (raise .window (countWindow s))

/-- A host write to a slot's state byte (R164): POSTED over EMPTY, out of DORMANT first (R174); EMPTY over DONE; WITHDRAW
over TAKEN; every other is dropped. -/
def writeSlotState (i : Fin 8) (b : Byte) (s : State) : State :=
  if s.slotState i = slotEmpty ∧ b = slotPosted then
    let s := setSlotState i slotPosted (wake s)
    s.withOrders { s.orders with posted := s.orders.posted ++ [i] }
  else if s.slotState i = slotDone ∧ b = slotEmpty then setSlotState i slotEmpty s
  else if s.slotState i = slotTaken ∧ b = slotWithdraw then setSlotState i slotWithdraw s
  else dropWrite s

/-- A host write to a slot's body byte (R165): taken while the slot is EMPTY or DONE. -/
def writeSlotBody (i : Fin 8) (a : Nat) (b : Byte) (s : State) : State :=
  if s.slotState i = slotEmpty ∨ s.slotState i = slotDone then s.withMem (s.mem.write a b) else dropWrite s

/-- A host write to a record's state byte (R145): FREE over CLOSED is taken. -/
def writeRecordState (i : Fin 12) (b : Byte) (s : State) : State :=
  if b = RecState.free.code ∧ (s.record i).state = .closed then releaseRecord i s else dropWrite s

/-- A byte written through a window is judged on its address (R151). -/
def mediate (a : Nat) (b : Byte) (s : State) : State :=
  match placeOf a with
  | .taken => s.withMem (s.mem.write a b)
  | .dropped => dropWrite s
  | .slotState i => writeSlotState i b s
  | .slotBody i => writeSlotBody i a b s
  | .recordState i => writeRecordState i b s

/-- While the ready flag is clear a DATA write is dropped without count and without attention (R153). -/
def hostWrite (a : Nat) (b : Byte) (s : State) : State := if s.port.ready then mediate a b s else s

/-! ## Reads -/

/-- The low byte of the revision count of a part-written block stands at an address (R154): the part status block, a lane
status block, the mirror, a call record. -/
def isRevisionLow (a : Nat) : Bool :=
  decide (a = Config.statusBase) || decide (a = Config.mirrorBase)
    || (decide (Config.laneBase ≤ a) && decide (a < Config.mirrorBase) && decide (a % 64 = 0))
    || (decide (Config.recordBase ≤ a) && decide (a < Config.scratch2Base) && decide (a % 256 = 0))

/-- The byte a DATA read returns at a window's pointer (R152 to R154): 0 while the ready flag is clear, the captured high
byte where the byte before it was the count's low byte, else the memory byte. -/
def dataValue (w : Window) (s : State) : Byte :=
  if s.port.ready then (s.port.cap w).getD (s.mem.read (s.port.ptr w).toNat) else 0

/-- The capture that a DATA read leaves (R154): the high byte of a count whose low byte was read. While the ready flag is clear
the read returns 0 (R153) and takes no capture, which R154 leaves open (DESIGN CHOICE, log entry 60). -/
def captureAfter (w : Window) (s : State) : Option Byte :=
  if s.port.ready ∧ (s.port.cap w).isNone ∧ isRevisionLow (s.port.ptr w).toNat then
    some (s.mem.read ((s.port.ptr w).toNat + 1))
  else none

/-- PART_STATE (12.2): bit 0 ready flag, bits 2-1 power state, bits 4-3 supply level. -/
def partState (s : State) : Byte :=
  flagByte s.port.ready + 2 * s.supply.power.code + 8 * s.supply.level.code

/-- The byte a read of a register other than DATA returns for data byte number k of its transaction (R149). The opcode
table has no row for these reads, which change nothing (log entry 8). -/
def registerValue (s : State) (reg : PortReg) (k : Nat) : Byte :=
  let ptrByte (p : BitVec 13) : Byte :=
    if k = 0 then BitVec.ofNat 8 p.toNat else if k = 1 then BitVec.ofNat 8 (p.toNat / 256) else 0
  match reg with
  | .ptrA => ptrByte s.port.ptrA
  | .ptrB => ptrByte s.port.ptrB
  | .dataA => dataValue .a s
  | .dataB => dataValue .b s
  | .attention => s.port.attention
  | .attnMask => s.port.mask
  | .partState => partState s
  | .control => 0

/-! ## Resets of the port (R161) -/

/-- The port reset (R161): pointers 0, attention 0, mask all ones, captures discarded. -/
def resetPort (s : State) : State :=
  modPort (fun p =>
    { p with ptrA := 0, ptrB := 0, attention := 0, mask := 0xFF, capA := none, capB := none }) s

/-! ## Meanings -/

/-- A select byte opens a transaction (R148) while none is open and RESETn is high; a DATA write transaction keeps the
memory as it stood before its first byte (R154). -/
def openTxn (b : Byte) (s : State) : State :=
  let t : HostTxn := { reg := PortReg.ofNum (b.toNat % 8), read := b.getLsbD 7, count := 0, low := 0 }
  let s := modPort (fun p => { p with txn := some t }) s
  s.withSnap (if t.read = false ∧ t.reg.dataWindow.isSome then some s.mem else none)

/-- REGISTER_SELECT_BYTE (R148). -/
def execRegisterSelectByte (b : Byte) (s : State) : Host.Outcome State Fault Refusal :=
  .next (if s.port.txn.isSome ∨ s.env.resetLow = true then s else openTxn b s)

/-- HOST_TRANSACTION_END (R148, R154): the captures are discarded. -/
def execHostTransactionEnd (s : State) : Host.Outcome State Fault Refusal :=
  .next ((modPort (fun p => { p with txn := none, capA := none, capB := none }) s).withSnap none)

/-- A data byte of a PTR write (R149, R150): the first is the low byte, with the second the pointer takes its new value,
further ones are ignored. -/
def takePtrByte (w : Window) (t : HostTxn) (b : Byte) (s : State) : State :=
  if t.count = 0 then modPort (fun p => { p with txn := some { t with count := 1, low := b } }) s
  else if t.count = 1 then
    setPtr w (BitVec.ofNat 13 (t.low.toNat + 256 * (b.toNat % 32)))
      (modPort (fun p => { p with txn := some { t with count := 2 } }) s)
  else s

/-- PTR_WRITE (R149). -/
def execPtrWrite (b : Byte) (s : State) : Host.Outcome State Fault Refusal :=
  .next (match s.port.txn with
    | none => s
    | some t =>
      match (if t.read then none else t.reg.ptrWindow) with
      | none => s
      | some w => takePtrByte w t b (setCap w none s))

/-- DATA_WRITE (R150, R151): the byte is judged at the pointer, and the pointer advances. -/
def execDataWrite (b : Byte) (s : State) : Host.Outcome State Fault Refusal :=
  .next (match s.writeWindow with
    | none => s
    | some w => hostWrite (s.port.ptr w).toNat b (setCap w none (advance w s)))

/-- DATA_READ (R150, R152 to R154): the byte goes out on HSDO, and the pointer advances. -/
def execDataRead (s : State) : Host.Outcome State Fault Refusal :=
  .next (match s.readWindow with
    | none => s
    | some w => modPort (fun p => { p with hsdo := dataValue w s }) (setCap w (captureAfter w s) (advance w s)))

/-- ATTENTION_WRITE (R158): each bit written as 1 clears its attention bit; the ATTN line and its mirror follow. -/
def execAttentionWrite (b : Byte) (s : State) : Host.Outcome State Fault Refusal :=
  .next (if s.writing .attention then
      flushStatus (evalMatrix (modPort (fun p => { p with attention := p.attention &&& ~~~b }) s))
    else s)

/-- ATTN_MASK_WRITE (R149, R158): the byte replaces the mask; the ATTN line and its mirror follow. -/
def execAttnMaskWrite (b : Byte) (s : State) : Host.Outcome State Fault Refusal :=
  .next (if s.writing .attnMask then flushStatus (evalMatrix (modPort (fun p => { p with mask := b }) s)) else s)

end Sys2Proof.Machine
end

