-- ==== Sys2Proof/Machine/Resets.lean ====
section
/-! DEFINITION. Power-on and part reset (R28, R84, R85, R107, R134, R147, R162, R175, R186), and their completion. -/

namespace Sys2Proof.Machine

/-! ## The blocks' reset work -/

/-- A revision count found odd is advanced by one before the block's first rewrite (R162). -/
def evenAll (s : State) : State :=
  let m := (s.mem.makeEven Config.statusBase).makeEven Config.mirrorBase
  s.withMem (lanes.foldl (fun m l => m.makeEven (laneAddr l)) m)

/-- A record's revision count, found odd, is advanced by one before the record's first rewrite of the reset (R162). -/
def evenRecord (i : Fin 12) (s : State) : State := s.withMem (s.mem.makeEven (recordAddr i))

/-- A record found with an odd revision count is rewritten whole and its count made even (R147). -/
def mendRecord (s : State) (i : Fin 12) : State :=
  if s.mem.num (recordAddr i) 2 % 2 = 1 then rewriteRecord i (evenRecord i s) else s

/-- The revision count of context n's record is made even, if it has one. -/
def evenOwn (n : Cp) (s : State) : State :=
  match (s.ctx n).record with
  | none => s
  | some i => evenRecord i s

/-- A call in progress is ended by a part reset, without any lane link operation (R28, R144): the path is broken, a burst
aborted, the record closed with PART_RESET. Of an OPEN record found with an odd revision count the closing is the rewrite that
writes it whole (R147, R162; DEDUCED, log entry 71). -/
def closeForReset (n : Cp) (s : State) : State := closeRecord n (some .partReset) (evenOwn n (breakPath n s))

/-- The contexts in ascending order of their record index (R147). -/
def closingOrder (s : State) : List Cp :=
  match (s.ctx .p0).record, (s.ctx .p1).record with
  | some i, some j => if j < i then [.p1, .p0] else [.p0, .p1]
  | _, _ => [.p0, .p1]

/-- Every call is ended and both contexts take their reset values (R28). -/
def resetContexts (s : State) : State :=
  ((closingOrder s).foldl (fun s n => closeForReset n s) s).withCtxs (Duo.both Context.reset)

/-- A slot in POSTED, TAKEN or WITHDRAW is completed with ABORTED_BY_RESET (R175). -/
def abortSlot (s : State) (i : Fin 8) : State :=
  if s.slotState i = slotPosted ∨ s.slotState i = slotTaken ∨ s.slotState i = slotWithdraw then
    completeOrder i .abortedByReset [] s
  else s

/-- The order unit at a part reset (R175). -/
def resetOrders (s : State) : State := (slotIndexes.foldl abortSlot s).withOrders { posted := [], waits := [] }

/-- A lane's record after a reset, its identification begun (R85, R87): read 0 ends 10 ms on. -/
def identifying (s : State) (l : Lane) : LaneRec :=
  { LaneRec.reset (standbySetting s l) with
    ident := some { read := 0, bits := 0, ends := s.time.ms + Config.identityMs } }

/-- The lanes, the survey engine, the start queue, the arbiter, the crosspoint and the indications after a reset (R84,
R85, R107, R108, R111, R119). -/
def resetBlocks (s : State) : State :=
  let s := s.withLanes ⟨identifying s .l0, identifying s .l1, identifying s .l2, identifying s .l3⟩
  let s := s.withSurvey Survey.reset
  let s := s.withStartq []
  let s := (s.withVoice Voice.reset).withLamps (Duo.both Lamps.reset)
  s.withNeedDue false

/-- The supply at a reset (R186): ACTIVE, and a measurement by the plain boundaries. -/
def resetSupply (s : State) : State :=
  let s := modSupply (fun p => { p with power := .active, preDormant := .active }) s
  takeReadings true s.env.battery s.env.temperature s

/-- The matrix starts again, and the CALL functions found at 1 are kept for the completion (R134). -/
def resetMatrix (s : State) : State :=
  let s := restartMatrix s
  s.withRst { s.rst with callFound := callsAtOne s }

/-- A reset begins: the ready flag and the attention register are cleared and the captures discarded (R162). -/
def beginReset (cause : ResetCause) (needRise : Bool) (s : State) : State :=
  let s := modPort (fun p => { p with ready := false, attention := 0, capA := none, capB := none }) s
  s.withRst { s.rst with next := cause, needRise := needRise }

/-- The sequence of a part reset up to its completion (R162, steps 1 and 2): contexts, plan store, candidate table,
survey engine, lanes, arbiter, crosspoint, record writer, order unit, power control and supply, matrix; the part status
block is rewritten (R177, R186; log entry 18). The transaction in flight runs on without its result (R107). The measurement
comes before the matrix's evaluation, which so finds the new supply level in its baseline, of which R134, R162 and R186 fix no
order (DESIGN CHOICE, log entry 68). -/
def partReset (cause : ResetCause) (needRise : Bool) (s : State) : State :=
  let s := evenAll (beginReset cause needRise s)
  let s := recordIndexes.foldl mendRecord (resetContexts s)
  let s := s.withPlan { s.plan with pendingPlan := none }
  let s := publishTable [] s
  let s := resetBlocks s
  let s := s.withLink { Link.reset with inFlight := s.link.inFlight.map (fun t => { t with wanted := false }) }
  let s := lanes.foldl (fun s l => rewriteLane l s) s
  rewriteStatus (resetMatrix (resetSupply (resetOrders s)))

/-- The memory that power-on leaves before its measurement: zeroed, the setting defaults written (R156, R162). -/
def Memory.powerOn : Memory := Memory.place ([] : Memory) Config.settingsBase 0x200 settingDefaults

/-- The sequence of a power-on (R162): the whole memory zeroed and the defaults written, the counts of time at 0, every
block at its power-on values, the built-in plan and matrix; the measurement before the matrix's evaluation (DESIGN CHOICE, log
entry 68). -/
def powerOn (s : State) : State :=
  let s := (beginReset .powerOn s.env.resetLow s).withMem Memory.powerOn
  let s := (s.withTime { uptime := 0, clock := 0, ms := 0 }).withTickDue false
  let s := modPort (fun p => { p with txn := none, ptrA := 0, ptrB := 0, mask := 0xFF, hsdo := 0 }) (s.withSnap none)
  let s := modSupply (fun p => { p with level := .healthy }) (s.withCounters Counters.zero)
  let s := s.withRst { s.rst with cause := .powerOn }
  let s := (s.withCtxs (Duo.both Context.reset)).withPlan { active := builtInPlan, loaded := false, pendingPlan := none }
  let s := resetBlocks (s.withTable [])
  let s := (s.withLink Link.reset).withRecs Records.reset
  let s := s.withOrders { posted := [], waits := [] }
  let s := modMatrix (fun m => { m with config := builtInMatrix, loaded := false }) s
  rewriteStatus (resetMatrix (resetSupply s))

/-! ## Completion (R162, steps 3 and 4) -/

/-- Every lane is identified. -/
def allIdentified (s : State) : Bool := lanes.all (fun l => (s.lane l).ident.isNone)

/-- A CALL function found at 1 is taken as a CALL event when the ready flag is set (R134), what came before it being published
first (R159). -/
def takeFound (s : State) (n : Cp) : State := if s.rst.callFound.get n then callTaken n (publish s) else s

/-- The reset completes when its work is done (R162): counters 0, the reset cause, the part status block rewritten, the
ready flag set, attention RESET alone; then the CALL functions found at 1 are taken. Steps 3 and 4 are made together: in a
pin reset whose RESETn stays low past the identification both wait for the rise, of which R162 says it of step 4 alone (DESIGN
CHOICE, log entry 61). -/
def completeReset (s : State) : State :=
  if s.port.ready = false ∧ allIdentified s = true ∧ s.rst.needRise = false then
    let s := (s.withCounters Counters.zero).withRst { s.rst with cause := s.rst.next }
    let s := rewriteStatus s
    let s := evalMatrix (modPort (fun p => { p with ready := true, attention := Attn.reset.mask }) s)
    let s := takeFound (takeFound s .p0) .p1
    s.withRst { s.rst with callFound := Duo.both false }
  else s

/-! ## Meanings -/

/-- POWER_ON (R162). -/
def execPowerOn (s : State) : Host.Outcome State Fault Refusal := .next (powerOn s)

/-- The bit PORT_RESET of CONTROL (12.2). -/
def portResetBit : Byte := 0x01
/-- The bit PART_RESET of CONTROL (12.2). -/
def partResetBit : Byte := 0x02

/-- A port reset as a whole (R161): the ATTN line and its mirror follow. -/
def portReset (s : State) : State := flushStatus (evalMatrix (resetPort s))

/-- A byte written to CONTROL (R149, R161, R162, 12.2): PORT_RESET set makes a port reset, PART_RESET set a part reset, both
the port reset first; the other bits are ignored. A byte in no write of CONTROL has no effect (log entry 3). -/
def controlByte (b : Byte) (s : State) : State :=
  if s.writing .control then
    let s := if b &&& portResetBit ≠ 0 then portReset s else s
    if b &&& partResetBit ≠ 0 then partReset .control false s else s
  else s

/-- PART_RESET (R162): the CONTROL byte with PART_RESET alone; during a reset the sequence starts again. -/
def execPartReset (s : State) : Host.Outcome State Fault Refusal := .next (controlByte partResetBit s)

/-- PORT_RESET (R161): the CONTROL byte with PORT_RESET alone. -/
def execPortReset (s : State) : Host.Outcome State Fault Refusal := .next (controlByte portResetBit s)

/-- IGNORED_REGISTER_WRITE (R149): a byte written to PART_STATE changes nothing, and so do the bits of one written to
CONTROL but for the two that have an action (log entry 11). -/
def execIgnoredRegisterWrite (b : Byte) (s : State) : Host.Outcome State Fault Refusal := .next (controlByte b s)

/-- RESETN_FALL (R148, R162): the host port is held, and a part reset starts that waits for the pin's rise. A pin already
low cannot fall (log entry 3). -/
def execResetnFall (s : State) : Host.Outcome State Fault Refusal :=
  .next (if s.env.resetLow then s
    else
      let s := (modPort (fun p => { p with txn := none }) (s.withEnv { s.env with resetLow := true })).withSnap none
      partReset .pin true s)

/-- RESETN_RISE (R121, R162): a port reset is made and the reset goes on to its completion; the lines take their groups
again, and the matrix starts from the levels then sampled (log entry 19). -/
def execResetnRise (s : State) : Host.Outcome State Fault Refusal :=
  .next (if s.env.resetLow then
      let s := resetPort (s.withEnv { s.env with resetLow := false })
      let s := resetMatrix (s.withRst { s.rst with needRise := false })
      finish (completeReset s)
    else s)

end Sys2Proof.Machine
end

