-- ==== Sys2Proof/Machine/Orders.lean ====
section
/-! DEFINITION. The orders (R166 to R174, R99): each takes the front of the posted list when that order is its row's; else
it is without effect (log entry 3). -/

namespace Sys2Proof.Machine

/-- The order at the front of the posted list is taken, if it is of a row (R166): its arguments are checked first (R170),
then the order's own rule acts on it; the part goes on at once with what follows. The slot's body is read before the
taking changes anything, and only then. -/
def takeRow (row : OrderRow) (act : Fin 8 → State → State) (s : State) : State :=
  match s.orders.posted with
  | [] => s
  | i :: _ =>
    if orderRow s i = row then
      finish (match badArgument s i with
        | some n => completeOrder i .badArgument [BitVec.ofNat 8 n] (takeOrder i s)
        | none => act i (takeOrder i s))
    else s

/-- OK with no detail. -/
def orderOk (i : Fin 8) (s : State) : State := completeOrder i .ok [] s

/-- BUSY. -/
def orderBusy (i : Fin 8) (s : State) : State := completeOrder i .busy [] s

/-! ## The calls (R171) -/

/-- A context takes a call request in IDLE and CALLBACK_WATCH (R5). -/
def takesCalls (s : State) (n : Cp) : Bool := !(s.ctx n).state.isActive

/-- PLACE_CALL (R6, R171): BUSY, REFUSED_SUPPLY, or the request is taken, out of DORMANT first (R5), and OK when the
context has entered SELECTING. -/
def placeCall (i : Fin 8) (s : State) : State :=
  let n := argCp s i
  let test := decide (orderArg s i 2 = 1)
  if !takesCalls s n then orderBusy i s
  else if test && decide (s.supply.level = .critical) then completeOrder i .refusedSupply [] s
  else
    let number := if test then finOf 4 (orderArg s i 3).toNat else none
    let hold := test && decide (orderArg s i 4 = 1)
    orderOk i (takeRequest n (if test then .test else .emergency) .order number hold (wake s))

/-- CANCEL_CALL (R12 to R15, R171). -/
def cancelCall (i : Fin 8) (s : State) : State :=
  let n := argCp s i
  if (s.ctx n).state = .idle then orderBusy i s else orderOk i (cancel n true s)

/-- CONTINUE (R17, R171). -/
def continueCall (i : Fin 8) (s : State) : State :=
  let n := argCp s i
  if (s.ctx n).state = .held then orderOk i (setState n .selecting s) else orderBusy i s

/-! ## The plan and the matrix (R48, R130 to R132, R172) -/

/-- What the check of the staged plan finds (R48). -/
inductive PlanCheck where
  | bad (item : Nat)
  | good (p : List PlanStep)
deriving DecidableEq, Repr

/-- The first address of a staged step (12.6). -/
def stepAddr (k : Nat) : Nat := Config.planBase + 16 + 15 * k

/-- The steps from k on, of a plan of count steps, checked in index order (R48); left is how many are left. -/
def checkSteps (m : Memory) (count : Nat) : Nat → Nat → List PlanStep → PlanCheck
  | 0, _, found => .good found.reverse
  | left + 1, k, found =>
    match stepOf m (stepAddr k) count with
    | none => .bad k
    | some p => checkSteps m count left (k + 1) (p :: found)

/-- The staged plan checked (R48): a bad step count is item 16. -/
def checkPlan (m : Memory) : PlanCheck :=
  let count := (m.read Config.planBase).toNat
  if count = 0 ∨ 16 < count then .bad 16 else checkSteps m count count 0 []

/-- LOAD_PLAN (R30, R48, R169, R172): a bad image completes with BAD_CONTENT; a good one replaces the pending plan, an
older waiting order completes with SUPERSEDED, and the order waits until the plan becomes active, which may be at
once. -/
def loadPlan (i : Fin 8) (s : State) : State :=
  match checkPlan s.hostMem with
  | .bad k => completeOrder i .badContent [BitVec.ofNat 8 k] s
  | .good p =>
    let s := match planWaiter s with
      | none => s
      | some j => completeOrder j .superseded [] s
    activatePlan (waitOrder i .plan (s.withPlan { s.plan with pendingPlan := some p }))

/-- The CALL rule of a load (R132): a CALL function found at 1 is taken as a CALL event, what came before it being published
first (R159). -/
def takeAtLoad (calls : Duo Bool) (s : State) (n : Cp) : State := if calls.get n then callTaken n (publish s) else s

/-- LOAD_MATRIX (R130 to R132, R172): BAD_CONTENT, LOOP, or the configuration is taken and the CALL rule applied. -/
def loadMatrix (i : Fin 8) (s : State) : State :=
  match checkImage s.hostMem with
  | .bad k => completeOrder i .badContent [BitVec.ofNat 8 k] s
  | .good c =>
    match firstCycle c with
    | some j => completeOrder i .loop [BitVec.ofNat 8 j.val] s
    | none =>
      let s := takeImage c s
      let calls := callsAtOne s
      orderOk i (takeAtLoad calls (takeAtLoad calls s .p0) .p1)

/-! ## The survey and the table (R67, R82, R172) -/

/-- SURVEY_NOW (R82, R83, R172): the request is made and the order waits for its completion, which may be at once. -/
def surveyNow (i : Fin 8) (s : State) : State :=
  completeSurveys (makeOrderRequest i (argLanes s i) (waitOrder i .survey s))

/-- FORGET_CANDIDATES (R67, R172). -/
def forgetCandidates (i : Fin 8) (s : State) : State := orderOk i (removeLanes (argLanes s i) s)

/-! ## The lanes (R99, R172) -/

/-- A lane's identification begins, its state ABSENT (R87, R99). The module identity is 0xFFFF until the fourth read, as
after a reset (R85), which R99 leaves open for a LANE_CONTROL RESET (DESIGN CHOICE, log entry 55). -/
def beginIdent (l : Lane) (s : State) : State :=
  setLaneState l .absent (modLane l (fun r =>
    { r with identity := 0xFFFF,
             ident := some { read := 0, bits := 0, ends := s.time.ms + Config.identityMs } }) s)

/-- A scan on a lane ends because the lane manager withdraws it, and the lane is released (R81). -/
def takeFromSurvey (l : Lane) (s : State) : State :=
  if (s.lane l).owner = .survey then releaseSurvey l (scanLost l s) else s

/-- LANE_CONTROL RESET (R99): BUSY while a context owns the lane; else the lane is cut and identified again, and the order
waits for that. A no-response count of 1 or 2 returns to 0 at the cut, with its re-score published (R68, R96), before the
candidates are removed, although R99 names it after them (DESIGN CHOICE, log entry 58). -/
def laneReset (i : Fin 8) (s : State) : State :=
  let l := argLane s i
  if (s.lane l).owner.isCtx then orderBusy i s
  else
    let s := removeLane l (powerOff l (dequeue l (takeFromSurvey l s)))
    let s := modLane l (fun r => { r with restarts := 0, cause := .none, restartTimer := none }) s
    waitOrder i (.ident l) (beginIdent l (dueNever l s))

/-- LANE_CONTROL FORCE_OFF (R99): BUSY while a context owns the lane; on a lane whose flag is set, OK and nothing more;
else the flag is set, a scan on the lane ends, its candidates are removed, and it loses its power. -/
def laneForceOff (i : Fin 8) (s : State) : State :=
  let l := argLane s i
  if (s.lane l).owner.isCtx then orderBusy i s
  else if (s.lane l).forcedOff then orderOk i s
  else
    let s := markNeed (markLane l (modLane l (fun r => { r with forcedOff := true }) s))
    if (s.lane l).state = .absent then orderOk i s
    else
      let s := removeLane l (takeFromSurvey l s)
      orderOk i (dequeue l (modLane l (fun r => { r with restartTimer := none }) s))

/-- LANE_CONTROL AUTO (R99): the flag is cleared; a FAULTED lane, but not by its identity, starts its restart timer anew
when its restarts allow. -/
def laneAuto (i : Fin 8) (s : State) : State :=
  let l := argLane s i
  if (s.lane l).forcedOff then
    let s := markNeed (markLane l (modLane l (fun r => { r with forcedOff := false }) s))
    orderOk i (if (s.lane l).state = .faulted ∧ (s.lane l).cause ≠ .identity then startRestart l s else s)
  else orderOk i s

/-! ## The part as a whole (R173, R182, R183) -/

/-- SET_TIME (R173, R185): the clock takes the argument and the part status block is rewritten with it. -/
def setTime (i : Fin 8) (s : State) : State :=
  orderOk i (rewriteStatus (s.withTime { s.time with clock := timeArg s i }))

/-- SET_POWER to ACTIVE or QUIET (R173, R182); the present state named, nothing changes. -/
def setPower (i : Fin 8) (s : State) : State :=
  let p := if orderArg s i 1 = 1 then PowerState.quiet else PowerState.active
  orderOk i (if s.supply.power = p then s else changePower p s)

/-- Something stands against DORMANT (R183): a context not IDLE, or CALL_CP0, CALL_CP1 or WAKE at 1. -/
def dormantBusy (s : State) : Bool :=
  decide ((s.ctx .p0).state ≠ .idle) || decide ((s.ctx .p1).state ≠ .idle)
    || s.matrix.fns.getLsbD 0 || s.matrix.fns.getLsbD 1 || s.matrix.fns.getLsbD 5

/-- SET_POWER DORMANT (R173, R183); named while DORMANT, nothing changes. -/
def setPowerDormant (i : Fin 8) (s : State) : State :=
  if dormantBusy s then orderBusy i s
  else orderOk i (if s.supply.power = .dormant then s else enterDormant s)

/-- CLEAR_COUNTS (R160, R173): the seven counters are 0, published in one rewrite. -/
def clearCounts (i : Fin 8) (s : State) : State := orderOk i (rewriteStatus (s.withCounters Counters.zero))

/-! ## Withdrawal (R168) -/

/-- The wait of an order is given up (R168): a pending plan is discarded, a survey request dropped; an identification
goes on. -/
def giveUpWait (i : Fin 8) (s : State) : State :=
  match (s.orders.waits.find? (fun x => decide (x.1 = i))).map Prod.snd with
  | some .plan => s.withPlan { s.plan with pendingPlan := none }
  | some .survey => dropOrderRequest i s
  | some (.ident _) => s
  | none => s

/-! ## Meanings -/

/-- SET_TIME. -/
def execSetTime (s : State) : Host.Outcome State Fault Refusal := .next (takeRow .setTime setTime s)

/-- PLACE_CALL. -/
def execPlaceCall (s : State) : Host.Outcome State Fault Refusal := .next (takeRow .placeCall placeCall s)

/-- CANCEL_CALL. -/
def execCancelCall (s : State) : Host.Outcome State Fault Refusal := .next (takeRow .cancelCall cancelCall s)

/-- CONTINUE. -/
def execContinueCall (s : State) : Host.Outcome State Fault Refusal := .next (takeRow .continueCall continueCall s)

/-- LOAD_PLAN. -/
def execLoadPlan (s : State) : Host.Outcome State Fault Refusal := .next (takeRow .loadPlan loadPlan s)

/-- LOAD_MATRIX. -/
def execLoadMatrix (s : State) : Host.Outcome State Fault Refusal := .next (takeRow .loadMatrix loadMatrix s)

/-- SURVEY_NOW. -/
def execSurveyNow (s : State) : Host.Outcome State Fault Refusal := .next (takeRow .surveyNow surveyNow s)

/-- FORGET_CANDIDATES. -/
def execForgetCandidates (s : State) : Host.Outcome State Fault Refusal :=
  .next (takeRow .forgetCandidates forgetCandidates s)

/-- LANE_CONTROL_RESET. -/
def execLaneControlReset (s : State) : Host.Outcome State Fault Refusal := .next (takeRow .laneReset laneReset s)

/-- LANE_CONTROL_FORCE_OFF. -/
def execLaneControlForceOff (s : State) : Host.Outcome State Fault Refusal :=
  .next (takeRow .laneForceOff laneForceOff s)

/-- LANE_CONTROL_AUTO. -/
def execLaneControlAuto (s : State) : Host.Outcome State Fault Refusal := .next (takeRow .laneAuto laneAuto s)

/-- SET_POWER. -/
def execSetPower (s : State) : Host.Outcome State Fault Refusal := .next (takeRow .setPower setPower s)

/-- SET_POWER_DORMANT. -/
def execSetPowerDormant (s : State) : Host.Outcome State Fault Refusal :=
  .next (takeRow .setPowerDormant setPowerDormant s)

/-- CLEAR_COUNTS. -/
def execClearCounts (s : State) : Host.Outcome State Fault Refusal := .next (takeRow .clearCounts clearCounts s)

/-- UNKNOWN_ORDER (R170). -/
def execUnknownOrder (s : State) : Host.Outcome State Fault Refusal :=
  .next (takeRow .unknown (fun i s => completeOrder i .unknownOrder [] s) s)

/-- ORDER_WITHDRAWAL (R168): the wait of a slot in WITHDRAW is given up and its order completes with WITHDRAWN; an order
already completed, no effect. -/
def execOrderWithdrawal (i : Fin 8) (s : State) : Host.Outcome State Fault Refusal :=
  .next (if s.slotState i = slotWithdraw then finish (completeOrder i .withdrawn [] (giveUpWait i s)) else s)

end Sys2Proof.Machine
end

