-- ==== Sys2Proof/Machine/Triggers.lean ====
section
/-! DEFINITION. Field lines and trigger events (R122, R127 to R129). -/

namespace Sys2Proof.Machine

/-- A line's debounce timer takes a value. -/
def setDebounce (i : Fin 12) (t : Option Nat) (s : State) : State :=
  modMatrix (fun m => { m with timers := m.timers.set i t }) s

/-- A line's debounced level takes the sampled level, a change of the line that starts an evaluation (R122, R126). -/
def takeLevel (i : Fin 12) (s : State) : State :=
  modMatrix (fun m => Matrix.evaluated { m with debounced := setLevel m.debounced i (sampledLevel s i) }) s

/-- The pin of a field line takes a level. -/
def setPin (i : Fin 12) (level : Bool) (s : State) : State :=
  s.withEnv { s.env with pins := setLevel s.env.pins i level }

/-- What a change of the pin does on a line (R122): on an INPUT line, a level that differs from the debounced one starts
the timer, or is taken at once in class 0; a level that has come back stops it. Other lines are not sampled. Sampling, debouncing
and evaluation go on while RESETn is low, of which the spec is silent (DESIGN CHOICE, log entry 57; R121). -/
def pinChanged (i : Fin 12) (s : State) : State :=
  match s.matrix.config.lines[i] with
  | .unused => s
  | .output _ => s
  | .input cls _ =>
    if sampledLevel s i = s.matrix.debounced.getLsbD i.val then setDebounce i none s
    else if debounceMs cls = 0 then takeLevel i (setDebounce i none s)
    else if (s.matrix.timers[i]).isSome then s
    else setDebounce i (some (s.time.ms + debounceMs cls)) s

/-- FIELD_LINE_CHANGE (R122). -/
def execFieldLineChange (i : Fin 12) (level : Bool) (s : State) : Host.Outcome State Fault Refusal :=
  .next (flushStatus (pinChanged i (setPin i level s)))

/-- DEBOUNCE_EXPIRY (R122). -/
def execDebounceExpiry (i : Fin 12) (s : State) : Host.Outcome State Fault Refusal :=
  .next (if expiredMs s.time.ms s.matrix.timers[i] then flushStatus (takeLevel i (setDebounce i none s)) else s)

/-- A trigger event is taken by its consumer; while the ready flag is clear it waits (R127; log entry 4). -/
def takeEvent (f : TrigFn) (act : State → State) (s : State) : State :=
  if s.port.ready then act (unraise f s) else hold f s

/-- CALL_CPN (R128). -/
def execCallCpn (n : Cp) (s : State) : Host.Outcome State Fault Refusal := .next (takeEvent (.call n) (fun s => finish (callTaken n s)) s)

/-- CANCEL_CPN (R12 to R15, R128): it raises no attention. -/
def execCancelCpn (n : Cp) (s : State) : Host.Outcome State Fault Refusal :=
  .next (takeEvent (.cancel n) (fun s => finish (cancel n false s)) s)

/-- TAMPER (R129): tamper events + 1, TRIGGER raised. -/
def execTamper (s : State) : Host.Outcome State Fault Refusal :=
  .next (takeEvent .tamper (fun s => flushStatus (raise .trigger (countTamper s))) s)

/-- WAKE (R129): out of DORMANT; in ACTIVE and QUIET without effect. -/
def execWake (s : State) : Host.Outcome State Fault Refusal := .next (takeEvent .wake (fun s => finish (leaveDormant s)) s)

end Sys2Proof.Machine
end

