-- ==== Sys2Proof/Machine/CallTimers.lean ====
section
/-! DEFINITION. The expiries of the contexts' timers, of the pacing timer and of the cadences (R27, R39, R40, R112, R114,
R118). An expiry of a timer that is stopped or whose time has not come is without effect (log entry 3). -/

namespace Sys2Proof.Machine

/-- A context's step timer expires in a state (R27). -/
def stepExpired (s : State) (n : Cp) (st : CtxState) : Bool :=
  decide ((s.ctx n).state = st) && expired s.now (s.ctx n).stepTimer

/-- What an event does when it can occur, and what follows at once. -/
def onEvent (occurs : Bool) (act : State → State) (s : State) : State := if occurs then finish (act s) else s

/-- What an event does that only the part status block can show. -/
def onChange (occurs : Bool) (act : State → State) (s : State) : State := if occurs then flushStatus (act s) else s

/-- ATTACH_TIMEOUT (R27, R42): NO_SERVICE, the ATTACH tag stale, the camp record absent. -/
def execAttachTimeout (n : Cp) (s : State) : Host.Outcome State Fault Refusal :=
  .next (onEvent (stepExpired s n .attaching)
    (fun s => applyOutcome n .noService (clearCamp n (staleClaim n s))) s)

/-- ALERT_TIMEOUT (R27, R43): NO_ALERT, through CLEARING. -/
def execAlertTimeout (n : Cp) (s : State) : Host.Outcome State Fault Refusal :=
  .next (onEvent (stepExpired s n .dialling) (clearingOutcome n .noAlert) s)

/-- RING_TIMEOUT (R27, R43): RING_TIMEOUT, through CLEARING. -/
def execRingTimeout (n : Cp) (s : State) : Host.Outcome State Fault Refusal :=
  .next (onEvent (stepExpired s n .alerting) (clearingOutcome n .ringTimeout) s)

/-- PAUSE_EXPIRY (R27, R39). -/
def execPauseExpiry (n : Cp) (s : State) : Host.Outcome State Fault Refusal :=
  .next (onEvent (stepExpired s n .paused && !(s.ctx n).endPause) (endPauseStep n) s)

/-- RETRY_PAUSE_EXPIRY (R27, R40). -/
def execRetryPauseExpiry (n : Cp) (s : State) : Host.Outcome State Fault Refusal :=
  .next (onEvent (stepExpired s n .paused && (s.ctx n).endPause) (endRetryPause n) s)

/-- SURVEY_WAIT_EXPIRY (R27, R39, R83). -/
def execSurveyWaitExpiry (n : Cp) (s : State) : Host.Outcome State Fault Refusal :=
  .next (onEvent (stepExpired s n .surveyWait) (endSurveyWait n) s)

/-- The location delay of a context expires (R27). -/
def delayExpired (s : State) (n : Cp) : Bool :=
  decide ((s.ctx n).state = .connected) && expired s.now (s.ctx n).locTimer

/-- The location delay is over (R112): the burst begins; where it is refused, INVALID is written, over INVALID too (R140). -/
def endDelay (n : Cp) (s : State) : State :=
  let s' := beginBurst n (modCtx n (fun c => { c with locTimer := none }) s)
  if (locationDigits s).any (fun d => decide (9 < d)) then rewriteOwn n s' else s'

/-- LOCATION_DELAY_EXPIRY (R112). -/
def execLocationDelayExpiry (n : Cp) (s : State) : Host.Outcome State Fault Refusal :=
  .next (onEvent (delayExpired s n) (endDelay n) s)

/-- The pacing timer of a call point expires (R114). -/
def pacingExpired (s : State) (n : Cp) : Bool :=
  decide ((s.voice.burst.get n).stage = .pacing) && expiredMs s.time.ms (s.voice.burst.get n).timer

/-- PACING_EXPIRY (R114): the next group, or the end of the burst. -/
def execPacingExpiry (n : Cp) (s : State) : Host.Outcome State Fault Refusal :=
  .next (onEvent (pacingExpired s n)
    (fun s => if (burstGroup (s.voice.burst.get n)).isEmpty then endBurst n s else sendGroup n s) s)

/-- The callback window of a context expires (R24). -/
def windowExpired (s : State) (n : Cp) : Bool :=
  decide ((s.ctx n).state = .callbackWatch) && expired s.now (s.ctx n).cbTimer

/-- CALLBACK_WINDOW_EXPIRY (R24). -/
def execCallbackWindowExpiry (n : Cp) (s : State) : Host.Outcome State Fault Refusal :=
  .next (onEvent (windowExpired s n) (endWatch n) s)

/-- The end of a phase, on the millisecond count. -/
def phaseEnded (s : State) (p : Option Phase) : Bool := expiredMs s.time.ms (p.map Phase.ends)

/-- The phase that follows: the other one, with its own length. -/
def nextPhase (onMs offMs : Nat) (p : Phase) : Phase := ⟨!p.on, p.ends + (if p.on then offMs else onMs)⟩

/-- The indications of a call point change, and the matrix sees the change (R118, R123, R126). -/
def modLamps (n : Cp) (f : Lamps → Lamps) (s : State) : State :=
  evalMatrix (s.withLamps (s.lamps.set n (f (s.lamps.get n))))

/-- FLASH_PHASE (R118): 0.5 s on, 0.5 s off. -/
def execFlashPhase (n : Cp) (s : State) : Host.Outcome State Fault Refusal :=
  .next (onChange (phaseEnded s (s.lamps.get n).flash)
    (modLamps n (fun p => { p with flash := p.flash.map (nextPhase flashMs flashMs) })) s)

/-- RINGER_CADENCE (R118): 1 s on, 2 s off. -/
def execRingerCadence (n : Cp) (s : State) : Host.Outcome State Fault Refusal :=
  .next (onChange (phaseEnded s (s.lamps.get n).ringer)
    (modLamps n (fun p => { p with ringer := p.ringer.map (nextPhase ringOnMs ringOffMs) })) s)

end Sys2Proof.Machine
end

