-- ==== Sys2Proof/Machine/LaneEvents.lean ====
section
/-! DEFINITION. What reaches the part from the lanes (R42, R43, R76, R77, R87, R88, R92, R95, R96, R98, R101 to R105):
the end of a transaction and its result, event words, the lane timers, identification. -/

namespace Sys2Proof.Machine

/-! ## Reports of the modules on an attempt (R38, R42, R43) -/

/-- The outcome of a DIAL NAK's or a CALL_FAILED's cause (R43). -/
def outcomeOfCause (c : Nat) : CallOutcome :=
  if c = 1 then .numberRefused else if c = 2 then .networkBusy else if c = 3 then .noService else .callRejected

/-- A call being set up fails for a cause (R43): the camp record is kept but for NO_SERVICE. -/
def dialFailed (n : Cp) (cause : Nat) (s : State) : State :=
  let o := outcomeOfCause cause
  applyOutcome n o (if o = .noService then clearCamp n s else s)

/-- The report of an ATTACH_DONE as the candidate table takes it. -/
def attachReportOf (l : Lane) (op : OpCode) (gen : Gen) (level : Int) (quality : Nat) : Report :=
  { lane := l, op := op, gen := gen, level := level, quality := quality, source := .attach }

/-- A successful ATTACH_DONE of a direct attempt whose report is good (R38): camp record, candidate table, current
candidate, history entry; then the operator filter and the setup kind rule decide between DIAL and ATTACH_REFUSED. -/
def directAttached (n : Cp) (l : Lane) (a : AttemptStep) (r : Report) (s : State) : State :=
  let k := r.key
  let s := offer r true (setCamp l (some k.network) s)
  let s := modCtx n (fun c => { c with current := some k }) s
  let s := fillAttempt n k.network (((s.entry k).map Entry.score).getD 0) s
  if filterPasses s a.filter r.op && setupPasses s (s.ctx n).number r.op then startDial n s
  else applyOutcome n .attachRefused s

/-- A report of ATTACH_DONE that does not hold is discarded and counted, the camp record absent, and the attempt ends
(R38, R42). -/
def attachBad (n : Cp) (l : Lane) (o : CallOutcome) (s : State) : State :=
  applyOutcome n o (setCamp l none (countDiscarded s))

/-- The generation of an ATTACH_DONE, when its number is one and a mask holds it. -/
def reportGen (mask : BitVec 4) (num : Nat) : Option Gen := (Gen.ofNum num).filter (inMask mask)

/-- ATTACH_DONE with result OK for an attempt on a candidate (R42). -/
def candAttached (n : Cp) (l : Lane) (k : CandKey) (level : Int) (r : AttachReport) (s : State) : State :=
  match reportGen (idMask (s.lane l).identity) r.gen with
  | none => attachBad n l .noService s
  | some g =>
    if !r.op.valid then attachBad n l .noService s
    else
      let s := offer (attachReportOf l r.op g level r.quality) false (setCamp l (some ⟨r.op, g⟩) s)
      if r.op = k.op ∧ g = k.gen then startDial n s else applyOutcome n .noService s

/-- ATTACH_DONE with result OK for a direct attempt (R38). -/
def laneAttached (n : Cp) (l : Lane) (a : AttemptStep) (level : Int) (r : AttachReport) (s : State) : State :=
  match reportGen (directMask a (s.lane l)) r.gen with
  | none => attachBad n l .attachRefused s
  | some g =>
    if !r.op.valid then attachBad n l .attachRefused s
    else directAttached n l a (attachReportOf l r.op g level r.quality) s

/-- An ATTACH_DONE that failed (R42): the camp record is absent. -/
def attachFailed (n : Cp) (o : CallOutcome) (s : State) : State := applyOutcome n o (clearCamp n s)

/-- ATTACH_DONE taken by a context in ATTACHING (R38, R42, R105): result 0 is OK, 4 REFUSED; an OK whose report is missing
is a failure other than REFUSED. -/
def attachDone (n : Cp) (l : Lane) (result : Nat) (level : Int) (report : Option AttachReport) (s : State) : State :=
  if (s.ctx n).state ≠ .attaching then s
  else if result = 0 then
    match report, (s.ctx n).choice, attemptStep s n with
    | some r, some (.cand k), _ => candAttached n l k level r s
    | some r, some (.lane _), some a => laneAttached n l a level r s
    | _, _, _ => attachFailed n .noService s
  else if result = 4 then attachFailed n .attachRefused s
  else attachFailed n .noService s

/-- ALERTING in DIALLING (R43). -/
def alerting (n : Cp) (s : State) : State :=
  if (s.ctx n).state = .dialling then
    startStep n (((attemptStep s n).map AttemptStep.ring).getD 0) (setState n .alerting s)
  else s

/-- A call is being set up: DIALLING or ALERTING. -/
def settingUp (s : State) (n : Cp) : Bool :=
  decide ((s.ctx n).state = .dialling) || decide ((s.ctx n).state = .alerting)

/-- CONNECTED in DIALLING or ALERTING (R7, R43). -/
def connectedWord (n : Cp) (s : State) : State := if settingUp s n then connect n s else s

/-- CALL_FAILED in DIALLING or ALERTING (R43). -/
def callFailed (n : Cp) (cause : Nat) (s : State) : State := if settingUp s n then dialFailed n cause s else s

/-! ## Scan reports (R76, R77) -/

/-- One network entry of a scan report (R77): its generation is checked, then it is offered to the table. -/
def mergeEntry (l : Lane) (s : State) (w : ScanNetwork) : State :=
  match reportGen (idMask (s.lane l).identity) w.gen with
  | none => countDiscarded s
  | some g =>
    offer { lane := l, op := w.op, gen := g, level := w.level, quality := w.quality, source := .scan } false s

/-- The next network entry of a report is merged, what came before it being published first: each entry that is discarded or
dropped is an event of its own (R159, R160). -/
def mergeNext (l : Lane) (s : State) (w : ScanNetwork) : State := mergeEntry l (flushStatus s) w

/-- A report of count networks is merged, in the order in which its entries stand (R77). -/
def mergeReport (l : Lane) (count : Nat) (data : List Byte) (s : State) : State :=
  ((List.range count).map (scanNetwork data)).foldl (mergeNext l) s

/-- A SCAN_READ's ACK (R76): a count above 6 is malformed and the scan ends failed; else the report is merged and the scan
ends completed. -/
def scanReport (l : Lane) (data : List Byte) (s : State) : State :=
  let count := (dataByte data 0).toNat
  if 6 < count then finishScan l false (countDiscarded s)
  else finishScan l true (modScan l (fun v => { v with lastSize := count }) (mergeReport l count data s))

/-- SCAN_DONE with the scan's tag (R76, R79): in RUNNING the timer stops, and OK queues SCAN_READ. -/
def scanDone (l : Lane) (tag result : Nat) (s : State) : State :=
  if (s.scan l).stage = .running ∧ (s.scan l).scanTag = some tag then
    (if result = 0 then
      queueScan l .read (modScan l (fun v => { v with stage := .reading, timer := none }) s)
    else finishScan l false s)
  else s

/-! ## Results of transactions (R101) -/

/-- A survey transaction's result, by the stage it belongs to (R75, R76, R79, R80). -/
def surveyResult (l : Lane) (code : ReqCode) (r : TxResult) (s : State) : State :=
  match (s.scan l).stage, code, r with
  | .opening, .scanStart, .ack _ =>
    modScan l (fun v => { v with stage := .running, timer := some (later s.now (scanTimeoutOf s)) }) s
  | .opening, .scanStart, _ => finishScan l false s
  | .reading, .scanRead, .ack data => scanReport l data s
  | .reading, .scanRead, _ => finishScan l false s
  | .aborting, .scanAbort, _ => markLane l (releaseSurvey l (modScan l (fun v => { v with stage := .none }) s))
  | _, _, _ => s

/-- A context's result of its ATTACH (R42). -/
def attachResult (n : Cp) (r : TxResult) (s : State) : State :=
  if (s.ctx n).state ≠ .attaching then s
  else
    match r with
    | .ack _ => s
    | .nak _ => attachFailed n .attachRefused s
    | .noResponse => applyOutcome n .noResponse s

/-- A context's result of its DIAL (R43): a NAK in DIALLING and ALERTING, a NO_RESPONSE in DIALLING. -/
def dialResult (n : Cp) (r : TxResult) (s : State) : State :=
  match r with
  | .ack _ => s
  | .nak cause => if settingUp s n then dialFailed n cause.toNat s else s
  | .noResponse => if (s.ctx n).state = .dialling then applyOutcome n .noResponse s else s

/-- A context's result of its ANSWER (R25). -/
def answerResult (n : Cp) (r : TxResult) (s : State) : State :=
  if (s.ctx n).state ≠ .ringing then s
  else
    match r with
    | .ack _ => connectCallback n s
    | .nak _ => restartWatch n s
    | .noResponse => restartWatch n s

/-- A context's result of its HANGUP: whatever it is, CLEARING ends (R9). -/
def hangupResult (n : Cp) (s : State) : State := if (s.ctx n).state = .clearing then leaveClearing n s else s

/-- A context's result of its TONES (R114, R115): ACK starts the play allowance of 150 ms a digit; anything else ends the
burst ABORTED. -/
def tonesResult (n : Cp) (r : TxResult) (s : State) : State :=
  let b := s.voice.burst.get n
  if b.stage ≠ .sending then s
  else
    match r with
    | .ack _ =>
      modBurst n (fun b =>
        { b with next := b.next + (burstGroup b).length, stage := .pacing,
                 timer := some (s.time.ms + Config.toneMs * (burstGroup b).length) }) s
    | .nak _ => rewriteOwn n (abortBurst n s)
    | .noResponse => rewriteOwn n (abortBurst n s)

/-- A context's result (R101). -/
def ctxResult (n : Cp) (code : ReqCode) (r : TxResult) (s : State) : State :=
  match code with
  | .attach => attachResult n r s
  | .dial => dialResult n r s
  | .answer => answerResult n r s
  | .hangup => hangupResult n s
  | .tones => tonesResult n r s
  | .probe | .scanStart | .scanAbort | .scanRead | .fetchEvent | .powerDown => s

/-! ## Event words (R103 to R105) -/

/-- INCOMING_RING on a lane (R104): to the context that owns it, else ring to refuse is set. -/
def incomingRing (l : Lane) (s : State) : State :=
  match (s.lane l).owner with
  | .ctx n => ring n s
  | .none => considerRing l (modLane l (fun r => { r with ringToRefuse := true }) s)
  | .survey => modLane l (fun r => { r with ringToRefuse := true }) s

/-- SERVICE_LOST on a lane (R104): the camp record is absent, and the owner context takes it (R22). -/
def serviceLostWord (l : Lane) (s : State) : State :=
  let s' := setCamp l none s
  match (s.lane l).owner with
  | .ctx n => serviceLost n s'
  | .none => s'
  | .survey => s'

/-- CLEARED_REMOTE with tag 0 (R104): a ring withdrawn; delivered to the owner context when it is RINGING (R25). -/
def ringWithdrawn (l : Lane) (s : State) : State :=
  let s' := dropMaint l .refuseRing (modLane l (fun r => { r with ringToRefuse := false }) s)
  match (s.lane l).owner with
  | .ctx n => if (s.ctx n).state = .ringing then clearedRemote n s' else s'
  | .none => s'
  | .survey => s'

/-- READY on a lane (R104): in STARTING the lane becomes READY (R92), in READY it faults (R97). In the other states, as in OFF
with the lane's POWER_DOWN pending and the fetch still in flight, the spec is silent: the word is taken without effect and
not counted (DESIGN CHOICE, log entry 56). -/
def readyWord (l : Lane) (s : State) : State :=
  match (s.lane l).state with
  | .starting => becomeReady l s
  | .ready => faultLane l .moduleFault s
  | .absent => s
  | .off => s
  | .faulted => s

/-- A tagged word taken by the holder of the outstanding tag (R105); one given to the other holder has no effect. -/
def taggedWord (l : Lane) (kind : WordKind) (w : BitVec 32) (report : Option AttachReport) (holder : Owner)
    (s : State) : State :=
  match holder with
  | .none => s
  | .survey => if kind = .scanDone then scanDone l (wordTag w) (wordResult w) s else s
  | .ctx n =>
    match kind with
    | .attachDone => attachDone n l (wordResult w) (wordLevel w) report s
    | .alerting => alerting n s
    | .connected => connectedWord n s
    | .callFailed => callFailed n (wordResult w) s
    | .callLost => callLost n s
    | .clearedRemote => clearedRemote n s
    | .scanDone | .ready | .incomingRing | .serviceLost | .levelReport | .moduleFault => s

/-- A tagged word is taken when its tag is not 0 and equals the lane's outstanding operation tag; else it is stale
(R103). -/
def matchTag (l : Lane) (kind : WordKind) (w : BitVec 32) (report : Option AttachReport) (s : State) : State :=
  match (s.lane l).outTag with
  | none => countStale s
  | some (tag, holder) =>
    if wordTag w ≠ 0 ∧ wordTag w = tag then taggedWord l kind w report holder s else countStale s

/-- An event word is taken (R103, R104). -/
def takeWord (l : Lane) (w : BitVec 32) (report : Option AttachReport) (s : State) : State :=
  match WordKind.ofNum (wordKind w) with
  | none => countStale s
  | some .ready => readyWord l s
  | some .incomingRing => incomingRing l s
  | some .serviceLost => serviceLostWord l s
  | some .levelReport => levelReport l (wordLevel w) s
  | some .moduleFault => faultLane l .moduleFault s
  | some .clearedRemote => if wordTag w = 0 then ringWithdrawn l s else matchTag l .clearedRemote w report s
  | some .scanDone => matchTag l .scanDone w report s
  | some .attachDone => matchTag l .attachDone w report s
  | some .alerting => matchTag l .alerting w report s
  | some .connected => matchTag l .connected w report s
  | some .callFailed => matchTag l .callFailed w report s
  | some .callLost => matchTag l .callLost w report s

/-- The result of a FETCH_EVENT (R102): ACK latches the word and takes it; NAK clears fetch armed. -/
def fetchResult (l : Lane) (r : TxResult) (s : State) : State :=
  match r with
  | .ack data =>
    takeWord l (wordOf data) (attachReport data) (modLane l (fun v => { v with lastWord := wordOf data }) s)
  | .nak _ => modLane l (fun v => { v with fetchArmed := false }) s
  | .noResponse => s

/-- The result of a lane manager's transaction (R93, R95, R102, R104). -/
def managerResult (l : Lane) (code : ReqCode) (r : TxResult) (s : State) : State :=
  match code with
  | .fetchEvent => fetchResult l r s
  | .powerDown => if (s.lane l).pdPending then powerOff l s else s
  | .hangup => dropMaint l .refuseRing (modLane l (fun v => { v with ringToRefuse := false }) s)
  | .probe | .scanStart | .scanAbort | .scanRead | .attach | .dial | .answer | .tones => s

/-- A result reaches its requester (R101). -/
def deliver (t : Transaction) (r : TxResult) (s : State) : State :=
  match t.requester with
  | .manager => managerResult t.lane t.code r s
  | .ctx n => ctxResult n t.code r s
  | .survey => surveyResult t.lane t.code r s

/-- What becomes of a result that was given up (R101, R103): it is discarded; an event word it carries counts as stale. -/
def discardResult (t : Transaction) (r : TxResult) (s : State) : State :=
  match t.code, r with
  | .fetchEvent, .ack _ => countStale s
  | _, _ => s

/-- A NO_RESPONSE counts against the lane (R96): not on a POWER_DOWN, nor on a lane FAULTED or unpowered. -/
def countsAgainst (s : State) (t : Transaction) : Bool :=
  decide (t.code ≠ .powerDown) && (s.lane t.lane).power && decide ((s.lane t.lane).state ≠ .faulted)

/-- The link has a transaction in flight no more. -/
def freeLink (s : State) : State := modLink (fun k => { k with inFlight := none }) s

/-- The probe timer starts again at the end of a PROBE (R95). -/
def afterProbe (t : Transaction) (s : State) : State := if t.code = .probe then startProbe t.lane s else s

/-- A transaction that is still wanted, or not, has its result dealt with. -/
def settleResult (t : Transaction) (r : TxResult) (s : State) : State :=
  afterProbe t (if t.wanted then deliver t r s else discardResult t r s)

/-- A transaction ends with a response (R96, R101): the lane's count returns to 0, the result goes to its requester. -/
def endAnswered (t : Transaction) (r : TxResult) (s : State) : State :=
  settleResult t r (setNoResp t.lane 0 (freeLink s))

/-- A transaction ends with NO_RESPONSE (R96, R101): link timeouts + 1; counted against the lane, the third in a row is a
fault, and the requester receives the fault and not the NO_RESPONSE. -/
def endUnanswered (t : Transaction) (s : State) : State :=
  let s := countTimeout (freeLink s)
  if countsAgainst s t then
    (if 3 ≤ (s.lane t.lane).noResp + 1 then faultLane t.lane .noResponse s
    else settleResult t .noResponse (setNoResp t.lane ((s.lane t.lane).noResp + 1) s))
  else settleResult t .noResponse s

/-! ## Meanings: the lane link -/

/-- A response frame belongs to a transaction: its lane address and tag are those of the request (R101). -/
def frameMatches (t : Transaction) (f : ResponseFrame) : Bool :=
  decide (f.lane.toNat = t.lane.num) && decide (f.tag.toNat = t.tag)

/-- RESPONSE_FRAME (R101, R188): a frame with another lane address or tag, or with no transaction in flight, is not
taken. -/
def execResponseFrame (f : ResponseFrame) (s : State) : Host.Outcome State Fault Refusal :=
  .next (match s.link.inFlight with
    | none => s
    | some t => onEvent (frameMatches t f) (endAnswered t (judge t.code f)) s)

/-- RESPONSE_TIMEOUT (R101): 500 ms after the request. -/
def execResponseTimeout (s : State) : Host.Outcome State Fault Refusal :=
  .next (match s.link.inFlight with
    | none => s
    | some t => onEvent (decide (t.deadline ≤ s.time.ms)) (endUnanswered t) s)

/-- EVENT_LINE_CHANGE (R102): a powered lane's line sampled de-asserted, now or until now, sets fetch armed (log entry
20). -/
def execEventLineChange (l : Lane) (asserted : Bool) (s : State) : Host.Outcome State Fault Refusal :=
  .next (
    let arms := (s.lane l).power && (!asserted || !s.env.evt.get l)
    let s := s.withEnv { s.env with evt := s.env.evt.set l asserted }
    finish (if arms then modLane l (fun r => { r with fetchArmed := true }) s else s))

/-! ## Meanings: the lane timers -/

/-- START_TIMEOUT (R92): the lane faults with cause START_TIMEOUT. -/
def execStartTimeout (l : Lane) (s : State) : Host.Outcome State Fault Refusal :=
  .next (onEvent (decide ((s.lane l).state = .starting) && expired s.now (s.lane l).startTimer)
    (faultLane l .startTimeout) s)

/-- RESTART_TIMER_EXPIRY (R98): restarts + 1, the lane is OFF, its fault cause as recorded. -/
def execRestartTimerExpiry (l : Lane) (s : State) : Host.Outcome State Fault Refusal :=
  .next (onEvent (decide ((s.lane l).state = .faulted) && expired s.now (s.lane l).restartTimer)
    (fun s => setLaneState l .off (modLane l (fun r =>
      { r with restarts := r.restarts + 1, restartTimer := none, standby := standbySetting s l }) s)) s)

/-- PROBE_TIMER_EXPIRY (R95): PROBE joins the maintenance requests. -/
def execProbeTimerExpiry (l : Lane) (s : State) : Host.Outcome State Fault Refusal :=
  .next (onEvent
    (decide ((s.lane l).state = .ready) && decide ((s.lane l).owner = .none) && expired s.now (s.lane l).probeTimer)
    (fun s => addMaint l .probe (modLane l (fun r => { r with probeTimer := none }) s)) s)

/-- A lane has been READY for 600 s (R98). -/
def longReady (s : State) (l : Lane) : Bool :=
  decide ((s.lane l).state = .ready)
    && ((s.lane l).readySince.map (fun t => decide (Config.restartsResetSeconds ≤ elapsed s.now t))).getD false

/-- RESTARTS_RESET (R98). -/
def execRestartsReset (l : Lane) (s : State) : Host.Outcome State Fault Refusal :=
  .next (if longReady s l then flushLane l (modLane l (fun r => { r with restarts := 0 }) s) else s)

/-! ## Meanings: identification (R87, R88) -/

/-- The waiting LANE_CONTROL RESETs of a lane complete with OK when its identification ends (R99, R168). -/
def completeIdents (l : Lane) (s : State) : State :=
  ((s.orders.waits.filter (fun x => decide (x.2 = Wait.ident l))).map Prod.fst).foldl
    (fun s i => completeOrder i .ok [] s) s

/-- The identity gives the lane its state (R88): 0xFFFF ABSENT; 0x0000 or no generation FAULTED; else OFF. A present lane
falls due for survey at once (R72; log entry 25). -/
def identified (l : Lane) (id : BitVec 16) (s : State) : State :=
  let s := modLane l (fun r => { r with identity := id, ident := none, standby := standbySetting s l }) s
  if id = 0xFFFF then dueNever l (removeLane l (setLaneState l .absent s))
  else if id = 0 ∨ idMask id = 0 then
    dueNow l (removeLane l (setLaneState l .faulted (modLane l (fun r => { r with cause := .identity }) s)))
  else dueNow l (setLaneState l .off s)

/-- During a reset a lane's block is rewritten with the result of its identification before the ready flag is set, changed
or not, and LANE is not raised (R86). -/
def publishIdentity (l : Lane) (s : State) : State := if s.port.ready then s else rewriteLane l s

/-- A read ends: its four sense lines are put in the identity; after the fourth the identification is complete, else the
next select combination is driven for 10 ms (R87). -/
def takeRead (l : Lane) (i : Ident) (sense : BitVec 4) (s : State) : State :=
  let bits := putSense i.bits i.read sense
  let next (j : Fin 4) := modLane l (fun r =>
    { r with ident := some { read := j, bits := bits, ends := i.ends + Config.identityMs } }) s
  match i.read with
  | 0 => next 1
  | 1 => next 2
  | 2 => next 3
  | 3 => completeReset (publishIdentity l (completeIdents l (identified l bits s)))

/-- IDENTITY_READ (R87, R88): with the last lane's fourth read a reset completes (R162). -/
def execIdentityRead (l : Lane) (sense : BitVec 4) (s : State) : Host.Outcome State Fault Refusal :=
  .next (match (s.lane l).ident with
    | none => s
    | some i => onEvent (decide (i.ends ≤ s.time.ms)) (takeRead l i sense) s)

end Sys2Proof.Machine
end

