-- ==== Sys2Proof/Machine/SurveyEvents.lean ====
section
/-! DEFINITION. The survey engine's own times (R73, R79). -/

namespace Sys2Proof.Machine

/-- Uptime has reached a lane's due time, its survey has not started and it is not on the list yet (R73). -/
def fallsDue (s : State) (l : Lane) : Bool :=
  expired s.now (s.scan l).due && !(s.scan l).stage.inFlight && !s.survey.list.any (fun m => decide (m = l))

/-- SURVEY_DUE (R73): the lane joins the list and is considered. -/
def execSurveyDue (l : Lane) (s : State) : Host.Outcome State Fault Refusal :=
  .next (onEvent (fallsDue s l) (joinList l) s)

/-- A scan's timer expires in RUNNING (R79). -/
def scanExpired (s : State) (l : Lane) : Bool :=
  decide ((s.scan l).stage = .running) && expired s.now (s.scan l).timer

/-- SCAN_TIMEOUT (R79): the scan ends failed, SCAN_ABORT is queued, and the engine keeps the lane until it ends. -/
def execScanTimeout (l : Lane) (s : State) : Host.Outcome State Fault Refusal :=
  .next (onEvent (scanExpired s l)
    (fun s => queueScan l .abort (modScan l (fun v => { v with stage := .aborting }) (endScan l false s))) s)

end Sys2Proof.Machine
end

