-- ==== Sys2Proof/Machine/TableEvents.lean ====
section
/-! DEFINITION. The score tick and its three parts (R62 to R65). The tick of a multiple of 16 s is taken once; BAR_LIFT,
FAIL_DECAY and LIFETIME_REMOVAL do their part of a tick that is due, for the whole table (log entry 10). -/

namespace Sys2Proof.Machine

/-- A tick is due: uptime is a whole multiple of 16 s and its tick has not been taken (R62). -/
def tickIsDue (s : State) : Bool := s.tickDue && decide (s.now.toNat % Config.tickSeconds = 0)

/-- The score tick (R62): every entry aged, removed or lifted, decayed and scored; one publication, none on an empty
table. -/
def tick (s : State) : State :=
  let s := s.withTickDue false
  if s.table.isEmpty then s
  else publishTable ((s.table.filter (fun e => !outlived s e)).map (tickEntry s)) s

/-- SCORE_TICK (R62). -/
def execScoreTick (s : State) : Host.Outcome State Fault Refusal := .next (onChange (tickIsDue s) tick s)

/-- The entries of a kind are changed and scored, in one publication; none of the kind, no change. -/
def changeEntries (p : Entry → Bool) (f : Entry → Entry) (s : State) : State :=
  if s.table.any p then publishTable (s.table.map (fun e => if p e then scored s (f e) else e)) s else s

/-- BAR_LIFT (R63): every bar whose time has come is lifted, and its entry scored. -/
def execBarLift (s : State) : Host.Outcome State Fault Refusal :=
  .next (onChange (tickIsDue s) (fun s => changeEntries (barDue s) (liftBar s) s) s)

/-- FAIL_DECAY (R64): every fail count whose period has passed falls by one, and its entry is scored. -/
def execFailDecay (s : State) : Host.Outcome State Fault Refusal :=
  .next (onChange (tickIsDue s) (fun s => changeEntries (failDue s) (decayFail s) s) s)

/-- LIFETIME_REMOVAL (R65): every entry whose age has reached the candidate lifetime is removed. -/
def execLifetimeRemoval (s : State) : Host.Outcome State Fault Refusal :=
  .next (onChange (tickIsDue s)
    (fun s => if s.table.any (outlived s) then publishTable (s.table.filter (fun e => !outlived s e)) s else s) s)

end Sys2Proof.Machine
end

