-- ==== Sys2Proof/Machine/SupplyEvents.lean ====
section
/-! DEFINITION. The supply measurement and the timebase (R177, R185). -/

namespace Sys2Proof.Machine

/-- What the two converters show (log entry 5). -/
def setCodes (battery temperature : BitVec 16) (s : State) : State :=
  s.withEnv { s.env with battery := battery, temperature := temperature }

/-- MEASUREMENT_EXPIRY (R177): the codes stand at the converters; at the expiry of the measurement timer they are
measured. -/
def execMeasurementExpiry (battery temperature : BitVec 16) (s : State) : Host.Outcome State Fault Refusal :=
  .next (onEvent (reached s.now s.supply.timer) (measure battery temperature) (setCodes battery temperature s))

/-- A powered lane's event line sampled de-asserted sets fetch armed (R102). -/
def sampleEvt (s : State) (l : Lane) : State :=
  if (s.lane l).power && !s.env.evt.get l then modLane l (fun r => { r with fetchArmed := true }) s else s

/-- Every event line is sampled, once each millisecond (R102). -/
def sampleEvts (s : State) : State := lanes.foldl sampleEvt s

/-- Uptime and clock rise by one (R185); the score tick of a multiple of 16 s becomes due (R62). -/
def riseSecond (s : State) : State :=
  let t := s.time
  let s := s.withTime { uptime := t.uptime + 1, clock := t.clock + 1, ms := (t.ms / 1000 + 1) * 1000 }
  s.withTickDue (decide (s.now.toNat % Config.tickSeconds = 0))

/-- UPTIME_SECOND (R159, R185): both counts are published in the part status block; the millisecond count stands at its
next whole second (log entry 2). -/
def execUptimeSecond (s : State) : Host.Outcome State Fault Refusal :=
  .next (finish (rewriteStatus (sampleEvts (riseSecond s))))

end Sys2Proof.Machine
end

