-- ==== Sys2Proof/Machine/Dispatch.lean ====
section
/-! DEFINITION. The commands and their meanings: one arm each. -/

namespace Sys2Proof.Machine

def exec (i : Instr) (s : State) : Host.Outcome State Fault Refusal :=
  match i with
  | .powerOn => Sys2Proof.Machine.execPowerOn s
  | .resetnFall => Sys2Proof.Machine.execResetnFall s
  | .resetnRise => Sys2Proof.Machine.execResetnRise s
  | .partReset => Sys2Proof.Machine.execPartReset s
  | .portReset => Sys2Proof.Machine.execPortReset s
  | .ptrWrite b => Sys2Proof.Machine.execPtrWrite b s
  | .dataWrite b => Sys2Proof.Machine.execDataWrite b s
  | .dataRead => Sys2Proof.Machine.execDataRead s
  | .attentionWrite b => Sys2Proof.Machine.execAttentionWrite b s
  | .attnMaskWrite b => Sys2Proof.Machine.execAttnMaskWrite b s
  | .ignoredRegisterWrite b => Sys2Proof.Machine.execIgnoredRegisterWrite b s
  | .orderWithdrawal slot => Sys2Proof.Machine.execOrderWithdrawal slot s
  | .setTime => Sys2Proof.Machine.execSetTime s
  | .placeCall => Sys2Proof.Machine.execPlaceCall s
  | .cancelCall => Sys2Proof.Machine.execCancelCall s
  | .continueCall => Sys2Proof.Machine.execContinueCall s
  | .loadPlan => Sys2Proof.Machine.execLoadPlan s
  | .loadMatrix => Sys2Proof.Machine.execLoadMatrix s
  | .surveyNow => Sys2Proof.Machine.execSurveyNow s
  | .forgetCandidates => Sys2Proof.Machine.execForgetCandidates s
  | .laneControlReset => Sys2Proof.Machine.execLaneControlReset s
  | .laneControlForceOff => Sys2Proof.Machine.execLaneControlForceOff s
  | .laneControlAuto => Sys2Proof.Machine.execLaneControlAuto s
  | .setPower => Sys2Proof.Machine.execSetPower s
  | .setPowerDormant => Sys2Proof.Machine.execSetPowerDormant s
  | .clearCounts => Sys2Proof.Machine.execClearCounts s
  | .unknownOrder => Sys2Proof.Machine.execUnknownOrder s
  | .fieldLineChange line level => Sys2Proof.Machine.execFieldLineChange line level s
  | .debounceExpiry line => Sys2Proof.Machine.execDebounceExpiry line s
  | .callCpn n => Sys2Proof.Machine.execCallCpn n s
  | .cancelCpn n => Sys2Proof.Machine.execCancelCpn n s
  | .tamper => Sys2Proof.Machine.execTamper s
  | .wake => Sys2Proof.Machine.execWake s
  | .attachTimeout n => Sys2Proof.Machine.execAttachTimeout n s
  | .alertTimeout n => Sys2Proof.Machine.execAlertTimeout n s
  | .ringTimeout n => Sys2Proof.Machine.execRingTimeout n s
  | .pauseExpiry n => Sys2Proof.Machine.execPauseExpiry n s
  | .retryPauseExpiry n => Sys2Proof.Machine.execRetryPauseExpiry n s
  | .surveyWaitExpiry n => Sys2Proof.Machine.execSurveyWaitExpiry n s
  | .locationDelayExpiry n => Sys2Proof.Machine.execLocationDelayExpiry n s
  | .pacingExpiry n => Sys2Proof.Machine.execPacingExpiry n s
  | .callbackWindowExpiry n => Sys2Proof.Machine.execCallbackWindowExpiry n s
  | .flashPhase n => Sys2Proof.Machine.execFlashPhase n s
  | .ringerCadence n => Sys2Proof.Machine.execRingerCadence n s
  | .responseFrame f => Sys2Proof.Machine.execResponseFrame f s
  | .responseTimeout => Sys2Proof.Machine.execResponseTimeout s
  | .eventLineChange l asserted => Sys2Proof.Machine.execEventLineChange l asserted s
  | .startTimeout l => Sys2Proof.Machine.execStartTimeout l s
  | .restartTimerExpiry l => Sys2Proof.Machine.execRestartTimerExpiry l s
  | .probeTimerExpiry l => Sys2Proof.Machine.execProbeTimerExpiry l s
  | .restartsReset l => Sys2Proof.Machine.execRestartsReset l s
  | .identityRead l sense => Sys2Proof.Machine.execIdentityRead l sense s
  | .surveyDue l => Sys2Proof.Machine.execSurveyDue l s
  | .scanTimeout l => Sys2Proof.Machine.execScanTimeout l s
  | .scoreTick => Sys2Proof.Machine.execScoreTick s
  | .barLift => Sys2Proof.Machine.execBarLift s
  | .failDecay => Sys2Proof.Machine.execFailDecay s
  | .lifetimeRemoval => Sys2Proof.Machine.execLifetimeRemoval s
  | .measurementExpiry battery temperature => Sys2Proof.Machine.execMeasurementExpiry battery temperature s
  | .uptimeSecond => Sys2Proof.Machine.execUptimeSecond s
  | .registerSelectByte b => Sys2Proof.Machine.execRegisterSelectByte b s
  | .hostTransactionEnd => Sys2Proof.Machine.execHostTransactionEnd s

end Sys2Proof.Machine
end

