-- ==== Sys2Proof/Machine/OwnEvents.lean ====
section
/-! DEFINITION. What the part does when no command is waiting (log entry 1): what was left of the last command's rounds,
else its own next event that is due, in one fixed order (log entry 13), else a millisecond passes (R185). -/

namespace Sys2Proof.Machine

/-- A command, when it is due. -/
def whenDue (due : Bool) (c : Instr) : List Instr := if due then [c] else []

/-- The command that takes a trigger event. -/
def TrigFn.command : TrigFn → Instr
  | .call n => .callCpn n
  | .cancel n => .cancelCpn n
  | .tamper => .tamper
  | .wake => .wake

/-- The events handed over and not yet taken, once the ready flag is set (R127). -/
def dueTriggers (s : State) : List Instr := if s.port.ready then s.matrix.raised.map TrigFn.command else []

/-- The withdrawals handed to the order unit (R168). -/
def dueWithdrawals (s : State) : List Instr :=
  (slotIndexes.filter (fun i => decide (s.slotState i = slotWithdraw))).map Instr.orderWithdrawal

/-- The command that takes an order row. -/
def OrderRow.command : OrderRow → Instr
  | .setTime => .setTime
  | .placeCall => .placeCall
  | .cancelCall => .cancelCall
  | .continueCall => .continueCall
  | .loadPlan => .loadPlan
  | .loadMatrix => .loadMatrix
  | .surveyNow => .surveyNow
  | .forgetCandidates => .forgetCandidates
  | .laneReset => .laneControlReset
  | .laneForceOff => .laneControlForceOff
  | .laneAuto => .laneControlAuto
  | .setPower => .setPower
  | .setPowerDormant => .setPowerDormant
  | .clearCounts => .clearCounts
  | .unknown => .unknownOrder

/-- The order at the front of the posted list (R166). -/
def dueOrder (s : State) : List Instr :=
  match s.orders.posted with
  | [] => []
  | i :: _ => [(orderRow s i).command]

/-- The expiries of the debounce timers (R122). -/
def dueDebounce (s : State) : List Instr :=
  (lineIndexes.filter (fun i => expiredMs s.time.ms s.matrix.timers[i])).map Instr.debounceExpiry

/-- What is due of one call point and its context. -/
def dueCp (s : State) (n : Cp) : List Instr :=
  whenDue (stepExpired s n .attaching) (.attachTimeout n)
    ++ whenDue (stepExpired s n .dialling) (.alertTimeout n)
    ++ whenDue (stepExpired s n .alerting) (.ringTimeout n)
    ++ whenDue (stepExpired s n .paused && !(s.ctx n).endPause) (.pauseExpiry n)
    ++ whenDue (stepExpired s n .paused && (s.ctx n).endPause) (.retryPauseExpiry n)
    ++ whenDue (stepExpired s n .surveyWait) (.surveyWaitExpiry n)
    ++ whenDue (delayExpired s n) (.locationDelayExpiry n)
    ++ whenDue (pacingExpired s n) (.pacingExpiry n)
    ++ whenDue (windowExpired s n) (.callbackWindowExpiry n)
    ++ whenDue (phaseEnded s (s.lamps.get n).flash) (.flashPhase n)
    ++ whenDue (phaseEnded s (s.lamps.get n).ringer) (.ringerCadence n)

/-- The read of a lane whose time has come, with what the straps present (R87; log entry 5). -/
def dueRead (s : State) (l : Lane) : List Instr :=
  match (s.lane l).ident with
  | none => []
  | some i => whenDue (decide (i.ends ≤ s.time.ms)) (.identityRead l (strapSense (s.env.straps.get l) i.read))

/-- What is due of one lane. -/
def dueLane (s : State) (l : Lane) : List Instr :=
  dueRead s l
    ++ whenDue (decide ((s.lane l).state = .starting) && expired s.now (s.lane l).startTimer) (.startTimeout l)
    ++ whenDue (decide ((s.lane l).state = .faulted) && expired s.now (s.lane l).restartTimer) (.restartTimerExpiry l)
    ++ whenDue (decide ((s.lane l).state = .ready) && decide ((s.lane l).owner = .none)
        && expired s.now (s.lane l).probeTimer) (.probeTimerExpiry l)
    ++ whenDue (longReady s l && decide ((s.lane l).restarts ≠ 0)) (.restartsReset l)
    ++ whenDue (fallsDue s l) (.surveyDue l)
    ++ whenDue (scanExpired s l) (.scanTimeout l)

/-- The response timeout of the transaction in flight (R101). -/
def dueResponse (s : State) : List Instr :=
  match s.link.inFlight with
  | none => []
  | some t => whenDue (decide (t.deadline ≤ s.time.ms)) .responseTimeout

/-- The part's own events that are due, in the order in which they are taken (log entry 13). -/
def dueEvents (s : State) : List Instr :=
  dueTriggers s ++ dueWithdrawals s ++ dueOrder s ++ whenDue (tickIsDue s) .scoreTick
    ++ whenDue (reached s.now s.supply.timer) (.measurementExpiry s.env.battery s.env.temperature)
    ++ dueDebounce s ++ dueResponse s ++ dueCp s .p0 ++ dueCp s .p1
    ++ dueLane s .l0 ++ dueLane s .l1 ++ dueLane s .l2 ++ dueLane s .l3

/-- A millisecond passes (R185): the event lines are sampled; at the thousandth, uptime rises. -/
def passMs (s : State) : Host.Outcome State Fault Refusal :=
  if (s.time.ms + 1) % 1000 = 0 then exec .uptimeSecond s
  else .next (finish (sampleEvts (s.withTime { s.time with ms := s.time.ms + 1 })))

/-- The part left to itself (log entry 1). -/
def idleStep (s : State) : Host.Outcome State Fault Refusal :=
  if unsettled s then .next (finish s)
  else
    match dueEvents s with
    | [] => passMs s
    | c :: _ => exec c s

end Sys2Proof.Machine
end

