-- ==== Sys2Proof/Machine/Pins.lean ====
section
/-! DEFINITION. What the part puts on its pins and its audio lines: the field lines (R121, R123), each lane's power enable,
select lines, link gate and side of the lane link (R87, R92, R94), the host port's HSDO (R148), and the two ends of the voice
crosspoint (R108). All of it follows from State at every moment, so no command writes it; what is electrical (currents,
levels, the analogue path) is left out (log entry 32). -/

namespace Sys2Proof.Machine

/-! ## Field lines -/

/-- What the part does to a pin (R94, R121). -/
inductive PinDrive where
  | highImpedance
  | pulledUp
  | pulledDown
  | drivenHigh
  | drivenLow
deriving DecidableEq, Repr

/-- The value of a field line now (R121, R123): 0 for UNUSED, the debounced level for INPUT, the present value of its
output source for OUTPUT. -/
def State.lineValue (s : State) (i : Fin 12) : Bool :=
  match s.matrix.config.lines[i] with
  | .unused => false
  | .input _ _ => s.matrix.debounced.getLsbD i.val
  | .output (.cell j) => s.matrix.cells.getLsbD j.val
  | .output (.connecting n) => s.connectingLamp n
  | .output (.connected n) => s.connectedLamp n
  | .output (.ringer n) => s.ringerOn n
  | .output .notHealthy => decide (s.supply.level ≠ .healthy)
  | .output .attnMirror => s.attnAsserted

/-- The pin of a field line (R121): high impedance while the RESETn pin holds the part in reset and in group UNUSED, a
weak pull-up in group INPUT, driven high while its value is 1 and low while it is 0 in group OUTPUT. -/
def State.fieldPin (s : State) (i : Fin 12) : PinDrive :=
  if s.env.resetLow then .highImpedance
  else
    match s.matrix.config.lines[i] with
    | .unused => .highImpedance
    | .input _ _ => .pulledUp
    | .output _ => if s.lineValue i then .drivenHigh else .drivenLow

/-! ## The lanes' outputs -/

/-- What a standby line state does to a line (R94). -/
def Standby.drive : Standby → PinDrive
  | .float => .highImpedance
  | .driveLow => .drivenLow
  | .pullDown => .pulledDown

/-- A lane's link gate is open: closed while the lane is OFF and unpowered, FAULTED or ABSENT, opened when it is started (R92,
R94). -/
def State.linkGateOpen (s : State) (l : Lane) : Bool := !inStandby (s.lane l)

/-- The drive of a lane's standby line state while that is in force (R94). -/
def State.standbyDrive (s : State) (l : Lane) : Option PinDrive :=
  if s.linkGateOpen l then none else some (s.lane l).standby.drive

/-- A lane's side of the lane link (R94): joined to the link through its open gate, or held in the standby line state. -/
inductive LinkSide where
  | joined
  | standby (d : PinDrive)
deriving DecidableEq, Repr

/-- The lane's side of the lane link (R94). -/
def State.linkSide (s : State) (l : Lane) : LinkSide :=
  match s.standbyDrive l with
  | none => .joined
  | some d => .standby d

/-- What PWRk does (R85, R94): it enables the lane's power, or is held in the standby line state. -/
inductive PowerEnable where
  | enabled
  | standby (d : PinDrive)
deriving DecidableEq, Repr

/-- PWRk (R85, R94). -/
def State.powerEnable (s : State) (l : Lane) : PowerEnable :=
  match s.standbyDrive l with
  | none => .enabled
  | some d => .standby d

/-- What S1k and S0k do (R87, R94): they are driven in a read of the identification, held in the standby line state, or, on a
powered lane, do what no rule states. -/
inductive SelectPins where
  | read (s1 s0 : Bool)
  | standby (d : PinDrive)
  | unstated
deriving DecidableEq, Repr

/-- S1k and S0k: the levels of the read in progress during identification (R87), from the fourth read on the standby line
state again (R94). Of a powered lane the spec says nothing, and neither does this (DESIGN CHOICE, log entry 64). -/
def State.selectPins (s : State) (l : Lane) : SelectPins :=
  match (s.lane l).ident with
  | some i => .read (selectLines i.read).1 (selectLines i.read).2
  | none =>
    match s.standbyDrive l with
    | none => .unstated
    | some d => .standby d

/-! ## HSDO -/

/-- What HSDO does (R148): high impedance, or driven, with the byte it carries where a rule gives one. -/
inductive HsdoPin where
  | highImpedance
  | driven (byte : Option Byte)
deriving DecidableEq, Repr

/-- HSDO while data byte number k of the open transaction is clocked (R148, R149): driven only while HCSn is low, which is
while a transaction is open, and high impedance while RESETn is low; a read carries the register's byte, as sampled when its
first bit is driven. What it carries in a write no rule states (DESIGN CHOICE, log entry 64). -/
def State.hsdoPin (s : State) (k : Nat) : HsdoPin :=
  if s.env.resetLow then .highImpedance
  else
    match s.port.txn with
    | none => .highImpedance
    | some t => .driven (if t.read then some (registerValue s t.reg k) else none)

/-! ## The voice crosspoint -/

/-- What LANEk_TX carries (R108): silence, or a call point's microphone CPn_MIC. -/
inductive LaneAudio where
  | silence
  | mic (n : Cp)
deriving DecidableEq, Repr

/-- What CPn_EAR carries (R108): silence, or a lane's receive audio LANEk_RX. -/
inductive EarAudio where
  | silence
  | laneRx (l : Lane)
deriving DecidableEq, Repr

/-- A call point feeds a lane: it is connected to the lane and its mute state is OPEN (R108). -/
def State.feeds (s : State) (n : Cp) (l : Lane) : Bool :=
  decide (s.voice.conn.get n = some l) && !s.voice.muted.get n

/-- LANEk_TX (R108): the microphone of the call point connected to the lane, silence while that call point is MUTED or
when there is none; a lane is connected to at most one call point. -/
def State.laneTx (s : State) (l : Lane) : LaneAudio :=
  if s.feeds .p0 l then .mic .p0
  else if s.feeds .p1 l then .mic .p1
  else .silence

/-- CPn_EAR (R108): the receive audio of the lane the call point is connected to, whatever its mute state, or silence. -/
def State.cpEar (s : State) (n : Cp) : EarAudio :=
  match s.voice.conn.get n with
  | none => .silence
  | some l => .laneRx l

end Sys2Proof.Machine
end

