-- ==== Sys2Proof/Safety.lean ====
section
/-! DEFINITION. What a safe step is: a next state, neither a fault nor a refusal, of which something holds; and the
invariants that every step keeps, of the exchange memory, the candidate table, the start queue, the counters and the
attention register. -/

namespace Sys2Proof

/-- A command completes at a state: exec answers a next state of which P holds. -/
def Completes (c : Instr) (s : Machine.State) (P : Machine.State → Prop) : Prop :=
  ∃ t, Machine.exec c s = .next t ∧ P t

/-- A command completes at a state through a state of which P holds: the command's own effect, before what follows it
at once is done, the arbiter grants and the changed blocks are rewritten (Machine.finish; log entry 12). -/
def CompletesThrough (c : Instr) (s : Machine.State) (P : Machine.State → Prop) : Prop :=
  ∃ u, Machine.exec c s = .next (Machine.finish u) ∧ P u

/-- Every byte but n bytes from base reads as before. -/
def SameOutside (s t : Machine.State) (base n : Nat) : Prop :=
  ∀ a, ¬(base ≤ a ∧ a < base + n) → t.mem.read a = s.mem.read a

/-- The trigger matrix has taken changes of its sources, one evaluation for each, and nothing else of it changed: events
handed over stay, new ones join behind them (R126, R127). -/
def MatrixEvaluated (s t : Machine.State) : Prop :=
  t.matrix = { s.matrix with cells := t.matrix.cells, fns := t.matrix.fns, sources := t.matrix.sources,
                             raised := t.matrix.raised, unshown := t.matrix.unshown }
    ∧ ∃ l, t.matrix.raised = s.matrix.raised ++ l

/-- A data byte of window w has moved its pointer on by one, from 0x1FFF to 0, and left the other window as it was
(R150). -/
def PointerAdvanced (s t : Machine.State) (w : Machine.Window) : Prop :=
  t.port.ptr w = s.port.ptr w + 1 ∧ ∀ v, v ≠ w → t.port.ptr v = s.port.ptr v ∧ t.port.cap v = s.port.cap v

/-- A slot holds a completed order: DONE, the result code, and the detail bytes from its result part on, the rest of the
result part zero (R167, 12.4). -/
def OrderDone (s : Machine.State) (i : Fin 8) (result : Byte) (detail : List Byte) : Prop :=
  s.slotState i = 3 ∧ s.mem.read (0x100 + 32 * i.val + 16) = result ∧ s.mem.read (0x100 + 32 * i.val + 17) = 0
    ∧ ∀ k, k < 14 → s.mem.read (0x100 + 32 * i.val + 18 + k) = (detail[k]?).getD 0

/-- The order at the front of the posted list: its slot, its code and its first argument bytes, as the part reads the
body (12.4, R154, R166). -/
def FrontOrder (s : Machine.State) (i : Fin 8) (code : Nat) (args : List Byte) : Prop :=
  s.orders.posted.head? = some i ∧ (s.hostMem.read (0x100 + 32 * i.val + 1)).toNat = code
    ∧ ∀ k, k < args.length → s.hostMem.read (0x100 + 32 * i.val + 4 + k) = (args[k]?).getD 0

/-- Every byte reads as before but the n bytes from base, a slot's state byte and its result part. -/
def SameButSlot (s u : Machine.State) (i : Fin 8) (base n : Nat) : Prop :=
  ∀ a, ¬(base ≤ a ∧ a < base + n) → a ≠ 0x100 + 32 * i.val
    → ¬(0x100 + 32 * i.val + 16 ≤ a ∧ a < 0x100 + 32 * i.val + 32) → u.mem.read a = s.mem.read a

/-- The attention register as raised by some bits, which it takes once the ready flag is set (R158, R162). -/
def raised (p : Machine.Port) (bits : Byte) : Machine.Port :=
  { p with attention := if p.ready then p.attention ||| bits else p.attention }

/-- An order has left the posted list and is DONE; its completion and what else it did have raised these bits (R166,
R167). -/
def OrderCompleted (s u : Machine.State) (i : Fin 8) (result : Byte) (detail : List Byte) (bits : Byte) : Prop :=
  OrderDone u i result detail
    ∧ u.orders = { posted := s.orders.posted.filter (fun j => decide (j ≠ i)),
                   waits := s.orders.waits.filter (fun x => decide (x.1 ≠ i)) }
    ∧ u.port = raised s.port bits ∧ MatrixEvaluated s u

/-- An order is taken and completes, and has no other effect. -/
def OrderOnly (s : Machine.State) (i : Fin 8) (result : Byte) (detail : List Byte) (u : Machine.State) : Prop :=
  OrderCompleted s u i result detail 0x01 ∧ SameButSlot s u i 0 0
    ∧ u = { s with mem := u.mem, orders := u.orders, port := u.port, matrix := u.matrix }

/-- An order is taken and stands in a wait (R166, R168): its slot TAKEN, no other byte changed outside the n from base. -/
def OrderWaits (s u : Machine.State) (i : Fin 8) (w : Machine.Wait) (base n : Nat) : Prop :=
  u.slotState i = 2 ∧ SameButSlot s u i base n
    ∧ (∀ k, 16 ≤ k → k < 32 → u.mem.read (0x100 + 32 * i.val + k) = s.mem.read (0x100 + 32 * i.val + k))
    ∧ u.orders.posted = s.orders.posted.filter (fun j => decide (j ≠ i)) ∧ (i, w) ∈ u.orders.waits

/-- A lane that an immediate request finds SKIPPED (R82). -/
def SkippedForSurvey (s : Machine.State) (l : Lane) : Prop :=
  s.supply.level = .critical ∨ s.supply.power = .dormant ∨ (s.lane l).state = .absent ∨ (s.lane l).state = .faulted
    ∨ (s.lane l).forcedOff = true ∨ (∃ n, (s.lane l).owner = .ctx n)
    ∨ ((s.lane l).state = .off ∧ ∀ e ∈ s.startq, e.lane ≠ l)

/-- A call has started (R5, R136, R138): the context on step 0 in SELECTING, the record j opened for it, the CONNECTING
lamp flashing from an on phase (R118), the other context and the other records as they were, but for the record that the
call's start has closed, if any. -/
structure CallStarted (s u : Machine.State) (n : Cp) (kind : Machine.CallKind) (source : Machine.CallSource)
    (number : Option (Fin 4)) (hold : Bool) (j : Fin 12) (closing : Option (Fin 12)) : Prop where
  ctx : u.ctx n = { s.ctx n with
    state := .selecting, kind := kind, source := source, record := some j, numberOverride := number, step := 0,
    tries := 0, tried := [], current := none, pendingOutcome := none, emergencyStart := false, stepHold := hold,
    connectedOnce := false, choice := none, retry := false, keepFirst := (s.ctx n).lane.isSome, attempt := none,
    atEnd := false, endPause := false }
  otherCtx : u.ctx n.other = s.ctx n.other
  record : u.record j = { Machine.CallRecord.blank with
    state := .opened, seq := s.recs.nextSeq, cp := n, kind := kind, source := source, ctxState := .selecting,
    start := s.time.clock, lane := (s.ctx n).lane }
  others : ∀ k, k ≠ j → closing ≠ some k → u.record k = s.record k
  seq : u.recs.nextSeq = s.recs.nextSeq + 1
  revision : u.mem.num (0x1000 + 256 * j.val) 2 = (s.mem.num (0x1000 + 256 * j.val) 2 + 2) % 65536
  lamps : u.lamps.get n = { flash := some ⟨true, s.time.ms + 500⟩, ringer := none }
  otherLamps : u.lamps.get n.other = s.lamps.get n.other

/-- The record r of a watch that a new call ends (R5, R144): closed with its last ending outcome as the final one, at the
back of the close order, and rewritten. -/
def WatchClosed (s u : Machine.State) (r : Fin 12) : Prop :=
  (u.record r).state = .closed ∧ (u.record r).final = (s.record r).last ∧ (u.record r).last = (s.record r).last
    ∧ (u.record r).ended = some s.time.clock ∧ (u.record r).ctxState = .idle ∧ (u.record r).lane = none
    ∧ (u.record r).cand = none ∧ u.recs.closeOrder = s.recs.closeOrder ++ [r]
    ∧ u.mem.num (0x1000 + 256 * r.val) 2 = (s.mem.num (0x1000 + 256 * r.val) 2 + 2) % 65536

/-- The attempt in progress, if there is one, has ended with an outcome (R41, R142): the front entry of the record's history
holds it, or CONNECTED if the attempt had reached CONNECTED, and the attempt's duration in uptime, at most 65535; no other
entry changes. -/
def AttemptEnded (s u : Machine.State) (n : Cp) (o : Machine.CallOutcome) : Prop :=
  (u.ctx n).attempt = none
    ∧ (∀ j, (s.ctx n).record = some j → (s.ctx n).attempt = none → (u.record j).history = (s.record j).history)
    ∧ ∀ j a, (s.ctx n).record = some j → (s.ctx n).attempt = some a →
        (u.record j).history.tail = (s.record j).history.tail
          ∧ (u.record j).history.head? = (s.record j).history.head?.map (fun h =>
              { h with outcome := some (if a.connected then .connected else o)
                       duration := some (min (s.time.uptime - a.start).toNat 65535) })

/-- A call has ended at once (R11, R144): the context IDLE with its timers stopped and its claim released, its record
closed with the final outcome at the back of the close order. A lane that the other context waits for passes to it
(R19). -/
structure CallEnded (s u : Machine.State) (n : Cp) (final : Option Machine.CallOutcome)
    (claim : Option Lane) : Prop where
  ctx : u.ctx n = { s.ctx n with
    state := .idle, record := none, lane := none, op := none, attempt := none, pendingClaim := claim,
    stepTimer := none, locTimer := none, cbTimer := none }
  record : ∀ j, (s.ctx n).record = some j →
    (u.record j).state = .closed ∧ (u.record j).final = final ∧ (u.record j).last = final
      ∧ (u.record j).ended = some s.time.clock ∧ (u.record j).ctxState = .idle ∧ (u.record j).lane = none
      ∧ (u.record j).cand = none ∧ (u.record j).attempts = (s.record j).attempts
      ∧ u.recs.closeOrder = s.recs.closeOrder ++ [j]
  history : AttemptEnded s u n (final.getD .partReset)
  others : ∀ k, (s.ctx n).record ≠ some k → u.record k = s.record k
  seq : u.recs.nextSeq = s.recs.nextSeq
  freed : ∀ l, (s.ctx n).lane = some l → (s.ctx n.other).pendingClaim ≠ some l →
    (u.lane l).owner = .none ∧ (u.lane l).outTag = none ∧ u.ctx n.other = s.ctx n.other
  passed : ∀ l, (s.ctx n).lane = some l → (s.ctx n.other).pendingClaim = some l →
    (u.lane l).owner = .ctx n.other ∧ (u.lane l).outTag = none
      ∧ u.ctx n.other = { s.ctx n.other with pendingClaim := none, lane := some l }
  unclaimed : (s.ctx n).lane = none → u.lanes = s.lanes ∧ u.ctx n.other = s.ctx n.other
  lanes : ∀ m, (s.ctx n).lane ≠ some m → u.lane m = s.lane m

/-- A call that has connected has ended into CALLBACK_WATCH on its READY lane (R11): the callback window timer runs with
the window setting, the claim is kept, the record stays open with the outcome as its last one, the attempt is over, what
the context still asked of the link and of the survey engine is given up. -/
structure WatchEntered (s u : Machine.State) (n : Cp) (o : Machine.CallOutcome) : Prop where
  ctx : u.ctx n = { s.ctx n with
    state := .callbackWatch, pendingClaim := none, attempt := none, stepTimer := none, locTimer := none,
    cbTimer := some (s.time.uptime + BitVec.ofNat 32 (Machine.callbackWindowOf s)) }
  otherCtx : u.ctx n.other = s.ctx n.other
  record : ∀ j, (s.ctx n).record = some j →
    u.record j = { s.record j with last := some o, history := (u.record j).history }
  history : AttemptEnded s u n o
  others : ∀ k, (s.ctx n).record ≠ some k → u.record k = s.record k
  stillOpen : u.recs = { s.recs with all := u.recs.all }
  requests : u.link.ctxReq.get n = none ∧ u.survey.ctxReq.get n = none

/-- The lane that a context claims has left the start queue, and no other lane has (R12). -/
def ClaimDequeued (s u : Machine.State) (n : Cp) : Prop :=
  u.startq = s.startq.filter (fun e => decide ((s.ctx n).lane ≠ some e.lane))

/-- CLEARING has been entered with a pending outcome (R9): HANGUP is asked of the claimed lane, the step timer stops;
out of CONNECTED the path is broken, the location delay stops and a burst in progress is aborted (R109, R116). The attempt in
progress has ended with the outcome ended, or goes on where that is absent (R41). -/
structure ClearingEntered (s u : Machine.State) (n : Cp) (pend ended : Option Machine.CallOutcome) : Prop where
  ctx : u.ctx n = { s.ctx n with
    state := .clearing, pendingOutcome := pend, stepTimer := none,
    attempt := if ended.isSome then none else (s.ctx n).attempt,
    locTimer := if (s.ctx n).state = .connected then none else (s.ctx n).locTimer }
  otherCtx : u.ctx n.other = s.ctx n.other
  request : ∀ l, (s.ctx n).lane = some l → u.link.ctxReq.get n = some ⟨.hangup, l, []⟩
    ∧ ∀ x, u.link.inFlight = some x → x.requester = .ctx n → x.wanted = false
  otherRequest : u.link.ctxReq.get n.other = s.link.ctxReq.get n.other
  voice : if (s.ctx n).state = .connected then
      u.voice.conn.get n = none ∧ u.voice.muted.get n = false
        ∧ ((s.voice.burst.get n).stage ≠ .idle → u.voice.burst.get n = Machine.Burst.reset
          ∧ ∀ j, (s.ctx n).record = some j → (u.record j).location = .aborted)
        ∧ u.voice.conn.get n.other = s.voice.conn.get n.other
        ∧ u.voice.muted.get n.other = s.voice.muted.get n.other
        ∧ u.voice.burst.get n.other = s.voice.burst.get n.other
    else u.voice = s.voice
  records : ∀ k, u.record k = { s.record k with location := (u.record k).location, history := (u.record k).history }
  others : ∀ k, (s.ctx n).record ≠ some k → u.record k = s.record k
  goesOn : ended = none → ∀ k, (u.record k).history = (s.record k).history
  ends : ∀ o, ended = some o → AttemptEnded s u n o

/-- A seconds timer is running and uptime has reached its time of expiry, across the wrap of uptime (R27). -/
def TimeUp (s : Machine.State) (timer : Option Seconds) : Prop :=
  timer.any (fun e => decide ((s.time.uptime - e).toNat < 2147483648)) = true

/-- The attempt fields of the plan step that a context stands on (R31). -/
def OnStep (s : Machine.State) (n : Cp) (a : Machine.AttemptStep) : Prop :=
  s.plan.active[(s.ctx n).step]? = some (.attempt a) ∨ s.plan.active[(s.ctx n).step]? = some (.direct a)

/-- The state with another context n. -/
def withCtx (s : Machine.State) (n : Cp) (c : Machine.Context) : Machine.State := { s with ctxs := s.ctxs.set n c }

/-- A byte of the record that context n holds (12.10). -/
def RecordByte (s : Machine.State) (n : Cp) (a : Nat) : Prop :=
  ∃ j, (s.ctx n).record = some j ∧ 0x1000 + 256 * j.val ≤ a ∧ a < 0x1000 + 256 * j.val + 256

/-- A trigger event has left the events handed over and not yet taken; what is raised since stands behind the others, and
nothing of the matrix but what an evaluation changes is another (R126, R127). -/
def EventTaken (f : Machine.TrigFn) (s u : Machine.State) : Prop :=
  u.matrix = { s.matrix with cells := u.matrix.cells, fns := u.matrix.fns, sources := u.matrix.sources,
                             raised := u.matrix.raised, unshown := u.matrix.unshown }
    ∧ ∃ l, u.matrix.raised = s.matrix.raised.erase f ++ l

/-- A non-terminal outcome other than CONNECTED has been applied to an attempt on a step with attempt fields a (R8, R45):
the attempt is over, the outcome is the record's last one, the class has acted on the step state, the claim is kept; HELD
for a call with step hold, else SELECTING. -/
structure OutcomeApplied (s u : Machine.State) (n : Cp) (o : Machine.CallOutcome) (a : Machine.AttemptStep) : Prop where
  state : (u.ctx n).state = if (s.ctx n).stepHold then .held else .selecting
  attempt : AttemptEnded s u n o
  kept : (u.ctx n).lane = (s.ctx n).lane ∧ (u.ctx n).record = (s.ctx n).record ∧ (u.ctx n).kind = (s.ctx n).kind
    ∧ (u.ctx n).stepHold = (s.ctx n).stepHold ∧ (u.ctx n).connectedOnce = (s.ctx n).connectedOnce
  otherCtx : u.ctx n.other = s.ctx n.other
  last : ∀ j, (s.ctx n).record = some j → (u.record j).last = some o ∧ (u.record j).attempts = (s.record j).attempts
    ∧ (u.record j).final = (s.record j).final
  others : ∀ k, (s.ctx n).record ≠ some k → u.record k = s.record k
  stays : o.cls ≠ .advance → (s.ctx n).tries < a.tries →
    (u.ctx n).step = (s.ctx n).step ∧ (u.ctx n).tries = (s.ctx n).tries ∧ (u.ctx n).atEnd = (s.ctx n).atEnd
  retried : o.cls = .retry → (s.ctx n).tries < a.tries →
    (u.ctx n).retry = true ∧ (u.ctx n).choice = (s.ctx n).choice ∧ (u.ctx n).current = (s.ctx n).current
      ∧ (u.ctx n).tried = (s.ctx n).tried
  tried : o.cls = .next ∨ o.cls = .bar → (s.ctx n).tries < a.tries →
    (u.ctx n).current = none ∧ (u.ctx n).choice = none
      ∧ ∀ x, x ∈ (u.ctx n).tried ↔ x ∈ (s.ctx n).tried ∨ (s.ctx n).choice = some x
  moved : o.cls = .advance ∨ a.tries ≤ (s.ctx n).tries →
    (u.ctx n).step = a.failTarget.getD (s.ctx n).step ∧ (u.ctx n).atEnd = a.failTarget.isNone ∧ (u.ctx n).tries = 0
      ∧ (u.ctx n).tried = [] ∧ (u.ctx n).current = none ∧ (u.ctx n).choice = none

/-- The candidate table has taken an outcome that is neither terminal nor CONNECTED nor LANE_FAULT for a candidate (R46,
R61): a fail added where the outcome adds one, the bar set by a BAR outcome, the last outcome; level, quality and source
kept; every other entry as it was. -/
def TableTakes (s u : Machine.State) (k : Option Machine.CandKey) (o : Machine.CallOutcome) : Prop :=
  u.table.length = s.table.length
    ∧ (∀ e ∈ s.table, some e.key ≠ k → e ∈ u.table)
    ∧ ∀ e ∈ s.table, some e.key = k → ∃ x ∈ u.table, x.key = e.key ∧ x.last = some o
      ∧ x.fails = (if o.addsFail then min (e.fails + 1) 15 else e.fails)
      ∧ x.failChange = (if o.addsFail then s.time.uptime else e.failChange)
      ∧ x.barred = (if o.cls = .bar then some (s.time.uptime + BitVec.ofNat 32 (Machine.barTimeOf s)) else e.barred)
      ∧ x.level = e.level ∧ x.quality = e.quality ∧ x.seen = e.seen ∧ x.updated = e.updated

/-- A lane has faulted (R97, R98): FAULTED with its cause, without power, owner, camp record or outstanding tag, out of the
start queue; its candidates are gone; the restart timer runs while restarts are below 3. -/
structure LaneFaulted (s u : Machine.State) (l : Lane) (cause : Machine.FaultCause) : Prop where
  lane : (u.lane l).state = .faulted ∧ (u.lane l).cause = cause ∧ (u.lane l).power = false
    ∧ (u.lane l).owner = .none ∧ (u.lane l).camp = none ∧ (u.lane l).outTag = none ∧ (u.lane l).noResp = 0
    ∧ (u.lane l).startTimer = none ∧ (u.lane l).probeTimer = none ∧ (u.lane l).readySince = none
  restart : (u.lane l).restarts = (s.lane l).restarts
    ∧ ((s.lane l).restarts < 3 →
      (u.lane l).restartTimer = some (s.time.uptime + BitVec.ofNat 32 (Machine.restartDelayOf s)))
  queue : ∀ e ∈ u.startq, e.lane ≠ l
  table : ∀ e, e ∈ u.table ↔ e ∈ s.table ∧ e.key.lane ≠ l
  lanes : ∀ m, m ≠ l → u.lane m = s.lane m

/-- What a part reset leaves, up to its completion (R162, steps 1 and 2): the ready flag and the attention register
clear, pointers and mask kept, both contexts at their reset values (R28), no pending plan (R29), an empty table (R70),
every lane without power and being identified (R85, R87), no transaction that is still wanted (R107), no path (R108),
orders aborted and the lists empty (R175), the power state ACTIVE (R186); the counts of time, the active plan, the
matrix's configuration and the host's regions kept. -/
def PartResetDone (s t : Machine.State) : Prop :=
  t.port.ready = false ∧ t.port.attention = 0 ∧ t.port.capA = none ∧ t.port.capB = none
    ∧ t.port.ptrA = s.port.ptrA ∧ t.port.ptrB = s.port.ptrB ∧ t.port.mask = s.port.mask
    ∧ (∀ n, t.ctx n = Machine.Context.reset)
    ∧ t.plan.active = s.plan.active ∧ t.plan.loaded = s.plan.loaded ∧ t.plan.pendingPlan = none
    ∧ t.table = [] ∧ t.startq = [] ∧ t.survey = Machine.Survey.reset
    ∧ (∀ l, (t.lane l).state = .absent ∧ (t.lane l).power = false ∧ (t.lane l).owner = .none
        ∧ (t.lane l).ident.isSome = true)
    ∧ (∀ x, t.link.inFlight = some x → x.wanted = false) ∧ (∀ n, t.link.ctxReq.get n = none) ∧ t.link.maint = []
    ∧ t.voice = Machine.Voice.reset ∧ (∀ n, t.lamps.get n = Machine.Lamps.reset)
    ∧ t.orders = { posted := [], waits := [] }
    ∧ (∀ i : Fin 8, (s.slotState i = 1 ∨ s.slotState i = 2 ∨ s.slotState i = 4 → OrderDone t i 9 [])
        ∧ (s.slotState i = 0 ∨ s.slotState i = 3 → t.slotState i = s.slotState i))
    ∧ t.supply.power = .active ∧ t.supply.preDormant = .active
    ∧ t.matrix.config = s.matrix.config ∧ t.matrix.loaded = s.matrix.loaded ∧ t.matrix.raised = []
    ∧ t.time = s.time ∧ t.counters = s.counters ∧ t.pending = s.pending
    ∧ (∀ a, 0x200 ≤ a ∧ a < 0x600 ∨ 0xA00 ≤ a ∧ a < 0x1000 ∨ 0x1C00 ≤ a → t.mem.read a = s.mem.read a)
    ∧ ∀ n i, (s.ctx n).record = some i → (t.record i).state = .closed ∧ (t.record i).final = some .partReset

/-- The exchange memory is in its canonical form: addresses strictly rising within the 8 KiB, no zero byte listed. -/
def MemoryInv (s : Machine.State) : Prop := s.mem.wf = true

/-- A candidate as the table may hold it: a valid operator code (R50), level, quality, score, age and fails in their
ranges (R49, R53, R54, R56, R61). -/
structure EntrySound (e : Machine.Entry) : Prop where
  op      : e.key.op.valid = true
  level   : -125 ≤ e.level ∧ e.level ≤ -45
  quality : e.quality ≤ 7
  score   : e.score ≤ 511
  age     : e.age ≤ 65535
  fails   : e.fails ≤ 15

/-- The candidate table holds at most 24 candidates, one for each key, in table order (R49, R52). -/
structure TableInv (t : List Machine.Entry) : Prop where
  size    : t.length ≤ 24
  keys    : (t.map Machine.Entry.key).Nodup
  order   : t.Pairwise (fun a b => a.before b = true)
  entries : ∀ e ∈ t, EntrySound e

/-- The start queue holds a lane at most once, and every EMERGENCY entry before every OTHER entry (R91). -/
structure StartQueueInv (q : List Machine.QueueEntry) : Prop where
  once  : (q.map Machine.QueueEntry.lane).Nodup
  order : q.Pairwise (fun a b => b.emergency = true → a.emergency = true)

/-- No counter exceeds 65535 (R160). -/
structure CountersInv (c : Machine.Counters) : Prop where
  overwritten  : c.overwritten ≤ 65535
  dropped      : c.dropped ≤ 65535
  discarded    : c.discarded ≤ 65535
  stale        : c.stale ≤ 65535
  windowFaults : c.windowFaults ≤ 65535
  linkTimeouts : c.linkTimeouts ≤ 65535
  tamper       : c.tamper ≤ 65535

/-- While the ready flag is clear no attention bit is set (R162). -/
abbrev AttentionInv (p : Machine.Port) : Prop := p.ready = false → p.attention = 0

end Sys2Proof
end

