-- ==== Sys2Proof/Certificates/Slice0/Obligations.lean ====
section
/-! DEFINITION. The statements for the provers. A statement about a command whose effect others follow at once (Machine.finish) says
what the command itself does, in the state u that CompletesThrough names; statements about the last state say Completes. -/

section

open Sys2Proof Sys2Proof.Machine


/-! ## The step, resets of the whole part -/

/-- Tier 1. A step with a command waiting is exec of the front command on the state with the rest of the queue. -/
def Obligations.StepRunsTheFrontCommand : Prop :=
  ∀ (c : Instr) (rest : List Instr) (s : State), s.pending = c :: rest → step s = exec c (s.withPending rest)

/-- Tier 2. No step and no command ends in a fault or a refusal: the spec names no halt and no undefined command. What a
step does on an empty queue is the model's choice (log entry 1). -/
def Obligations.EveryStepAnswersANextState : Prop :=
  (∀ s : State, ∃ t, step s = .next t) ∧ ∀ (c : Instr) (s : State), ∃ t, exec c s = .next t

/-- Tier 1. What State.reset holds where the spec gives the value: the contexts' fields (R1), an empty table (R49), lanes
without owner and power (R85), an empty start queue (R91), no order posted (R163), the counters 0 (R160), the voice map
without a connection (R108), every record FREE (R147), the plan source BUILT_IN without a pending plan (R29), the matrix
source BUILT_IN (R120), pointers, mask, attention and counts of time (R162), the power states ACTIVE (R186). That State.reset
is the state right after POWER_ON, its ready flag still clear, is the model's choice (log entry 6); the fields that the model
adds to a context are not spoken of (log entry 33). -/
def Obligations.ResetHoldsTheSpecValues : Prop :=
  (∀ n, let c := State.reset.ctx n
    c.state = .idle ∧ c.kind = .emergency ∧ c.source = .matrix ∧ c.record = none ∧ c.numberOverride = none ∧ c.step = 0
      ∧ c.tries = 0 ∧ c.tried = [] ∧ c.current = none ∧ c.lane = none ∧ c.pendingClaim = none ∧ c.op = none
      ∧ c.pendingOutcome = none ∧ c.emergencyStart = false ∧ c.connKind = .placed ∧ c.stepTimer = none
      ∧ c.locTimer = none ∧ c.cbTimer = none ∧ c.stepHold = false ∧ c.connectedOnce = false)
    ∧ State.reset.table = [] ∧ State.reset.startq = []
    ∧ State.reset.orders.posted = [] ∧ State.reset.orders.waits = [] ∧ State.reset.counters = ⟨0, 0, 0, 0, 0, 0, 0⟩
    ∧ State.reset.port.ptrA = 0 ∧ State.reset.port.ptrB = 0 ∧ State.reset.port.attention = 0
    ∧ State.reset.port.mask = 0xFF ∧ State.reset.port.ready = false
    ∧ State.reset.plan.loaded = false ∧ State.reset.plan.pendingPlan = none ∧ State.reset.matrix.loaded = false
    ∧ State.reset.time.uptime = 0 ∧ State.reset.time.clock = 0
    ∧ State.reset.supply.power = .active ∧ State.reset.supply.preDormant = .active
    ∧ (∀ l, (State.reset.lane l).owner = .none ∧ (State.reset.lane l).power = false)
    ∧ (∀ n, State.reset.voice.conn.get n = none) ∧ State.reset.recs.nextSeq = 1
    ∧ (∀ i, (State.reset.record i).state = .free) ∧ State.reset.pending = []

/-- Tier 2. POWER_ON completes from every state and leaves nothing of what the part held before (R162): the memory zeroed
with the setting defaults written (R156, R157), every block at its power-on values. With the outside as log entry 5 takes
it at reset, the state is State.reset with the queue as it was: that this is the state right after reset (log entry 6), and
that the byte last sent on HSDO and a context's number entry are empty then (log entry 33), are the model's choices. -/
def Obligations.PowerOnLeavesNothingOfTheOldState : Prop :=
  ∀ s : State, Completes .powerOn s (fun t =>
    (s.env = Env.reset → t = State.reset.withPending s.pending)
      ∧ t.env = s.env ∧ t.pending = s.pending
      ∧ t.time = { uptime := 0, clock := 0, ms := 0 } ∧ t.counters = ⟨0, 0, 0, 0, 0, 0, 0⟩
      ∧ t.port = { txn := none, ptrA := 0, ptrB := 0, capA := none, capB := none, attention := 0, mask := 0xFF,
                   ready := false, hsdo := 0 }
      ∧ t.rst.cause = .powerOn
      ∧ (∀ n, t.ctx n = Context.reset) ∧ t.plan = { active := builtInPlan, loaded := false, pendingPlan := none }
      ∧ t.table = [] ∧ t.startq = [] ∧ t.survey = Survey.reset ∧ t.link = Link.reset ∧ t.voice = Voice.reset
      ∧ t.recs = Records.reset ∧ t.orders = { posted := [], waits := [] }
      ∧ t.matrix.config = builtInMatrix ∧ t.matrix.loaded = false
      ∧ t.supply.power = .active ∧ t.supply.preDormant = .active
      ∧ (∀ a, 0x100 ≤ a → (a < 0x200 ∨ 0x278 ≤ a) → t.mem.read a = 0)
      ∧ ∀ k, k < 0x78 → t.mem.read (0x200 + k) = (settingDefaults[k]?).getD 0)

/-- Tier 2. PART_RESET, by a CONTROL byte, and RESETN_FALL make the part reset (R162); the pin's also closes the open
transaction, holds every field line at high impedance (R121), and the reset waits for the pin to rise. That a fall of a pin
already low has no effect is the model's choice (log entry 3), and so are the fields that it adds to a reset context (log
entry 33). -/
def Obligations.PartResetClearsTheBlocks : Prop :=
  ∀ s : State,
    (s.writing .control = true → Completes .partReset s (fun t =>
      PartResetDone s t ∧ t.env = s.env ∧ t.port.txn = s.port.txn ∧ t.rst.next = .control ∧ t.rst.needRise = false))
    ∧ (s.env.resetLow = false → Completes .resetnFall s (fun t =>
      PartResetDone s t ∧ t.env = { s.env with resetLow := true } ∧ t.port.txn = none ∧ t.rst.next = .pin
        ∧ t.rst.needRise = true ∧ ∀ k, t.fieldPin k = .highImpedance))
    ∧ (s.env.resetLow = true → exec .resetnFall s = .next s)

/-- Tier 2. RESETN_RISE makes a port reset and frees the reset to complete; with every lane identified it completes at
once: the ready flag is set, RESET is raised, the reset cause is published (R162, steps 3 and 4). With a lane still to be
identified the reset goes on. -/
def Obligations.ResetnRiseResetsThePortAndCompletes : Prop :=
  ∀ s : State, s.env.resetLow = true → s.port.ready = false →
    CompletesThrough .resetnRise s (fun u =>
      u.env = { s.env with resetLow := false } ∧ u.port.ptrA = 0 ∧ u.port.ptrB = 0 ∧ u.port.mask = 0xFF
        ∧ u.rst.needRise = false ∧ u.time = s.time ∧ u.matrix.config = s.matrix.config
        ∧ ((∀ l, (s.lane l).ident = none) → u.port.ready = true ∧ u.port.attention.getLsbD 7 = true
            ∧ u.rst.cause = s.rst.next)
        ∧ ((∃ l, (s.lane l).ident ≠ none) → u.port.ready = false ∧ u.port.attention = 0 ∧ u.counters = s.counters
            ∧ u.mem = s.mem))

/-! ## The host port -/

/-- Tier 1. A select byte opens a transaction on the register that its low three bits name, in the direction that its top
bit gives (R148, 12.2); the memory as it stands is kept for the part's own reads while a DATA write is open (log entry 9).
While RESETn is low the port takes none (R148), and while one is open the byte is no select byte (log entry 7). The end of
the transaction closes it, discards the captures of both windows (R154) and changes nothing else. -/
def Obligations.HostTransactionsOpenAndEnd : Prop :=
  ∀ (b : Byte) (s : State),
    (s.port.txn = none → s.env.resetLow = false → ∀ reg,
      [PortReg.ptrA, .dataA, .ptrB, .dataB, .attention, .attnMask, .partState, .control][b.toNat % 8]? = some reg →
      Completes (.registerSelectByte b) s (fun t =>
        t = { s with
              port := { s.port with txn := some { reg := reg, read := b.getLsbD 7, count := 0, low := 0 } }
              snap := if b.getLsbD 7 = false ∧ (reg = .dataA ∨ reg = .dataB) then some s.mem else none }))
    ∧ (s.env.resetLow = true ∨ s.port.txn.isSome = true → exec (.registerSelectByte b) s = .next s)
    ∧ exec .hostTransactionEnd s =
      .next { s with port := { s.port with txn := none, capA := none, capB := none }, snap := none }

/-- Tier 2. A PTR write takes its first byte as the low byte and leaves the pointer; with the second byte the pointer is
the two bytes' thirteen bits; further bytes are ignored (R149). Its window's capture is discarded (R154). The other
window, the memory and every other part of the state stay. -/
def Obligations.PtrWriteTakesTwoBytes : Prop :=
  ∀ (b : Byte) (s : State) (x : HostTxn) (w : Window), s.port.txn = some x → x.read = false →
    (x.reg = .ptrA ∧ w = .a ∨ x.reg = .ptrB ∧ w = .b) →
    Completes (.ptrWrite b) s (fun t =>
      (x.count = 0 → t.port.ptr w = s.port.ptr w ∧ t.port.txn = some { x with count := 1, low := b })
        ∧ (x.count = 1 → (t.port.ptr w).toNat = x.low.toNat + 256 * (b.toNat % 32)
            ∧ t.port.txn = some { x with count := 2 })
        ∧ (2 ≤ x.count → t.port.ptr w = s.port.ptr w ∧ t.port.txn = some x)
        ∧ t.port.cap w = none
        ∧ (∀ v, v ≠ w → t.port.ptr v = s.port.ptr v ∧ t.port.cap v = s.port.cap v)
        ∧ t = { s with port := { s.port with
            txn := t.port.txn, ptrA := t.port.ptrA, ptrB := t.port.ptrB, capA := t.port.capA, capB := t.port.capB } })

/-- Tier 2. A DATA read (R149, R152 to R154): the byte that goes out is 0 while the ready flag is clear, the captured high
byte if one stands, else the memory byte at the pointer; a high byte is captured when the byte read was the low byte of a
part-written block's revision count, and any other read leaves no capture. The pointer moves on by one, from 0x1FFF to 0, the
other window's pointer and capture stay (R150), and nothing changes but the port. That a read while the ready flag is clear
captures nothing is the model's choice (log entry 60). -/
def Obligations.DataReadReturnsTheMemoryByte : Prop :=
  ∀ (s : State) (w : Window), s.readWindow = some w →
    Completes .dataRead s (fun t =>
      (s.port.ready = false → t.port.hsdo = 0 ∧ t.port.cap w = none)
        ∧ (s.port.ready = true → ∀ v, s.port.cap w = some v → t.port.hsdo = v ∧ t.port.cap w = none)
        ∧ (s.port.ready = true → s.port.cap w = none → t.port.hsdo = s.mem.read (s.port.ptr w).toNat
            ∧ t.port.cap w =
              if (s.port.ptr w).toNat = 0 ∨ (0x600 ≤ (s.port.ptr w).toNat ∧ (s.port.ptr w).toNat < 0x700
                    ∧ (s.port.ptr w).toNat % 64 = 0)
                  ∨ (s.port.ptr w).toNat = 0x700
                  ∨ (0x1000 ≤ (s.port.ptr w).toNat ∧ (s.port.ptr w).toNat < 0x1C00 ∧ (s.port.ptr w).toNat % 256 = 0)
              then some (s.mem.read ((s.port.ptr w).toNat + 1)) else none)
        ∧ PointerAdvanced s t w
        ∧ t = { s with port := { s.port with
            hsdo := t.port.hsdo, ptrA := t.port.ptrA, ptrB := t.port.ptrB, capA := t.port.capA, capB := t.port.capB } })

/-- Tier 2. A byte written through a window into the settings, the staging regions, a scratch region, or the body of a slot
that is EMPTY or DONE is taken: the memory holds it at once, every other byte reads as before, the window's pointer moves on
by one, from 0x1FFF to 0, its capture is discarded, and nothing else changes, the other window included (9.2, R150, R151,
R154, R165). -/
def Obligations.DataWriteIntoHostRegionsIsTaken : Prop :=
  ∀ (b : Byte) (s : State) (w : Window) (a : Nat), s.writeWindow = some w → s.port.ready = true →
    (s.port.ptr w).toNat = a →
    (0x200 ≤ a ∧ a < 0x600 ∨ 0xA00 ≤ a ∧ a < 0x1000 ∨ 0x1C00 ≤ a
      ∨ (0x100 ≤ a ∧ a < 0x200 ∧ 1 ≤ a % 32 ∧ a % 32 < 16
          ∧ (s.mem.read (a - a % 32) = 0 ∨ s.mem.read (a - a % 32) = 3))) →
    Completes (.dataWrite b) s (fun t =>
      t.mem.read a = b ∧ SameOutside s t a 1 ∧ PointerAdvanced s t w ∧ t.port.cap w = none
        ∧ t = { s with mem := t.mem, port := { s.port with
            ptrA := t.port.ptrA, ptrB := t.port.ptrB, capA := t.port.capA, capB := t.port.capB } })

/-- Tier 2. A byte written through a window into a block the part writes, into a result part, or into the body of a slot
that is POSTED, TAKEN or WITHDRAW is dropped: window faults + 1 up to 65535, WINDOW raised, and no byte of memory changes
outside the part status block that publishes the count (9.2, R151, R152, R165). While the ready flag is clear every write
is dropped without count and without attention (R153). Either way the pointer moves on by one, from 0x1FFF to 0, and the other
window stays (R150). -/
def Obligations.DataWriteElsewhereIsDropped : Prop :=
  ∀ (b : Byte) (s : State) (w : Window) (a : Nat), s.writeWindow = some w → (s.port.ptr w).toNat = a →
    (s.port.ready = true →
      (a < 0x100 ∨ 0x600 ≤ a ∧ a < 0xA00 ∨ (0x1000 ≤ a ∧ a < 0x1C00 ∧ a % 256 ≠ 2)
        ∨ (0x100 ≤ a ∧ a < 0x200 ∧ 16 ≤ a % 32)
        ∨ (0x100 ≤ a ∧ a < 0x200 ∧ 1 ≤ a % 32 ∧ s.mem.read (a - a % 32) ≠ 0 ∧ s.mem.read (a - a % 32) ≠ 3)) →
      Completes (.dataWrite b) s (fun t =>
        t.counters = { s.counters with windowFaults := min (s.counters.windowFaults + 1) 65535 }
          ∧ t.port.attention = s.port.attention ||| 0x40 ∧ SameOutside s t 0 0x100 ∧ MatrixEvaluated s t
          ∧ PointerAdvanced s t w ∧ t.port.cap w = none
          ∧ t = { s with
                  mem := t.mem, counters := t.counters, matrix := t.matrix
                  port := { s.port with attention := t.port.attention, ptrA := t.port.ptrA, ptrB := t.port.ptrB,
                                        capA := t.port.capA, capB := t.port.capB } }))
    ∧ (s.port.ready = false → Completes (.dataWrite b) s (fun t =>
        PointerAdvanced s t w ∧ t.port.cap w = none ∧ t = { s with port := { s.port with
          ptrA := t.port.ptrA, ptrB := t.port.ptrB, capA := t.port.capA, capB := t.port.capB } }))

/-- Tier 2. A write of a slot's state byte (R164): POSTED over EMPTY posts the slot at the back of the list, EMPTY over DONE
gives it back, WITHDRAW over TAKEN asks for its withdrawal; any other pair is dropped and counted, and WINDOW is raised.
Posting in DORMANT first returns the part to its pre-dormant power state. Before the ready flag is set every such write is
dropped without count and without attention. -/
def Obligations.SlotStateWritesFollowTheTable : Prop :=
  ∀ (b : Byte) (s : State) (w : Window) (i : Fin 8), s.writeWindow = some w →
    (s.port.ptr w).toNat = 0x100 + 32 * i.val →
    (s.port.ready = false → Completes (.dataWrite b) s (fun t =>
      t.port.attention = s.port.attention ∧ t = { s with port := t.port }))
    ∧ (s.port.ready = true →
      (s.slotState i = 0 → b = 1 → s.supply.power ≠ .dormant → Completes (.dataWrite b) s (fun t =>
        t.slotState i = 1 ∧ SameOutside s t (0x100 + 32 * i.val) 1
          ∧ t.orders = { s.orders with posted := s.orders.posted ++ [i] }
          ∧ t = { s with mem := t.mem, orders := t.orders, port := t.port }))
      ∧ (s.slotState i = 0 → b = 1 → s.supply.power = .dormant → Completes (.dataWrite b) s (fun t =>
        t.slotState i = 1 ∧ t.supply.power = s.supply.preDormant ∧ t.orders.posted = s.orders.posted ++ [i]))
      ∧ (s.slotState i = 3 → b = 0 → Completes (.dataWrite b) s (fun t =>
        t.slotState i = 0 ∧ SameOutside s t (0x100 + 32 * i.val) 1 ∧ t = { s with mem := t.mem, port := t.port }))
      ∧ (s.slotState i = 2 → b = 4 → Completes (.dataWrite b) s (fun t =>
        t.slotState i = 4 ∧ SameOutside s t (0x100 + 32 * i.val) 1 ∧ t = { s with mem := t.mem, port := t.port }))
      ∧ (¬(s.slotState i = 0 ∧ b = 1) → ¬(s.slotState i = 3 ∧ b = 0) → ¬(s.slotState i = 2 ∧ b = 4) →
          Completes (.dataWrite b) s (fun t =>
            t.slotState i = s.slotState i ∧ t.orders = s.orders ∧ SameOutside s t 0 0x100
              ∧ t.counters.windowFaults = min (s.counters.windowFaults + 1) 65535
              ∧ t.port.attention = s.port.attention ||| 0x40)))

/-- Tier 2. A write of a record's state byte (R145): FREE over CLOSED releases the record, which is rewritten under its
revision count with every other field as it was; any other value, or a record that is not CLOSED, is dropped and counted. -/
def Obligations.RecordStateWritesReleaseClosedRecords : Prop :=
  ∀ (b : Byte) (s : State) (w : Window) (i : Fin 12), s.writeWindow = some w → s.port.ready = true →
    (s.port.ptr w).toNat = 0x1000 + 256 * i.val + 2 →
    (b = 0 → (s.record i).state = .closed → Completes (.dataWrite b) s (fun t =>
      t.record i = { s.record i with state := .free } ∧ (∀ j, j ≠ i → t.record j = s.record j)
        ∧ i ∉ t.recs.closeOrder ∧ t.recs.nextSeq = s.recs.nextSeq
        ∧ t.mem.num (0x1000 + 256 * i.val) 2 = (s.mem.num (0x1000 + 256 * i.val) 2 + 2) % 65536
        ∧ SameOutside s t (0x1000 + 256 * i.val) 256
        ∧ t = { s with mem := t.mem, recs := t.recs, port := t.port }))
    ∧ (b ≠ 0 ∨ (s.record i).state ≠ .closed → Completes (.dataWrite b) s (fun t =>
      t.recs = s.recs ∧ SameOutside s t 0 0x100
        ∧ t.counters.windowFaults = min (s.counters.windowFaults + 1) 65535
        ∧ t.port.attention = s.port.attention ||| 0x40))

/-- Tier 1. The registers ATTENTION, ATTN_MASK, CONTROL and PART_STATE (R149, R158, R161): each bit written as 1 to
ATTENTION clears its bit, a byte written to ATTN_MASK replaces the mask, PORT_RESET resets the port and no other block. A byte
of CONTROL does what its two action bits say, the port reset first (12.2; log entry 11): with neither it changes nothing, nor
does a byte outside a write of its register (log entry 3). The ATTN mirror may follow, so the matrix is evaluated and the part
status block may be rewritten; no other byte of memory changes. -/
def Obligations.PortRegisterWrites : Prop :=
  ∀ (b : Byte) (s : State),
    (s.writing .attention = true → Completes (.attentionWrite b) s (fun t =>
      t.port = { s.port with attention := s.port.attention &&& ~~~b } ∧ MatrixEvaluated s t ∧ SameOutside s t 0 0x100
        ∧ t = { s with port := t.port, matrix := t.matrix, mem := t.mem }))
    ∧ (s.writing .attnMask = true → Completes (.attnMaskWrite b) s (fun t =>
      t.port = { s.port with mask := b } ∧ MatrixEvaluated s t ∧ SameOutside s t 0 0x100
        ∧ t = { s with port := t.port, matrix := t.matrix, mem := t.mem }))
    ∧ (s.writing .control = true → Completes .portReset s (fun t =>
      t.port = { s.port with ptrA := 0, ptrB := 0, attention := 0, mask := 0xFF, capA := none, capB := none }
        ∧ MatrixEvaluated s t ∧ SameOutside s t 0 0x100
        ∧ t = { s with port := t.port, matrix := t.matrix, mem := t.mem }))
    ∧ (s.writing .control = false ∨ (b.getLsbD 0 = false ∧ b.getLsbD 1 = false) →
        exec (.ignoredRegisterWrite b) s = .next s)
    ∧ (s.writing .control = false → exec .portReset s = .next s ∧ exec .partReset s = .next s)
    ∧ (s.writing .control = true → b.getLsbD 0 = true → b.getLsbD 1 = false →
        exec (.ignoredRegisterWrite b) s = exec .portReset s)
    ∧ (s.writing .control = true → b.getLsbD 0 = false → b.getLsbD 1 = true →
        exec (.ignoredRegisterWrite b) s = exec .partReset s)
    ∧ (s.writing .control = true → b.getLsbD 0 = true → b.getLsbD 1 = true →
        ∃ u, exec .portReset s = .next u ∧ exec (.ignoredRegisterWrite b) s = exec .partReset u)

/-! ## Orders -/

/-- Tier 2. Orders are checked before they act (R170): a code that names none of the eleven orders completes with
UNKNOWN_ORDER; the first argument outside its range completes the order with BAD_ARGUMENT and its number, number index and
step hold being checked only for a TEST call; neither has any other effect. Which row takes an order whose argument names
none of its rows is the model's choice (log entry 21). -/
def Obligations.OrdersAreCheckedBeforeTheyAct : Prop :=
  ∀ (s : State) (i : Fin 8) (a b c d : Byte),
    (∀ code, FrontOrder s i code [] → ¬(1 ≤ code ∧ code ≤ 11) → CompletesThrough .unknownOrder s (OrderOnly s i 10 []))
    ∧ (FrontOrder s i 2 [a] → 1 < a.toNat → CompletesThrough .placeCall s (OrderOnly s i 3 [1]))
    ∧ (FrontOrder s i 2 [a, b] → a.toNat ≤ 1 → 1 < b.toNat → CompletesThrough .placeCall s (OrderOnly s i 3 [2]))
    ∧ (FrontOrder s i 2 [a, 1, c] → a.toNat ≤ 1 → 3 < c.toNat → CompletesThrough .placeCall s (OrderOnly s i 3 [3]))
    ∧ (FrontOrder s i 2 [a, 1, c, d] → a.toNat ≤ 1 → c.toNat ≤ 3 → 1 < d.toNat →
        CompletesThrough .placeCall s (OrderOnly s i 3 [4]))
    ∧ (FrontOrder s i 3 [a] → 1 < a.toNat → CompletesThrough .cancelCall s (OrderOnly s i 3 [1]))
    ∧ (FrontOrder s i 4 [a] → 1 < a.toNat → CompletesThrough .continueCall s (OrderOnly s i 3 [1]))
    ∧ (FrontOrder s i 7 [a] → 15 < a.toNat → CompletesThrough .surveyNow s (OrderOnly s i 3 [1]))
    ∧ (FrontOrder s i 8 [a] → 15 < a.toNat → CompletesThrough .forgetCandidates s (OrderOnly s i 3 [1]))
    ∧ (FrontOrder s i 9 [a, b] → 3 < a.toNat →
        CompletesThrough (if b = 1 then .laneControlForceOff else if b = 2 then .laneControlAuto else .laneControlReset) s
          (OrderOnly s i 3 [1]))
    ∧ (FrontOrder s i 9 [a, b] → a.toNat ≤ 3 → 2 < b.toNat → CompletesThrough .laneControlReset s (OrderOnly s i 3 [2]))
    ∧ (FrontOrder s i 10 [a] → 2 < a.toNat → CompletesThrough .setPower s (OrderOnly s i 3 [1]))

/-- Tier 2. The states that stand in an order's way (R6, R99, R171, R173): each completes the order with BUSY, or with
REFUSED_SUPPLY for a TEST call in CRITICAL supply, and nothing else happens. The orders that name what already is complete
with OK and change nothing else: FORCE_OFF on a lane forced off, AUTO on one that is not (R99), the present power state
(R173); DORMANT named while DORMANT is read so too (log entry 29). -/
def Obligations.OrdersThatFindTheirUnitBusyOrDone : Prop :=
  ∀ (s : State) (i : Fin 8) (n : Cp) (l : Lane) (kind number hold : Byte),
    (FrontOrder s i 2 [BitVec.ofNat 8 n.num, kind, number, hold] →
      (kind = 0 ∨ (kind = 1 ∧ number.toNat ≤ 3 ∧ hold.toNat ≤ 1)) →
      ((s.ctx n).state ≠ .idle → (s.ctx n).state ≠ .callbackWatch →
        CompletesThrough .placeCall s (OrderOnly s i 2 []))
      ∧ ((s.ctx n).state = .idle ∨ (s.ctx n).state = .callbackWatch → kind = 1 → s.supply.level = .critical →
        CompletesThrough .placeCall s (OrderOnly s i 6 [])))
    ∧ (FrontOrder s i 3 [BitVec.ofNat 8 n.num] → (s.ctx n).state = .idle →
        CompletesThrough .cancelCall s (OrderOnly s i 2 []))
    ∧ (FrontOrder s i 4 [BitVec.ofNat 8 n.num] → (s.ctx n).state ≠ .held →
        CompletesThrough .continueCall s (OrderOnly s i 2 []))
    ∧ (FrontOrder s i 9 [BitVec.ofNat 8 l.num, 0] → (s.lane l).owner = .ctx n →
        CompletesThrough .laneControlReset s (OrderOnly s i 2 []))
    ∧ (FrontOrder s i 9 [BitVec.ofNat 8 l.num, 1] → (s.lane l).owner = .ctx n →
        CompletesThrough .laneControlForceOff s (OrderOnly s i 2 []))
    ∧ (FrontOrder s i 10 [2] →
        ((s.ctx n).state ≠ .idle ∨ s.matrix.fns.getLsbD 0 = true ∨ s.matrix.fns.getLsbD 1 = true
          ∨ s.matrix.fns.getLsbD 5 = true) →
        CompletesThrough .setPowerDormant s (OrderOnly s i 2 []))
    ∧ (FrontOrder s i 9 [BitVec.ofNat 8 l.num, 1] → (∀ n, (s.lane l).owner ≠ .ctx n) → (s.lane l).forcedOff = true →
      CompletesThrough .laneControlForceOff s (OrderOnly s i 1 []))
    ∧ (FrontOrder s i 9 [BitVec.ofNat 8 l.num, 2] → (s.lane l).forcedOff = false →
      CompletesThrough .laneControlAuto s (OrderOnly s i 1 []))
    ∧ (FrontOrder s i 10 [0] → s.supply.power = .active → CompletesThrough .setPower s (OrderOnly s i 1 []))
    ∧ (FrontOrder s i 10 [1] → s.supply.power = .quiet → CompletesThrough .setPower s (OrderOnly s i 1 []))
    ∧ (FrontOrder s i 10 [2] → s.supply.power = .dormant → (∀ n, (s.ctx n).state = .idle) →
      s.matrix.fns.getLsbD 0 = false → s.matrix.fns.getLsbD 1 = false → s.matrix.fns.getLsbD 5 = false →
      CompletesThrough .setPowerDormant s (OrderOnly s i 1 []))

/-- Tier 2. SET_TIME sets the clock to its four argument bytes, low byte first, and leaves uptime; CLEAR_COUNTS sets the
seven counters to 0; each rewrites the part status block with the new values in one rewrite (R160, R173, 12.3). -/
def Obligations.SetTimeAndClearCountsRewriteTheStatusBlock : Prop :=
  ∀ (s : State) (i : Fin 8),
    (∀ a b c d : Byte, FrontOrder s i 1 [a, b, c, d] → CompletesThrough .setTime s (fun u =>
      u.time.clock.toNat = a.toNat + 256 * b.toNat + 65536 * c.toNat + 16777216 * d.toNat
        ∧ u.time = { s.time with clock := u.time.clock }
        ∧ u.mem.num 24 4 = u.time.clock.toNat ∧ u.mem.num 0 2 = (s.mem.num 0 2 + 2) % 65536
        ∧ OrderCompleted s u i 1 [] 0x01 ∧ SameButSlot s u i 0 42
        ∧ u = { s with time := u.time, mem := u.mem, orders := u.orders, port := u.port, matrix := u.matrix }))
    ∧ (FrontOrder s i 11 [] → CompletesThrough .clearCounts s (fun u =>
      u.counters = ⟨0, 0, 0, 0, 0, 0, 0⟩
        ∧ (∀ a, 28 ≤ a → a < 42 → u.mem.read a = 0) ∧ u.mem.num 0 2 = (s.mem.num 0 2 + 2) % 65536
        ∧ OrderCompleted s u i 1 [] 0x01 ∧ SameButSlot s u i 0 42
        ∧ u = { s with counters := u.counters, mem := u.mem, orders := u.orders, port := u.port, matrix := u.matrix }))

/-- Tier 2. PLACE_CALL with the context IDLE or in CALLBACK_WATCH, out of DORMANT, and for a TEST call out of CRITICAL, starts
the call in the first FREE record and completes with OK (R5, R6, R138, R171); RECORD and ORDER are raised. From CALLBACK_WATCH
the watch ends first: its timer stops, its record closes with its last outcome as the final one, at the back of the close
order (R5, R144), and the kept lane is carried into the new call as its claim. -/
def Obligations.PlaceCallStartsACall : Prop :=
  ∀ (s : State) (i : Fin 8) (n : Cp) (j : Fin 12) (kind number hold : Byte) (k : CallKind) (num : Option (Fin 4))
    (h : Bool),
    FrontOrder s i 2 [BitVec.ofNat 8 n.num, kind, number, hold] → s.supply.power ≠ .dormant →
    (kind = 0 ∧ k = .emergency ∧ num = none ∧ h = false
      ∨ kind = 1 ∧ k = .test ∧ (∃ v : Fin 4, number = BitVec.ofNat 8 v.val ∧ num = some v) ∧ hold.toNat ≤ 1
        ∧ h = decide (hold = 1) ∧ s.supply.level ≠ .critical) →
    (s.record j).state = .free → (∀ k, k < j → (s.record k).state ≠ .free) →
    ((s.ctx n).state = .idle → CompletesThrough .placeCall s (fun u =>
      CallStarted s u n k .order num h j none ∧ u.recs.closeOrder = s.recs.closeOrder
        ∧ OrderCompleted s u i 1 [] 0x03 ∧ SameButSlot s u i (0x1000 + 256 * j.val) 256
        ∧ u = { s with ctxs := u.ctxs, recs := u.recs, lamps := u.lamps, mem := u.mem, orders := u.orders,
                       port := u.port, matrix := u.matrix }))
    ∧ (∀ r, (s.ctx n).state = .callbackWatch → (s.ctx n).record = some r → (s.record r).state = .opened →
      CompletesThrough .placeCall s (fun u =>
        CallStarted (withCtx s n { s.ctx n with cbTimer := none }) u n k .order num h j (some r) ∧ WatchClosed s u r
          ∧ (u.ctx n).lane = (s.ctx n).lane ∧ u.lanes = s.lanes ∧ OrderCompleted s u i 1 [] 0x03
          ∧ (∀ a, ¬(0x1000 + 256 * j.val ≤ a ∧ a < 0x1000 + 256 * j.val + 256) → ¬RecordByte s n a →
              (a < 0x100 + 32 * i.val ∨ 0x100 + 32 * i.val + 32 ≤ a) → u.mem.read a = s.mem.read a)
          ∧ u = { s with ctxs := u.ctxs, recs := u.recs, lamps := u.lamps, mem := u.mem, orders := u.orders,
                         port := u.port, matrix := u.matrix }))

/-- Tier 2. CANCEL_CALL (R11 to R14, R171): a call in SELECTING, WAITING_LANE, PAUSED, SURVEY_WAIT or HELD ends at once with
CANCELLED, out of WAITING_LANE with its claimed lane taken out of the start queue (R12): into CALLBACK_WATCH when it has
connected, the callback window is not 0 and its claimed lane is READY (R11; here one that the other context does not wait
for), else into IDLE, where what no rule clears stays as the call left it (log entry 27), the operation absent (log entry 45).
In DIALLING and ALERTING it is cleared with CANCELLED, in CONNECTED with LOCAL_CLEARED, the attempt that connected ending with
its connection (R41); in CLEARING a pending outcome that is not terminal is replaced by CANCELLED. -/
def Obligations.CancelCallEndsOrClearsTheCall : Prop :=
  ∀ (s : State) (i : Fin 8) (n : Cp), FrontOrder s i 3 [BitVec.ofNat 8 n.num] →
    ((s.ctx n).state ∈ [CtxState.selecting, .waitingLane, .paused, .surveyWait, .held] →
        ((s.ctx n).connectedOnce = false ∨ callbackWindowOf s = 0
          ∨ ∀ l, (s.ctx n).lane = some l → (s.lane l).state ≠ .ready) →
      CompletesThrough .cancelCall s (fun u =>
        CallEnded s u n (some .cancelled) none ∧ OrderDone u i 1 [] ∧ u.link.ctxReq.get n = none
          ∧ u.survey.ctxReq.get n = none
          ∧ (if (s.ctx n).state = .waitingLane then ClaimDequeued s u n else u.startq = s.startq)
          ∧ (∀ a, ¬RecordByte s n a → (a < 0x100 + 32 * i.val ∨ 0x100 + 32 * i.val + 32 ≤ a) →
              u.mem.read a = s.mem.read a)
          ∧ u = { s with ctxs := u.ctxs, recs := u.recs, lanes := u.lanes, survey := u.survey, link := u.link,
                         startq := u.startq, lamps := u.lamps, needDue := u.needDue, mem := u.mem, orders := u.orders,
                         port := u.port, matrix := u.matrix }))
    ∧ (∀ l, (s.ctx n).state ∈ [CtxState.selecting, .waitingLane, .paused, .surveyWait, .held] →
        (s.ctx n).connectedOnce = true → callbackWindowOf s ≠ 0 → (s.ctx n).lane = some l → (s.lane l).state = .ready →
        (s.ctx n.other).pendingClaim ≠ some l →
      CompletesThrough .cancelCall s (fun u =>
        WatchEntered s u n .cancelled ∧ OrderCompleted s u i 1 [] 0x01 ∧ SameButSlot s u i 0 0
          ∧ (if (s.ctx n).state = .waitingLane then ClaimDequeued s u n else u.startq = s.startq)
          ∧ u = { s with ctxs := u.ctxs, recs := u.recs, survey := u.survey, link := u.link, startq := u.startq,
                         lamps := u.lamps, needDue := u.needDue, mem := u.mem, orders := u.orders, port := u.port,
                         matrix := u.matrix }))
    ∧ (∀ o e, (o = CallOutcome.cancelled ∧ e = none ∧ ((s.ctx n).state = .dialling ∨ (s.ctx n).state = .alerting)
          ∨ o = .localCleared ∧ e = some .connected ∧ (s.ctx n).state = .connected) →
      CompletesThrough .cancelCall s (fun u =>
        ClearingEntered s u n (some o) e ∧ OrderCompleted s u i 1 [] 0x01 ∧ SameButSlot s u i 0 0
          ∧ u = { s with ctxs := u.ctxs, recs := u.recs, voice := u.voice, link := u.link, lamps := u.lamps, mem := u.mem,
                         orders := u.orders, port := u.port, matrix := u.matrix }))
    ∧ (∀ o, (s.ctx n).state = .clearing → (s.ctx n).pendingOutcome = some o →
      CompletesThrough .cancelCall s (fun u =>
        u.ctx n = { s.ctx n with pendingOutcome := some (if o.cls = .terminal then o else .cancelled) }
          ∧ u.ctx n.other = s.ctx n.other ∧ OrderCompleted s u i 1 [] 0x01 ∧ SameButSlot s u i 0 0
          ∧ u = { s with ctxs := u.ctxs, mem := u.mem, orders := u.orders, port := u.port, matrix := u.matrix }))

/-- Tier 2. CONTINUE on a HELD context: SELECTING on the step it holds, nothing else of it changed, and OK (R17, R171). -/
def Obligations.ContinueReleasesAHeldCall : Prop :=
  ∀ (s : State) (i : Fin 8) (n : Cp), FrontOrder s i 4 [BitVec.ofNat 8 n.num] → (s.ctx n).state = .held →
    CompletesThrough .continueCall s (fun u =>
      u.ctx n = { s.ctx n with state := .selecting } ∧ u.ctx n.other = s.ctx n.other
        ∧ (u.lamps.get n).flash = (s.lamps.get n).flash ∧ u.lamps.get n.other = s.lamps.get n.other
        ∧ OrderCompleted s u i 1 [] 0x01 ∧ SameButSlot s u i 0 0
        ∧ u = { s with ctxs := u.ctxs, lamps := u.lamps, mem := u.mem, orders := u.orders, port := u.port,
                       matrix := u.matrix })

/-- Tier 2. The check of the staged plan (R48, 12.6): a step count outside 1 to 16 is item 16; else the bad item is the
first step whose bytes do not pass, and the image is good when every step passes. The fields of ATTEMPT and ATTEMPT_DIRECT,
the wait of PAUSE and RESCAN, and nothing of END are examined. -/
def Obligations.StagedPlanIsCheckedInIndexOrder : Prop :=
  ∀ (m : Memory),
    let count := (m.read 0x400).toNat
    let byte (k b : Nat) : Nat := (m.read (0x410 + 15 * k + b)).toNat
    let passes (k : Nat) : Prop :=
      (byte k 0 ≤ 1 ∧ byte k 1 ≤ 3 ∧ (byte k 2 ≤ 3 ∨ byte k 2 = 15) ∧ byte k 3 ≤ 15 ∧ byte k 4 ≤ 2
          ∧ 1 ≤ byte k 5 ∧ byte k 5 ≤ 9 ∧ 10 ≤ byte k 6 + 256 * byte k 7 ∧ byte k 6 + 256 * byte k 7 ≤ 300
          ∧ (byte k 10 = 255 ∨ byte k 10 < count) ∧ (byte k 11 = 255 ∨ byte k 11 < count))
        ∨ (2 ≤ byte k 0 ∧ byte k 0 ≤ 3 ∧ 1 ≤ byte k 8 + 256 * byte k 9 ∧ byte k 8 + 256 * byte k 9 ≤ 600)
        ∨ byte k 0 = 4
    (count = 0 ∨ 16 < count → checkPlan m = .bad 16)
      ∧ (1 ≤ count → count ≤ 16 →
        (∀ k, checkPlan m = .bad k ↔ k < count ∧ ¬passes k ∧ ∀ h, h < k → passes h)
        ∧ ((∃ p, checkPlan m = .good p) ↔ ∀ k, k < count → passes k))

/-- Tier 2. LOAD_PLAN (R30, R48, R169, R172): a bad image completes with BAD_CONTENT and its item and changes no plan; a
good one becomes the pending plan and waits while a context is active, an older waiting one completing with SUPERSEDED;
with no context active it becomes the active plan at once, the order OK. -/
def Obligations.LoadPlanChecksWaitsOrActivates : Prop :=
  ∀ (s : State) (i : Fin 8), FrontOrder s i 5 [] →
    (∀ k, checkPlan s.hostMem = .bad k → CompletesThrough .loadPlan s (OrderOnly s i 4 [BitVec.ofNat 8 k]))
    ∧ (∀ p, checkPlan s.hostMem = .good p →
      ((∃ n, (s.ctx n).state ≠ .idle ∧ (s.ctx n).state ≠ .callbackWatch) →
        (∀ x ∈ s.orders.waits, x.2 ≠ .plan) →
        CompletesThrough .loadPlan s (fun u =>
          u.plan = { s.plan with pendingPlan := some p } ∧ OrderWaits s u i .plan 0 0
            ∧ u = { s with plan := u.plan, mem := u.mem, orders := u.orders }))
      ∧ (∀ j, (∃ n, (s.ctx n).state ≠ .idle ∧ (s.ctx n).state ≠ .callbackWatch) → j ≠ i →
        s.orders.waits.find? (fun x => decide (x.2 = .plan)) = some (j, .plan) →
        CompletesThrough .loadPlan s (fun u =>
          u.plan = { s.plan with pendingPlan := some p } ∧ OrderDone u j 7 [] ∧ u.slotState i = 2
            ∧ u.orders = { posted := s.orders.posted.filter (fun x => decide (x ≠ i)),
                           waits := s.orders.waits.filter (fun x => decide (x.1 ≠ j)) ++ [(i, .plan)] }
            ∧ u = { s with plan := u.plan, mem := u.mem, orders := u.orders, port := u.port, matrix := u.matrix }))
      ∧ ((∀ n, (s.ctx n).state = .idle ∨ (s.ctx n).state = .callbackWatch) → (∀ x ∈ s.orders.waits, x.2 ≠ .plan) →
        CompletesThrough .loadPlan s (fun u =>
          u.plan = { active := p, loaded := true, pendingPlan := none }
            ∧ OrderCompleted s u i 1 [] 0x01 ∧ SameButSlot s u i 0 0
            ∧ u = { s with plan := u.plan, mem := u.mem, orders := u.orders, port := u.port, matrix := u.matrix })))

/-- Tier 2. The loop check (R131): the cell it names is the lowest-numbered one that depends on itself, directly or
through other cells and OUTPUT lines; where it names none, no cell does. -/
def Obligations.LoopCheckFindsTheFirstCycle : Prop :=
  ∀ c : MatrixCfg,
    (∀ j, firstCycle c = some j ↔
      Relation.TransGen (fun x y => y ∈ cellDeps c x) j j
        ∧ ∀ k, k < j → ¬Relation.TransGen (fun x y => y ∈ cellDeps c x) k k)
    ∧ (firstCycle c = none ↔ ∀ j, ¬Relation.TransGen (fun x y => y ∈ cellDeps c x) j j)

/-- Tier 2. LOAD_MATRIX (R130 to R132, R172): a bad item completes with BAD_CONTENT, a cycle with LOOP, and the active
configuration stays; a good image becomes the configuration, INPUT lines that stay INPUT with their polarity keep level and
timer, other INPUT lines take the sampled level, and OK. The image here binds no CALL function. -/
def Obligations.LoadMatrixChecksAndTakesTheImage : Prop :=
  ∀ (s : State) (i : Fin 8), FrontOrder s i 6 [] →
    (∀ k, checkImage s.hostMem = .bad k → CompletesThrough .loadMatrix s (OrderOnly s i 4 [BitVec.ofNat 8 k]))
    ∧ (∀ c, checkImage s.hostMem = .good c →
      (∀ j, firstCycle c = some j → CompletesThrough .loadMatrix s (OrderOnly s i 5 [BitVec.ofNat 8 j.val]))
      ∧ (firstCycle c = none → c.binds[0] = .none → c.binds[1] = .none → CompletesThrough .loadMatrix s (fun u =>
          u.matrix.config = c ∧ u.matrix.loaded = true ∧ (∃ l, u.matrix.raised = s.matrix.raised ++ l)
            ∧ (∀ (k : Fin 12) x y p, s.matrix.config.lines[k] = .input x p → c.lines[k] = .input y p →
                u.matrix.debounced.getLsbD k.val = s.matrix.debounced.getLsbD k.val
                  ∧ u.matrix.timers[k] = s.matrix.timers[k])
            ∧ (∀ (k : Fin 12) y p, c.lines[k] = .input y p → (∀ x, s.matrix.config.lines[k] ≠ .input x p) →
                u.matrix.debounced.getLsbD k.val = (s.env.pins.getLsbD k.val != p) ∧ u.matrix.timers[k] = none)
            ∧ OrderDone u i 1 [] ∧ SameButSlot s u i 0 0 ∧ u.port = raised s.port 0x01
            ∧ u = { s with mem := u.mem, orders := u.orders, port := u.port, matrix := u.matrix })))

/-- Tier 2. SURVEY_NOW (R82, R83, R172): with every named lane SKIPPED it completes at once with the three masks; else the
request stands with a status for each named lane, its pending lanes without a scan fall due at once, and the order waits.
The lanes of a request are those of its mask. -/
def Obligations.SurveyNowMakesARequest : Prop :=
  ∀ (s : State) (i : Fin 8) (mask : Byte), FrontOrder s i 7 [mask] → mask.toNat ≤ 15 →
    (∀ x ∈ s.survey.orderReq, x.1 ≠ i ∧ ∃ l, x.2.get l = some .pending) →
    ((∀ l, mask.getLsbD l.num = true → SkippedForSurvey s l) →
      CompletesThrough .surveyNow s (OrderOnly s i 1 [0, 0, mask]))
    ∧ ((∃ l, mask.getLsbD l.num = true ∧ ¬SkippedForSurvey s l) → CompletesThrough .surveyNow s (fun u =>
        (∃ q, u.survey.orderReq = s.survey.orderReq ++ [(i, q)] ∧ ∀ l,
          (mask.getLsbD l.num = false → q.get l = none)
            ∧ (mask.getLsbD l.num = true → SkippedForSurvey s l → q.get l = some .skipped)
            ∧ (mask.getLsbD l.num = true → ¬SkippedForSurvey s l → q.get l = some .pending))
          ∧ (∀ l, mask.getLsbD l.num = true → ¬SkippedForSurvey s l →
              (s.scan l).stage = .none → (u.scan l).due = some s.time.uptime ∧ l ∈ u.survey.list)
          ∧ (∀ l, mask.getLsbD l.num = false → u.scan l = s.scan l)
          ∧ u.survey.queue = s.survey.queue ∧ u.survey.ctxReq = s.survey.ctxReq ∧ OrderWaits s u i .survey 0 0
          ∧ u = { s with survey := u.survey, mem := u.mem, orders := u.orders }))

/-- Tier 2. FORGET_CANDIDATES removes every candidate of the lanes of its mask and no other, in one change of the table, and
completes with OK, also when there was none to remove (R67, R172). -/
def Obligations.ForgetCandidatesRemovesTheNamedLanes : Prop :=
  ∀ (s : State) (i : Fin 8) (mask : Byte), FrontOrder s i 8 [mask] → mask.toNat ≤ 15 →
    ((∃ e ∈ s.table, mask.getLsbD e.key.lane.num = true) → CompletesThrough .forgetCandidates s (fun u =>
      (∀ e, e ∈ u.table ↔ e ∈ s.table ∧ mask.getLsbD e.key.lane.num = false)
        ∧ u.mem.num 0x700 2 = (s.mem.num 0x700 2 + 2) % 65536
        ∧ OrderCompleted s u i 1 [] 0x09 ∧ SameButSlot s u i 0x700 0x300
        ∧ u = { s with table := u.table, mem := u.mem, orders := u.orders, port := u.port, matrix := u.matrix }))
    ∧ ((∀ e ∈ s.table, mask.getLsbD e.key.lane.num = false) →
      CompletesThrough .forgetCandidates s (OrderOnly s i 1 []))

/-- Tier 2. LANE_CONTROL RESET on a lane that no context owns (R87, R99): the lane is cut from power, ABSENT, without owner,
fault or restarts, being identified from read 0; it has no place in the start queue; its candidates are gone, other lanes and
their candidates are as they were; the order waits for the identification. That the lane has no due time and no place in the
survey list until it is identified is inferred (DEDUCED, log entry 24), and that its module identity is 0xFFFF until then is
the model's choice (log entry 55). -/
def Obligations.LaneResetCutsAndIdentifiesTheLane : Prop :=
  ∀ (s : State) (i : Fin 8) (l : Lane), FrontOrder s i 9 [BitVec.ofNat 8 l.num, 0] →
    (∀ n, (s.lane l).owner ≠ .ctx n) →
    CompletesThrough .laneControlReset s (fun u =>
      (u.lane l).state = .absent ∧ (u.lane l).power = false ∧ (u.lane l).owner = .none ∧ (u.lane l).identity = 0xFFFF
        ∧ (u.lane l).restarts = 0 ∧ (u.lane l).cause = .none ∧ (u.lane l).restartTimer = none
        ∧ (u.lane l).startTimer = none ∧ (u.lane l).camp = none ∧ (u.lane l).outTag = none ∧ (u.lane l).noResp = 0
        ∧ (u.lane l).forcedOff = (s.lane l).forcedOff
        ∧ (u.lane l).ident = some { read := 0, bits := 0, ends := s.time.ms + 10 }
        ∧ (u.scan l).due = none ∧ (u.scan l).stage.inFlight = false ∧ l ∉ u.survey.list ∧ (∀ e ∈ u.startq, e.lane ≠ l)
        ∧ (∀ e, e ∈ u.table ↔ e ∈ s.table ∧ e.key.lane ≠ l)
        ∧ (∀ m, m ≠ l → u.lane m = s.lane m ∧ u.scan m = s.scan m)
        ∧ OrderWaits s u i (.ident l) 0x700 0x300
        ∧ u = { s with lanes := u.lanes, survey := u.survey, link := u.link, startq := u.startq, table := u.table,
                       needDue := u.needDue, mem := u.mem, orders := u.orders, port := u.port, matrix := u.matrix })

/-- Tier 2. LANE_CONTROL FORCE_OFF sets a lane's forced-off flag and, on a lane that is not ABSENT, ends the survey engine's
hold, stops the restart timer, takes it out of the start queue and removes its candidates; need is to be evaluated. AUTO
clears the flag; a FAULTED lane, but not by its identity, starts its restart timer when restarts are below 3 (R98, R99). -/
def Obligations.ForceOffAndAutoSetTheFlag : Prop :=
  ∀ (s : State) (i : Fin 8) (l : Lane),
    (FrontOrder s i 9 [BitVec.ofNat 8 l.num, 1] → (∀ n, (s.lane l).owner ≠ .ctx n) → (s.lane l).forcedOff = false →
      CompletesThrough .laneControlForceOff s (fun u =>
        (u.lane l).forcedOff = true ∧ (u.lane l).state = (s.lane l).state ∧ u.needDue = true
          ∧ ((s.lane l).state ≠ .absent → (u.lane l).restartTimer = none ∧ (u.lane l).owner = .none
            ∧ (∀ e ∈ u.startq, e.lane ≠ l) ∧ ∀ e, e ∈ u.table ↔ e ∈ s.table ∧ e.key.lane ≠ l)
          ∧ ((s.lane l).state = .absent → u.table = s.table ∧ u.startq = s.startq)
          ∧ (∀ m, m ≠ l → u.lane m = s.lane m)
          ∧ OrderDone u i 1 [] ∧ SameButSlot s u i 0x700 0x300
          ∧ u = { s with lanes := u.lanes, survey := u.survey, link := u.link, startq := u.startq, table := u.table,
                         needDue := u.needDue, mem := u.mem, orders := u.orders, port := u.port, matrix := u.matrix }))
    ∧ (FrontOrder s i 9 [BitVec.ofNat 8 l.num, 2] → (s.lane l).forcedOff = true →
      CompletesThrough .laneControlAuto s (fun u =>
        u.lane l = { s.lane l with
            forcedOff := false
            restartTimer := if (s.lane l).state = .faulted ∧ (s.lane l).cause ≠ .identity ∧ (s.lane l).restarts < 3 then
                some (s.time.uptime + BitVec.ofNat 32 (restartDelayOf s)) else (s.lane l).restartTimer }
          ∧ (∀ m, m ≠ l → u.lane m = s.lane m) ∧ u.needDue = true
          ∧ OrderCompleted s u i 1 [] 0x01 ∧ SameButSlot s u i 0 0
          ∧ u = { s with lanes := u.lanes, survey := u.survey, needDue := u.needDue, mem := u.mem, orders := u.orders,
                         port := u.port, matrix := u.matrix }))

/-- Tier 2. SET_POWER between ACTIVE and QUIET sets the power state; SET_POWER_DORMANT with both contexts IDLE and CALL and
WAKE at 0 enters DORMANT, keeps the state left as the pre-dormant one, and stops survey, whose lanes are released. Each is
published in the part status block and raises SUPPLY, and need is to be evaluated (R81, R173, R182, R183). -/
def Obligations.SetPowerChangesThePowerState : Prop :=
  ∀ (s : State) (i : Fin 8),
    (∀ (b : Byte) (p : PowerState), (b = 0 ∧ p = .active ∧ s.supply.power = .quiet
          ∨ b = 1 ∧ p = .quiet ∧ s.supply.power = .active) → FrontOrder s i 10 [b] →
      CompletesThrough .setPower s (fun u =>
        u.supply = { s.supply with power := p } ∧ u.mem.read 3 = b ∧ u.mem.num 0 2 = (s.mem.num 0 2 + 2) % 65536
          ∧ u.needDue = true ∧ OrderCompleted s u i 1 [] 0x11 ∧ SameButSlot s u i 0 42
          ∧ u = { s with supply := u.supply, needDue := true, mem := u.mem, orders := u.orders, port := u.port,
                         matrix := u.matrix }))
    ∧ (FrontOrder s i 10 [2] → s.supply.power ≠ .dormant → (∀ n, (s.ctx n).state = .idle) →
      s.matrix.fns.getLsbD 0 = false → s.matrix.fns.getLsbD 1 = false → s.matrix.fns.getLsbD 5 = false →
      CompletesThrough .setPowerDormant s (fun u =>
        u.supply = { s.supply with power := .dormant, preDormant := s.supply.power } ∧ u.mem.read 3 = 2
          ∧ u.needDue = true ∧ (s.supply.level ≠ .critical → ∀ l, (u.lane l).owner ≠ .survey)
          ∧ OrderCompleted s u i 1 [] 0x11 ∧ SameButSlot s u i 0 42
          ∧ u = { s with supply := u.supply, lanes := u.lanes, survey := u.survey, link := u.link, needDue := true,
                         mem := u.mem, orders := u.orders, port := u.port, matrix := u.matrix }))

/-- Tier 2. ORDER_WITHDRAWAL of a slot in WITHDRAW gives up the order's wait, a pending plan or a survey request, and
completes the order with WITHDRAWN; an identification goes on (R168). In any other slot state it has no effect: for an order
already completed R168 says so, for the states EMPTY, POSTED and TAKEN it is the model's choice (log entry 3). -/
def Obligations.WithdrawalGivesUpTheWait : Prop :=
  ∀ (s : State) (i : Fin 8),
    (∀ w, s.slotState i = 4 → s.orders.waits.find? (fun x => decide (x.1 = i)) = some (i, w) →
      CompletesThrough (.orderWithdrawal i) s (fun u =>
        OrderDone u i 8 [] ∧ SameButSlot s u i 0 0
          ∧ u.orders = { s.orders with waits := s.orders.waits.filter (fun x => decide (x.1 ≠ i)) }
          ∧ u.port = raised s.port 0x01 ∧ MatrixEvaluated s u
          ∧ u.plan = { s.plan with pendingPlan := if w = .plan then none else s.plan.pendingPlan }
          ∧ u.survey = { s.survey with orderReq :=
              if w = .survey then s.survey.orderReq.filter (fun x => decide (x.1 ≠ i)) else s.survey.orderReq }
          ∧ u = { s with plan := u.plan, survey := u.survey, mem := u.mem, orders := u.orders, port := u.port,
                         matrix := u.matrix }))
    ∧ (s.slotState i ≠ 4 → exec (.orderWithdrawal i) s = .next s)

/-! ## Field lines and trigger events -/

/-- Tier 2. FIELD_LINE_CHANGE (R122, R126): the pin takes its level. On an INPUT line a level equal to the debounced one
stops the debounce timer; a differing one starts it with 20, 80 or 300 ms unless it runs, or in class 0 is taken at once and
the matrix is evaluated, each rise of a function handed over. No other line or part of the machine changes but the part
status block, which may be rewritten. An UNUSED line is at high impedance and an INPUT line is pulled up, out of the reset pin
(R121). It holds with RESETn low too, where that lines are sampled, debounced and evaluated is the model's choice (log entry
57). -/
def Obligations.FieldLineChangesAreDebounced : Prop :=
  ∀ (s : State) (i : Fin 12) (level : Bool), Completes (.fieldLineChange i level) s (fun t =>
    t.env = { s.env with pins := t.env.pins } ∧ t.env.pins.getLsbD i.val = level
      ∧ (∀ k : Fin 12, k ≠ i → t.env.pins.getLsbD k.val = s.env.pins.getLsbD k.val
          ∧ t.matrix.debounced.getLsbD k.val = s.matrix.debounced.getLsbD k.val
          ∧ t.matrix.timers[k] = s.matrix.timers[k])
      ∧ SameOutside s t 0 42
      ∧ t = { s with env := t.env, matrix := t.matrix, mem := t.mem }
      ∧ t.matrix.sources = s.matrix.sources ∧ t.matrix.unshown = 0
      ∧ (s.env.resetLow = false → (s.matrix.config.lines[i] = .unused → t.fieldPin i = .highImpedance)
          ∧ ∀ cls p, s.matrix.config.lines[i] = .input cls p → t.fieldPin i = .pulledUp)
      ∧ ((∀ cls p, s.matrix.config.lines[i] ≠ .input cls p) → t.matrix = { s.matrix with unshown := 0 })
      ∧ (∀ cls p, s.matrix.config.lines[i] = .input cls p →
          ((level != p) = s.matrix.debounced.getLsbD i.val →
            t.matrix.timers[i] = none ∧ t.matrix = { s.matrix with timers := t.matrix.timers, unshown := 0 })
          ∧ ((level != p) ≠ s.matrix.debounced.getLsbD i.val →
            (cls = 0 → t.matrix.timers[i] = none ∧ t.matrix.debounced.getLsbD i.val = (level != p)
              ∧ t.matrix.raised = s.matrix.raised ++ rises s.matrix.fns t.matrix.fns)
            ∧ (cls ≠ 0 → t.matrix = { s.matrix with timers := t.matrix.timers, unshown := 0 }
              ∧ ((s.matrix.timers[i]).isSome = true → t.matrix.timers[i] = s.matrix.timers[i])
              ∧ (s.matrix.timers[i] = none → t.matrix.timers[i] =
                  some (s.time.ms + (if cls = 1 then 20 else if cls = 2 then 80 else 300)))))))

/-- Tier 2. DEBOUNCE_EXPIRY (R122, R126, R127): at the expiry of an INPUT line's timer its debounced level takes the sampled
level and the matrix is evaluated: every function that rises from 0 to 1 is handed over, in the order of the functions. It
holds with RESETn low too, where that the level is taken and evaluated is the model's choice (log entry 57). A timer that is
stopped or still running, no effect (log entry 3). -/
def Obligations.DebounceExpiryTakesTheLevel : Prop :=
  ∀ (s : State) (i : Fin 12),
    (∀ e cls p, s.matrix.timers[i] = some e → e ≤ s.time.ms → s.matrix.config.lines[i] = .input cls p →
      Completes (.debounceExpiry i) s (fun t =>
        t.matrix.timers[i] = none ∧ t.matrix.debounced.getLsbD i.val = (s.env.pins.getLsbD i.val != p)
          ∧ (∀ k : Fin 12, k ≠ i → t.matrix.debounced.getLsbD k.val = s.matrix.debounced.getLsbD k.val
              ∧ t.matrix.timers[k] = s.matrix.timers[k])
          ∧ t.matrix.config = s.matrix.config ∧ t.matrix.loaded = s.matrix.loaded
          ∧ t.matrix.sources = s.matrix.sources ∧ t.matrix.unshown = 0
          ∧ t.matrix.raised = s.matrix.raised ++
              [TrigFn.call .p0, .call .p1, .cancel .p0, .cancel .p1, .tamper, .wake].filter
                (fun f => !s.matrix.fns.getLsbD f.bit && t.matrix.fns.getLsbD f.bit)
          ∧ SameOutside s t 0 42 ∧ t = { s with matrix := t.matrix, mem := t.mem }))
    ∧ ((∀ e, s.matrix.timers[i] = some e → s.time.ms < e) → exec (.debounceExpiry i) s = .next s)

/-- Tier 2. An evaluation of a configuration without a cycle gives every cell the output of its type over the sources as
they then stand: AND for cells 0 and 1, NAND for 2, OR for 3 and 4, XOR for 5; a latch, 6 or 7, is reset by B, else set by A,
else keeps the state it had (R125, R126); every function that rises is handed over, in the order of the functions (R127).
When several sources outside the matrix have changed, each is taken in an evaluation of its own (R126): with one changed there
is one evaluation, with none there is none, and after all of them every source stands as it is; their order is the model's
choice (log entry 47). -/
def Obligations.EvaluationGivesEveryCellItsOutput : Prop :=
  (∀ (m : Matrix), firstCycle m.config = none → ∀ j : Fin 8,
    let out := m.evaluated.cells
    let c := m.config.cells[j]
    let a := m.srcValue out c.a != c.invA
    let b := m.srcValue out c.b != c.invB
    (j.val ≤ 1 → out.getLsbD j.val = (a && b))
      ∧ (j.val = 2 → out.getLsbD j.val = !(a && b))
      ∧ (j.val = 3 ∨ j.val = 4 → out.getLsbD j.val = (a || b))
      ∧ (j.val = 5 → out.getLsbD j.val = (a != b))
      ∧ (6 ≤ j.val → out.getLsbD j.val = if b then false else if a then true else m.cells.getLsbD j.val))
    ∧ (∀ (m : Matrix),
      (∀ f : Fin 6, m.evaluated.fns.getLsbD f.val = m.bindValue m.evaluated.cells m.config.binds[f])
        ∧ m.evaluated.raised = m.raised ++
            [TrigFn.call .p0, .call .p1, .cancel .p0, .cancel .p1, .tamper, .wake].filter
              (fun f => !m.fns.getLsbD f.bit && m.evaluated.fns.getLsbD f.bit)
        ∧ m.evaluated = { m with cells := m.evaluated.cells, fns := m.evaluated.fns, raised := m.evaluated.raised,
                                 unshown := m.evaluated.unshown })
    ∧ ∀ (s : State),
      (∀ x ∈ outerSources, (evalMatrix s).matrix.sources.value x = presentValue s s.matrix.config x)
        ∧ ((∀ x ∈ outerSources, s.matrix.sources.value x = presentValue s s.matrix.config x) → evalMatrix s = s)
        ∧ ∀ x ∈ outerSources, s.matrix.sources.value x ≠ presentValue s s.matrix.config x →
          (∀ y ∈ outerSources, y ≠ x → s.matrix.sources.value y = presentValue s s.matrix.config y) →
          (evalMatrix s).matrix =
            Matrix.evaluated { s.matrix with sources := s.matrix.sources.put (presentValue s s.matrix.config x) x }

/-- Tier 2. CALL_CPN in IDLE, out of DORMANT, starts an EMERGENCY call of source MATRIX (R5, R128): in the first FREE record,
else over the first CLOSED TEST record of the close order, else over its first, which is counted (R138). In CALLBACK_WATCH, of
whatever kind of call, the watch ends first, its record closed with its last outcome, and the kept lane is carried into the
new call (R5). RECORD and TRIGGER are raised. While the ready flag is clear the event waits (log entry 4). -/
def Obligations.CallEventsStartACall : Prop :=
  ∀ (s : State) (n : Cp),
    (s.port.ready = true → (s.ctx n).state = .idle → s.supply.power ≠ .dormant → ∀ j : Fin 12,
      ((s.record j).state = .free → (∀ k, k < j → (s.record k).state ≠ .free) →
        CompletesThrough (.callCpn n) s (fun u =>
          CallStarted s u n .emergency .matrix none false j none ∧ u.recs.closeOrder = s.recs.closeOrder
          ∧ EventTaken (.call n) s u ∧ u.port = raised s.port 0x22 ∧ SameOutside s u (0x1000 + 256 * j.val) 256
          ∧ u = { s with ctxs := u.ctxs, recs := u.recs, lamps := u.lamps, mem := u.mem, port := u.port,
                         matrix := u.matrix }))
      ∧ ((∀ k, (s.record k).state ≠ .free) → (s.record j).state = .closed →
          (s.recs.closeOrder.find? (fun k => decide ((s.record k).kind = .test)) = some j
            ∨ (∀ k ∈ s.recs.closeOrder, (s.record k).kind ≠ .test) ∧ s.recs.closeOrder.head? = some j) →
        CompletesThrough (.callCpn n) s (fun u =>
          CallStarted s u n .emergency .matrix none false j none
            ∧ u.recs.closeOrder = s.recs.closeOrder.filter (fun k => decide (k ≠ j))
            ∧ u.counters = { s.counters with overwritten := min (s.counters.overwritten + 1) 65535 }
            ∧ EventTaken (.call n) s u ∧ u.port = raised s.port 0x22 ∧ SameOutside s u (0x1000 + 256 * j.val) 256
            ∧ u = { s with ctxs := u.ctxs, recs := u.recs, lamps := u.lamps, counters := u.counters, mem := u.mem,
                           port := u.port, matrix := u.matrix })))
    ∧ (∀ (j r : Fin 12), s.port.ready = true → (s.ctx n).state = .callbackWatch → s.supply.power ≠ .dormant →
        (s.ctx n).record = some r → (s.record r).state = .opened →
        (s.record j).state = .free → (∀ k, k < j → (s.record k).state ≠ .free) →
      CompletesThrough (.callCpn n) s (fun u =>
        CallStarted (withCtx s n { s.ctx n with cbTimer := none }) u n .emergency .matrix none false j (some r)
          ∧ WatchClosed s u r ∧ (u.ctx n).lane = (s.ctx n).lane ∧ EventTaken (.call n) s u ∧ u.port = raised s.port 0x22
          ∧ (∀ a, ¬(0x1000 + 256 * j.val ≤ a ∧ a < 0x1000 + 256 * j.val + 256) → ¬RecordByte s n a →
              u.mem.read a = s.mem.read a)
          ∧ u = { s with ctxs := u.ctxs, recs := u.recs, lamps := u.lamps, mem := u.mem, port := u.port,
                         matrix := u.matrix }))
    ∧ (s.port.ready = false → exec (.callCpn n) s =
        .next { s with matrix := { s.matrix with raised :=
          if (TrigFn.call n ∈ s.matrix.raised) then s.matrix.raised else s.matrix.raised ++ [.call n] } })

/-- Tier 2. CALL_CPN during a call (R10, R18, R128): over an EMERGENCY call a repeat press and nothing more; over a TEST call
that is being dialled, alerts or is connected, emergency start pending and CLEARING with PREEMPTED; over one in SELECTING,
WAITING_LANE, PAUSED, SURVEY_WAIT or HELD, its record closes PREEMPTED and the emergency call starts at once in the first FREE
record, with no claim. With emergency start already pending it has no effect but TRIGGER. -/
def Obligations.CallEventsPressOrPreempt : Prop :=
  ∀ (s : State) (n : Cp), s.port.ready = true → s.supply.power ≠ .dormant →
    ((s.ctx n).kind = .emergency → (s.ctx n).state ∈ [CtxState.selecting, .waitingLane, .attaching, .dialling, .alerting,
        .connected, .clearing, .surveyWait, .held] →
      CompletesThrough (.callCpn n) s (fun u =>
        (∀ j, (s.ctx n).record = some j →
            u.record j = { s.record j with presses := min ((s.record j).presses + 1) 255 })
          ∧ (∀ k, (s.ctx n).record ≠ some k → u.record k = s.record k)
          ∧ EventTaken (.call n) s u ∧ u.port = raised s.port 0x20
          ∧ u = { s with recs := u.recs, port := u.port, matrix := u.matrix }))
    ∧ ((s.ctx n).kind = .test → (s.ctx n).emergencyStart = true →
        (s.ctx n).state ∉ [CtxState.idle, .callbackWatch, .ringing] →
      CompletesThrough (.callCpn n) s (fun u =>
        EventTaken (.call n) s u ∧ u.port = raised s.port 0x20 ∧ u = { s with port := u.port, matrix := u.matrix }))
    ∧ ((s.ctx n).kind = .test → (s.ctx n).emergencyStart = false →
        (s.ctx n).state ∈ [CtxState.dialling, .alerting, .connected] →
      CompletesThrough (.callCpn n) s (fun u =>
        ClearingEntered (withCtx s n { s.ctx n with emergencyStart := true }) u n (some .preempted)
            (if (s.ctx n).state = .connected then some .connected else none)
          ∧ EventTaken (.call n) s u ∧ u.port = raised s.port 0x20
          ∧ u = { s with ctxs := u.ctxs, recs := u.recs, voice := u.voice, link := u.link, lamps := u.lamps,
                         port := u.port, matrix := u.matrix }))
    ∧ (∀ r j, (s.ctx n).kind = .test → (s.ctx n).emergencyStart = false →
        (s.ctx n).state ∈ [CtxState.selecting, .waitingLane, .paused, .surveyWait, .held] →
        (s.ctx n).record = some r → (s.record r).state = .opened →
        (s.record j).state = .free → (∀ k, k < j → (s.record k).state ≠ .free) →
      CompletesThrough (.callCpn n) s (fun u =>
        (u.record r).state = .closed ∧ (u.record r).final = some .preempted
          ∧ (u.record j).state = .opened ∧ (u.record j).kind = .emergency ∧ (u.record j).seq = s.recs.nextSeq
          ∧ (u.ctx n).state = .selecting ∧ (u.ctx n).kind = .emergency ∧ (u.ctx n).source = .matrix
          ∧ (u.ctx n).record = some j ∧ (u.ctx n).step = 0 ∧ (u.ctx n).emergencyStart = false
          ∧ (u.ctx n).lane = none ∧ (u.ctx n).pendingClaim = none ∧ (u.ctx n).keepFirst = false
          ∧ (∀ k, k ≠ r → k ≠ j → u.record k = s.record k)
          ∧ u.port = raised s.port 0x22 ∧ EventTaken (.call n) s u))

/-- Tier 2. CANCEL_CPN (R11 to R15): without effect in IDLE, CALLBACK_WATCH and RINGING; ends a call with CANCELLED in
SELECTING, WAITING_LANE, PAUSED, SURVEY_WAIT and HELD, into CALLBACK_WATCH when it has connected, the callback window is not 0
and its claimed lane is READY (here one that the other context does not wait for), else into IDLE, where what no rule clears
stays as the call left it (log entry 27), the operation absent (log entry 45); out of WAITING_LANE the claimed lane leaves the
start queue; clears a call in DIALLING, ALERTING and CONNECTED. While the ready flag is clear the event waits (log entry 4).
-/
def Obligations.CancelEventsEndOrClearTheCall : Prop :=
  ∀ (s : State) (n : Cp),
    (s.port.ready = true →
      ((s.ctx n).state ∈ [CtxState.idle, .callbackWatch, .ringing] → CompletesThrough (.cancelCpn n) s (fun u =>
        u = { s with matrix := { s.matrix with raised := s.matrix.raised.erase (.cancel n) } }))
      ∧ ((s.ctx n).state ∈ [CtxState.selecting, .waitingLane, .paused, .surveyWait, .held] →
          ((s.ctx n).connectedOnce = false ∨ callbackWindowOf s = 0
            ∨ ∀ l, (s.ctx n).lane = some l → (s.lane l).state ≠ .ready) → CompletesThrough (.cancelCpn n) s (fun u =>
        CallEnded s u n (some .cancelled) none ∧ u.link.ctxReq.get n = none ∧ u.survey.ctxReq.get n = none
          ∧ EventTaken (.cancel n) s u
          ∧ (if (s.ctx n).state = .waitingLane then ClaimDequeued s u n else u.startq = s.startq)
          ∧ (∀ a, ¬RecordByte s n a → u.mem.read a = s.mem.read a)
          ∧ u = { s with ctxs := u.ctxs, recs := u.recs, lanes := u.lanes, survey := u.survey, link := u.link,
                         startq := u.startq, lamps := u.lamps, needDue := u.needDue, mem := u.mem, port := u.port,
                         matrix := u.matrix }))
      ∧ (∀ l, (s.ctx n).state ∈ [CtxState.selecting, .waitingLane, .paused, .surveyWait, .held] →
          (s.ctx n).connectedOnce = true → callbackWindowOf s ≠ 0 → (s.ctx n).lane = some l → (s.lane l).state = .ready →
          (s.ctx n.other).pendingClaim ≠ some l → CompletesThrough (.cancelCpn n) s (fun u =>
        WatchEntered s u n .cancelled ∧ EventTaken (.cancel n) s u
          ∧ (if (s.ctx n).state = .waitingLane then ClaimDequeued s u n else u.startq = s.startq)
          ∧ u = { s with ctxs := u.ctxs, recs := u.recs, survey := u.survey, link := u.link, startq := u.startq,
                         lamps := u.lamps, needDue := u.needDue, matrix := u.matrix }))
      ∧ (∀ o e, (o = CallOutcome.cancelled ∧ e = none ∧ ((s.ctx n).state = .dialling ∨ (s.ctx n).state = .alerting)
            ∨ o = .localCleared ∧ e = some .connected ∧ (s.ctx n).state = .connected) →
          CompletesThrough (.cancelCpn n) s (fun u =>
        ClearingEntered s u n (some o) e ∧ EventTaken (.cancel n) s u
          ∧ u = { s with ctxs := u.ctxs, recs := u.recs, voice := u.voice, link := u.link, lamps := u.lamps,
                         matrix := u.matrix })))
    ∧ (s.port.ready = false → exec (.cancelCpn n) s =
        .next { s with matrix := { s.matrix with raised :=
          if (TrigFn.cancel n ∈ s.matrix.raised) then s.matrix.raised else s.matrix.raised ++ [.cancel n] } })

/-- Tier 2. TAMPER adds one to the tamper events, up to 65535, and raises TRIGGER; WAKE outside DORMANT has no effect; in
DORMANT it returns the part to its pre-dormant state with a measurement made at once, and SUPPLY is raised (R129, R184). That
the measurement takes the codes that then stand in State is the model's choice (log entry 5), and so is that each event is
taken whether or not the matrix has listed it (log entry 4). -/
def Obligations.TamperCountsAndWakeLeavesDormant : Prop :=
  ∀ (s : State), s.port.ready = true →
    Completes .tamper s (fun t =>
      t.counters = { s.counters with tamper := min (s.counters.tamper + 1) 65535 } ∧ t.port = raised s.port 0x20
        ∧ EventTaken .tamper s t ∧ SameOutside s t 0 42
        ∧ t = { s with counters := t.counters, port := t.port, matrix := t.matrix, mem := t.mem })
    ∧ (s.supply.power ≠ .dormant → CompletesThrough .wake s (fun u =>
        u = { s with matrix := { s.matrix with raised := s.matrix.raised.erase .wake } }))
    ∧ (s.supply.power = .dormant → s.supply.preDormant ≠ .dormant → CompletesThrough .wake s (fun u =>
        u.supply = { s.supply with
            power := s.supply.preDormant
            battery := batteryMv s.env.battery
            t10 := t10Of s.env.temperature
            vmin := reserveThreshold (reserveBase s) (t10Of s.env.temperature)
            level := nextLevel s.supply.level (batteryMv s.env.battery)
              (reserveThreshold (reserveBase s) (t10Of s.env.temperature))
            timer := s.time.uptime + 10 }
          ∧ u.port.attention.getLsbD 4 = true ∧ u.needDue = true ∧ u.time = s.time ∧ u.env = s.env
          ∧ EventTaken .wake s u))

/-! ## The timers of the calls -/

/-- Tier 2. ATTACH_TIMEOUT (R27, R42): the attempt ends with NO_SERVICE, which bars the candidate; the claimed lane's tag is
stale and its camp record absent; the class acts (R45), and a target of END leaves the step index (R32; log entry 16). That the
context's request at the arbiter is withdrawn is inferred (DEDUCED, log entry 14). Not due, no effect (log entry 3). -/
def Obligations.AttachTimeoutEndsTheAttempt : Prop :=
  ∀ (s : State) (n : Cp) (a : AttemptStep),
    ((s.ctx n).state = .attaching → TimeUp s (s.ctx n).stepTimer → OnStep s n a →
      CompletesThrough (.attachTimeout n) s (fun u =>
        OutcomeApplied s u n .noService a ∧ (u.ctx n).stepTimer = none ∧ TableTakes s u (s.ctx n).current .noService
          ∧ (∀ l, (s.ctx n).lane = some l → u.lane l = { s.lane l with outTag := none, camp := none })
          ∧ (∀ m, (s.ctx n).lane ≠ some m → u.lane m = s.lane m)
          ∧ u.link.ctxReq.get n = none ∧ SameOutside s u 0x700 0x300
          ∧ (u.port = s.port ∨ u.port = raised s.port 0x08) ∧ MatrixEvaluated s u
          ∧ u = { s with ctxs := u.ctxs, recs := u.recs, table := u.table, lanes := u.lanes, link := u.link,
                         lamps := u.lamps, port := u.port, mem := u.mem, matrix := u.matrix }))
    ∧ (¬((s.ctx n).state = .attaching ∧ TimeUp s (s.ctx n).stepTimer) → exec (.attachTimeout n) s = .next s)

/-- Tier 2. ALERT_TIMEOUT in DIALLING and RING_TIMEOUT in ALERTING (R27, R43): the attempt ends and the candidate takes
NO_ALERT or RING_TIMEOUT when the timer expires, as R41, R46 and the example of 2.11 have it (DEDUCED, log entry 15), and the
module's call is cleared with that outcome pending. Not due, no effect (log entry 3). -/
def Obligations.AlertAndRingTimeoutsClearTheCall : Prop :=
  ∀ (s : State) (n : Cp) (c : Instr) (o : CallOutcome),
    (c = .alertTimeout n ∧ o = .noAlert ∧ (s.ctx n).state = .dialling
      ∨ c = .ringTimeout n ∧ o = .ringTimeout ∧ (s.ctx n).state = .alerting) →
    (TimeUp s (s.ctx n).stepTimer → CompletesThrough c s (fun u =>
      ClearingEntered s u n (some o) (some o) ∧ TableTakes s u (s.ctx n).current o ∧ SameOutside s u 0x700 0x300
        ∧ (u.port = s.port ∨ u.port = raised s.port 0x08) ∧ MatrixEvaluated s u
        ∧ u = { s with ctxs := u.ctxs, recs := u.recs, table := u.table, link := u.link, lamps := u.lamps,
                       port := u.port, mem := u.mem, matrix := u.matrix }))
    ∧ (¬TimeUp s (s.ctx n).stepTimer → exec c s = .next s)

/-- Tier 2. PAUSE_EXPIRY, SURVEY_WAIT_EXPIRY and RETRY_PAUSE_EXPIRY (R27, R39, R40, R83): SELECTING on the next step, or at
END when there is none, where the step index stays (R32), the immediate request dropped; after the retry pause on step 0 with
one more plan pass. Nothing else of the context changes but what a step move resets (R33), at END too, although the index does
not change there (DEDUCED, log entry 16). -/
def Obligations.PausesEndInSelecting : Prop :=
  ∀ (s : State) (n : Cp), TimeUp s (s.ctx n).stepTimer →
    let moved : Context := { s.ctx n with
      state := .selecting, stepTimer := none, tries := 0, tried := [], current := none, choice := none, retry := false,
      step := if (s.ctx n).step + 1 < s.plan.active.length then (s.ctx n).step + 1 else (s.ctx n).step,
      atEnd := decide (s.plan.active.length ≤ (s.ctx n).step + 1) }
    ((s.ctx n).state = .paused → (s.ctx n).endPause = false → CompletesThrough (.pauseExpiry n) s (fun u =>
        u.ctx n = moved ∧ u.ctx n.other = s.ctx n.other ∧ MatrixEvaluated s u
          ∧ u = { s with ctxs := u.ctxs, lamps := u.lamps, matrix := u.matrix }))
    ∧ ((s.ctx n).state = .surveyWait → CompletesThrough (.surveyWaitExpiry n) s (fun u =>
        u.ctx n = moved ∧ u.ctx n.other = s.ctx n.other ∧ MatrixEvaluated s u
          ∧ u.survey = { s.survey with ctxReq := s.survey.ctxReq.set n none }
          ∧ u = { s with ctxs := u.ctxs, survey := u.survey, lamps := u.lamps, matrix := u.matrix }))
    ∧ ((s.ctx n).state = .paused → (s.ctx n).endPause = true → CompletesThrough (.retryPauseExpiry n) s (fun u =>
        u.ctx n = { moved with step := 0, atEnd := false, endPause := false } ∧ u.ctx n.other = s.ctx n.other
          ∧ (∀ j, (s.ctx n).record = some j →
              u.record j = { s.record j with passes := min ((s.record j).passes + 1) 65535 })
          ∧ (∀ k, (s.ctx n).record ≠ some k → u.record k = s.record k) ∧ MatrixEvaluated s u
          ∧ u = { s with ctxs := u.ctxs, recs := u.recs, lamps := u.lamps, matrix := u.matrix }))

/-- Tier 2. LOCATION_DELAY_EXPIRY and PACING_EXPIRY (R112 to R115): no digits, no burst; a digit above 9, INVALID; else the
microphone is muted, the digits stand with their check digit, and TONES is asked of the claimed lane for the first eight.
After a group's allowance the next group is asked for; after the last the burst ends SENT and the mute is open. INVALID and
SENT are written in one rewrite of the record, over the same value too (R140 and the example of 8.10). The check
digit, 0 to 9, makes the sum of the digits weighted 1, 3, 1, 3 and so on and itself a whole multiple of 10. While the
microphone is muted the lane's transmit audio is silence and the earpiece goes on (R108). The nibbles of a TONES request
beyond its digit count are 0 by the model's choice (log entry 54). -/
def Obligations.LocationBurstRunsInGroupsOfEight : Prop :=
  ∀ (s : State) (n : Cp) (l : Lane), (s.ctx n).lane = some l →
    ((s.ctx n).state = .connected → TimeUp s (s.ctx n).locTimer →
      (locationDigits s = [] → CompletesThrough (.locationDelayExpiry n) s (fun u =>
        u = withCtx s n { s.ctx n with locTimer := none }))
      ∧ (∀ j, (s.ctx n).record = some j → (∃ d ∈ locationDigits s, 9 < d) →
        CompletesThrough (.locationDelayExpiry n) s (fun u =>
          u.record j = { s.record j with location := .invalid } ∧ (∀ k, k ≠ j → u.record k = s.record k)
            ∧ u.mem.num (0x1000 + 256 * j.val) 2 = (s.mem.num (0x1000 + 256 * j.val) 2 + 2) % 65536
            ∧ u.mem.read (0x1000 + 256 * j.val + 26) = 3 ∧ SameOutside s u (0x1000 + 256 * j.val) 256
            ∧ u.ctx n = { s.ctx n with locTimer := none } ∧ u.ctx n.other = s.ctx n.other
            ∧ u = { s with ctxs := u.ctxs, recs := u.recs, mem := u.mem }))
      ∧ (locationDigits s ≠ [] → (∀ d ∈ locationDigits s, d ≤ 9) → CompletesThrough (.locationDelayExpiry n) s (fun u =>
          u.voice.burst.get n = { stage := .sending, digits := locationDigits s ++ [checkDigit (locationDigits s)],
                                  next := 0, timer := none }
            ∧ u.voice.muted.get n = true ∧ u.voice.conn = s.voice.conn
            ∧ u.voice.burst.get n.other = s.voice.burst.get n.other ∧ u.voice.muted.get n.other = s.voice.muted.get n.other
            ∧ (∀ group, group = (locationDigits s ++ [checkDigit (locationDigits s)]).take 8 →
                u.link.ctxReq.get n = some ⟨.tones, l, BitVec.ofNat 8 group.length :: packDigits 4 group⟩)
            ∧ (s.voice.conn.get n = some l → s.voice.conn.get n.other ≠ some l →
                u.laneTx l = .silence ∧ u.cpEar n = .laneRx l)
            ∧ u.ctx n = { s.ctx n with locTimer := none } ∧ u.ctx n.other = s.ctx n.other
            ∧ u = { s with ctxs := u.ctxs, voice := u.voice, link := u.link })))
    ∧ (∀ e group, (s.voice.burst.get n).stage = .pacing → (s.voice.burst.get n).timer = some e → e ≤ s.time.ms →
      group = ((s.voice.burst.get n).digits.drop (s.voice.burst.get n).next).take 8 →
      (group ≠ [] → CompletesThrough (.pacingExpiry n) s (fun u =>
        u.voice.burst.get n = { s.voice.burst.get n with stage := .sending, timer := none }
          ∧ u.voice.muted = s.voice.muted ∧ u.voice.conn = s.voice.conn
          ∧ u.link.ctxReq.get n = some ⟨.tones, l, BitVec.ofNat 8 group.length :: packDigits 4 group⟩
          ∧ u = { s with voice := u.voice, link := u.link }))
      ∧ (∀ j, group = [] → (s.ctx n).record = some j → CompletesThrough (.pacingExpiry n) s (fun u =>
        u.voice.burst.get n = Burst.reset ∧ u.voice.muted.get n = false ∧ u.voice.conn = s.voice.conn
          ∧ (s.voice.conn.get n = some l → s.voice.conn.get n.other ≠ some l → u.laneTx l = .mic n)
          ∧ u.record j = { s.record j with location := .sent } ∧ (∀ k, k ≠ j → u.record k = s.record k)
          ∧ u.mem.num (0x1000 + 256 * j.val) 2 = (s.mem.num (0x1000 + 256 * j.val) 2 + 2) % 65536
          ∧ u.mem.read (0x1000 + 256 * j.val + 26) = 1 ∧ SameOutside s u (0x1000 + 256 * j.val) 256
          ∧ u = { s with voice := u.voice, recs := u.recs, mem := u.mem })))
    ∧ ∀ ds : List Nat, checkDigit ds ≤ 9
      ∧ ((ds.mapIdx (fun i d => d * (if i % 2 = 0 then 1 else 3))).sum + checkDigit ds) % 10 = 0

/-- Tier 2. CALLBACK_WINDOW_EXPIRY (R24): the watch ends; the record closes with its last outcome as the final one, RECORD is
raised, the claim is released and the context is IDLE; what no rule clears of it stays as the call left it (DEDUCED, log entry
27), the operation absent (log entry 45). Not due, no effect (log entry 3). -/
def Obligations.CallbackWindowExpiryEndsTheWatch : Prop :=
  ∀ (s : State) (n : Cp) (j : Fin 12),
    (¬((s.ctx n).state = .callbackWatch ∧ TimeUp s (s.ctx n).cbTimer) → exec (.callbackWindowExpiry n) s = .next s)
    ∧ ((s.ctx n).state = .callbackWatch → TimeUp s (s.ctx n).cbTimer → (s.ctx n).record = some j →
    CompletesThrough (.callbackWindowExpiry n) s (fun u =>
      CallEnded s u n (s.record j).last (s.ctx n).pendingClaim ∧ u.port = raised s.port 0x02 ∧ MatrixEvaluated s u
        ∧ SameOutside s u (0x1000 + 256 * j.val) 256
        ∧ u = { s with ctxs := u.ctxs, recs := u.recs, lanes := u.lanes, survey := u.survey, link := u.link,
                       lamps := u.lamps, needDue := u.needDue, mem := u.mem, port := u.port, matrix := u.matrix }))

/-- Tier 2. FLASH_PHASE and RINGER_CADENCE (R118, R126): at the end of a phase the lamp or ringer turns, for 0.5 s either way
or for 1 s on and 2 s off from that end, and the matrix is evaluated; nothing else changes but the part status block, which
may be rewritten. A field line in the OUTPUT group with that source is driven high while it is on and low while it is off,
out of the reset pin (R121, R123). A cadence that is stopped or whose phase runs, no effect (log entry 3). -/
def Obligations.CadencesTurnAtTheEndOfAPhase : Prop :=
  ∀ (s : State) (n : Cp),
    (∀ p, (s.lamps.get n).flash = some p → p.ends ≤ s.time.ms → Completes (.flashPhase n) s (fun t =>
      t.lamps.get n = { s.lamps.get n with flash := some ⟨!p.on, p.ends + 500⟩ }
        ∧ (s.env.resetLow = false → ∀ i : Fin 12, s.matrix.config.lines[i] = .output (.connecting n) →
            t.fieldPin i = if p.on then .drivenLow else .drivenHigh)
        ∧ t.lamps.get n.other = s.lamps.get n.other ∧ MatrixEvaluated s t ∧ SameOutside s t 0 42
        ∧ t = { s with lamps := t.lamps, matrix := t.matrix, mem := t.mem }))
    ∧ (∀ p, (s.lamps.get n).ringer = some p → p.ends ≤ s.time.ms → Completes (.ringerCadence n) s (fun t =>
      t.lamps.get n = { s.lamps.get n with ringer := some ⟨!p.on, p.ends + if p.on then 2000 else 1000⟩ }
        ∧ (s.env.resetLow = false → ∀ i : Fin 12, s.matrix.config.lines[i] = .output (.ringer n) →
            t.fieldPin i = if p.on then .drivenLow else .drivenHigh)
        ∧ t.lamps.get n.other = s.lamps.get n.other ∧ MatrixEvaluated s t ∧ SameOutside s t 0 42
        ∧ t = { s with lamps := t.lamps, matrix := t.matrix, mem := t.mem }))
    ∧ ((∀ p, (s.lamps.get n).flash = some p → s.time.ms < p.ends) → exec (.flashPhase n) s = .next s)
    ∧ ((∀ p, (s.lamps.get n).ringer = some p → s.time.ms < p.ends) → exec (.ringerCadence n) s = .next s)

/-! ## The lane link and the lanes -/

/-- Tier 2. RESPONSE_FRAME (R96, R101, R188): a frame with another lane address or tag, or with nothing in flight, is not
taken; else the link is free. Of a lane with no-response count 0: the ACK of a PROBE starts the probe timer again (R95); a
result given up that carries no event word changes nothing else; the NAK of a DIAL ends the attempt with its cause's outcome
(R43), in DIALLING and in ALERTING, whose class acts (R45) once the candidate has taken it (R46), a target of END leaving the
step index (R32; log entry 16); the ACK of a TONES starts the play allowance of 150 ms a digit (R114). That RESPONSE_TIMEOUT
has no effect with nothing in flight is the model's choice (log entry 3). -/
def Obligations.ResponsesReachTheirRequester : Prop :=
  ∀ (s : State) (f : ResponseFrame) (x : Transaction) (n : Cp),
    (s.link.inFlight = none → exec (.responseFrame f) s = .next s ∧ exec .responseTimeout s = .next s)
    ∧ (s.link.inFlight = some x → f.lane.toNat ≠ x.lane.num ∨ f.tag.toNat ≠ x.tag →
        exec (.responseFrame f) s = .next s)
    ∧ (s.link.inFlight = some x → f.lane.toNat = x.lane.num → f.tag.toNat = x.tag → (s.lane x.lane).noResp = 0 →
      (x.code = .probe → x.requester = .manager → (s.lane x.lane).state = .ready → (s.lane x.lane).owner = .none →
        CompletesThrough (.responseFrame f) s (fun u =>
          u.lane x.lane = { s.lane x.lane with
              probeTimer := some (s.time.uptime + BitVec.ofNat 32 (probeIntervalOf s)) }
            ∧ (∀ m, m ≠ x.lane → u.lane m = s.lane m)
            ∧ u = { s with lanes := u.lanes, link := { s.link with inFlight := none } }))
      ∧ (x.wanted = false → x.code ≠ .fetchEvent → x.code ≠ .probe → CompletesThrough (.responseFrame f) s (fun u =>
          u = { s with link := { s.link with inFlight := none } }))
      ∧ (∀ a, x.wanted = true → x.code = .dial → x.requester = .ctx n →
          ((s.ctx n).state = .dialling ∨ (s.ctx n).state = .alerting) → OnStep s n a →
          f.status = 1 → 1 ≤ f.cause.toNat → f.cause.toNat ≤ 2 → CompletesThrough (.responseFrame f) s (fun u =>
            OutcomeApplied s u n (if f.cause = 1 then .numberRefused else .networkBusy) a ∧ u.link.inFlight = none
              ∧ TableTakes s u (s.ctx n).current (if f.cause = 1 then .numberRefused else .networkBusy)
              ∧ u.lanes = s.lanes))
      ∧ (x.wanted = true → x.code = .tones → x.requester = .ctx n → (s.voice.burst.get n).stage = .sending → f.status = 0 →
          CompletesThrough (.responseFrame f) s (fun u =>
            u.voice.burst.get n = { s.voice.burst.get n with
                stage := .pacing
                next := (s.voice.burst.get n).next
                  + min 8 ((s.voice.burst.get n).digits.length - (s.voice.burst.get n).next)
                timer := some (s.time.ms
                  + 150 * min 8 ((s.voice.burst.get n).digits.length - (s.voice.burst.get n).next)) }
              ∧ u.voice.burst.get n.other = s.voice.burst.get n.other ∧ u.voice.conn = s.voice.conn
              ∧ u.voice.muted = s.voice.muted
              ∧ u = { s with voice := u.voice, link := { s.link with inFlight := none } })))

/-- Tier 2. RESPONSE_TIMEOUT, 500 ms after the request (R96, R101): link timeouts rise by one up to 65535. On a lane with
power that is not FAULTED its no-response count rises; the third in a row is a fault with cause NO_RESPONSE. A POWER_DOWN is
not counted against its lane, whose power goes off (R93). Before the time, no effect (log entry 3). -/
def Obligations.ResponseTimeoutsCountAgainstTheLane : Prop :=
  ∀ (s : State) (x : Transaction), s.link.inFlight = some x →
    (s.time.ms < x.deadline → exec .responseTimeout s = .next s)
    ∧ (x.deadline ≤ s.time.ms → x.wanted = false → (s.lane x.lane).power = true → (s.lane x.lane).state ≠ .faulted →
      ((s.lane x.lane).noResp < 2 → x.code ≠ .powerDown → x.code ≠ .probe → CompletesThrough .responseTimeout s (fun u =>
        u.lane x.lane = { s.lane x.lane with noResp := (s.lane x.lane).noResp + 1 }
          ∧ (∀ m, m ≠ x.lane → u.lane m = s.lane m)
          ∧ u.counters = { s.counters with linkTimeouts := min (s.counters.linkTimeouts + 1) 65535 }
          ∧ u.link = { s.link with inFlight := none } ∧ u.ctxs = s.ctxs
          ∧ (∀ e ∈ s.table, e.key.lane ≠ x.lane → e ∈ u.table) ∧ SameOutside s u 0x700 0x300))
      ∧ ((s.lane x.lane).noResp = 2 → x.code ≠ .powerDown →
          (∀ n, (s.ctx n).lane ≠ some x.lane ∧ (s.ctx n).pendingClaim ≠ some x.lane) →
          CompletesThrough .responseTimeout s (fun u =>
            LaneFaulted s u x.lane .noResponse ∧ u.ctxs = s.ctxs
              ∧ u.counters.linkTimeouts = min (s.counters.linkTimeouts + 1) 65535)))
    ∧ (x.deadline ≤ s.time.ms → x.wanted = true → x.code = .powerDown → x.requester = .manager →
      (s.lane x.lane).pdPending = true → CompletesThrough .responseTimeout s (fun u =>
        (u.lane x.lane).power = false ∧ (u.lane x.lane).pdPending = false ∧ (u.lane x.lane).camp = none
          ∧ (u.lane x.lane).outTag = none ∧ (u.lane x.lane).state = (s.lane x.lane).state
          ∧ (∀ m, m ≠ x.lane → u.lane m = s.lane m)
          ∧ u.counters.linkTimeouts = min (s.counters.linkTimeouts + 1) 65535))

/-- Tier 2. A fetched event word (R92, R102 to R105, R7, 12.11), low byte kind, then result, level and tag: it is latched as
the lane's last word. READY starts a STARTING lane into READY; an unknown kind, or a tagged kind whose tag is 0 or not the
lane's outstanding one, is stale and counted; INCOMING_RING reaches a watching owner; CONNECTED with the owner's tag connects
its call, the lane's receive audio to the earpiece and the microphone to the lane (R108). An EMPTY answer clears fetch armed.
-/
def Obligations.EventWordsActOnLanesAndCalls : Prop :=
  ∀ (s : State) (f : ResponseFrame) (x : Transaction) (l : Lane) (kind result level tag : Byte) (rest : List Byte) (n : Cp),
    s.link.inFlight = some x → f.lane.toNat = x.lane.num → f.tag.toNat = x.tag → x.lane = l → x.code = .fetchEvent →
    x.requester = .manager → x.wanted = true → (s.lane l).noResp = 0 →
    (f.status = 1 → CompletesThrough (.responseFrame f) s (fun u =>
      u.lane l = { s.lane l with fetchArmed := false } ∧ (∀ m, m ≠ l → u.lane m = s.lane m)
        ∧ u = { s with lanes := u.lanes, link := { s.link with inFlight := none } }))
    ∧ (f.status = 0 → f.data = kind :: result :: level :: tag :: rest →
      (kind = 1 → (s.lane l).state = .starting → CompletesThrough (.responseFrame f) s (fun u =>
        (u.lane l).state = .ready ∧ (u.lane l).startTimer = none ∧ (u.lane l).camp = none ∧ (u.lane l).noResp = 0
          ∧ (u.lane l).readySince = some s.time.uptime ∧ (u.lane l).power = (s.lane l).power
          ∧ (u.lane l).lastWord = tag ++ level ++ result ++ kind
          ∧ ((s.lane l).owner = .none →
              (u.lane l).probeTimer = some (s.time.uptime + BitVec.ofNat 32 (probeIntervalOf s)))
          ∧ ((s.lane l).removed = true → (u.scan l).due = some s.time.uptime ∧ l ∈ u.survey.list)
          ∧ (∀ m, m ≠ l → u.lane m = s.lane m) ∧ u.table = s.table ∧ u.ctxs = s.ctxs))
      ∧ ((kind = 0 ∨ 12 < kind.toNat
          ∨ (kind.toNat ∈ [2, 3, 4, 5, 6, 7] ∨ kind = 8 ∧ tag ≠ 0)
            ∧ (tag = 0 ∨ ∀ h, (s.lane l).outTag ≠ some (tag.toNat, h))) →
        CompletesThrough (.responseFrame f) s (fun u =>
          u.lane l = { s.lane l with lastWord := tag ++ level ++ result ++ kind } ∧ (∀ m, m ≠ l → u.lane m = s.lane m)
            ∧ u.counters = { s.counters with stale := min (s.counters.stale + 1) 65535 }
            ∧ u = { s with lanes := u.lanes, counters := u.counters, link := { s.link with inFlight := none } }))
      ∧ (∀ j, kind = 9 → (s.lane l).owner = .ctx n → (s.ctx n).state = .callbackWatch → (s.ctx n).record = some j →
        CompletesThrough (.responseFrame f) s (fun u =>
          u.ctx n = { s.ctx n with state := .ringing, cbTimer := none } ∧ u.ctx n.other = s.ctx n.other
            ∧ u.record j = { s.record j with offered := min ((s.record j).offered + 1) 65535 }
            ∧ (∀ k, k ≠ j → u.record k = s.record k) ∧ (u.lamps.get n).ringer = some ⟨true, s.time.ms + 1000⟩
            ∧ u.table = s.table ∧ MatrixEvaluated s u))
      ∧ (∀ j, kind = 5 → tag ≠ 0 → (s.lane l).outTag = some (tag.toNat, .ctx n) →
        ((s.ctx n).state = .dialling ∨ (s.ctx n).state = .alerting) → (s.ctx n).lane = some l →
        (s.ctx n).record = some j → 1 ≤ locationDelayOf s →
        CompletesThrough (.responseFrame f) s (fun u =>
          u.ctx n = { s.ctx n with
              state := .connected, connKind := .placed, connectedOnce := true, stepTimer := none
              attempt := (s.ctx n).attempt.map (fun y => { y with connected := true })
              locTimer := some (s.time.uptime + BitVec.ofNat 32 (locationDelayOf s)) }
            ∧ u.ctx n.other = s.ctx n.other
            ∧ u.voice.conn.get n = some l ∧ u.voice.muted.get n = false
            ∧ u.voice.conn.get n.other = s.voice.conn.get n.other
            ∧ u.cpEar n = .laneRx l ∧ (s.voice.conn.get n.other ≠ some l → u.laneTx l = .mic n)
            ∧ (u.record j).connects = min ((s.record j).connects + 1) 65535 ∧ (u.record j).last = some .connected
            ∧ (u.record j).firstConnect = some ((s.record j).firstConnect.getD s.time.clock)
            ∧ (∀ e ∈ s.table, some e.key = (s.ctx n).current → ∃ y ∈ u.table, y.key = e.key ∧ y.fails = 0
                ∧ y.last = some .connected ∧ y.barred = e.barred)
            ∧ (∀ e ∈ s.table, some e.key ≠ (s.ctx n).current → e ∈ u.table))))

/-- Tier 2. EVENT_LINE_CHANGE (R102; log entry 20): the line takes its level; a powered lane whose line is sampled
de-asserted, now or until now, has fetch armed set; nothing else changes. -/
def Obligations.EventLineChangesArmTheFetch : Prop :=
  ∀ (s : State) (l : Lane) (level : Bool), CompletesThrough (.eventLineChange l level) s (fun u =>
    u.env = { s.env with evt := s.env.evt.set l level }
      ∧ u.lane l = { s.lane l with fetchArmed :=
          (s.lane l).fetchArmed || ((s.lane l).power && (!level || !s.env.evt.get l)) }
      ∧ (∀ m, m ≠ l → u.lane m = s.lane m) ∧ u = { s with env := u.env, lanes := u.lanes })

/-- Tier 2. START_TIMEOUT (R92, R97, R98): a lane still STARTING faults with cause START_TIMEOUT; its block is rewritten and LANE
raised; the survey fields of a lane under scan follow by a rewrite of their own, by the model's choice (log entry 70). With no
context on the lane no context changes; a context that waits for it takes LANE_FAULT, its claim void, and so
does one whose pending claim names it, the pending claim cleared (R23); the class of LANE_FAULT acts (R8, R45), and a fail target
of END leaves the step index (R32) while the step fields are cleared, as is inferred (DEDUCED, log entry 16). -/
def Obligations.StartTimeoutFaultsTheLane : Prop :=
  ∀ (s : State) (l : Lane), (s.lane l).state = .starting → TimeUp s (s.lane l).startTimer →
    ((∀ n, (s.ctx n).lane ≠ some l ∧ (s.ctx n).pendingClaim ≠ some l) → CompletesThrough (.startTimeout l) s (fun u =>
      LaneFaulted s u l .startTimeout ∧ u.ctxs = s.ctxs ∧ u.recs = s.recs ∧ u.voice = s.voice
        ∧ u.mem.read (0x602 + 64 * l.num) = 4 ∧ u.mem.read (0x603 + 64 * l.num) = 0
        ∧ u.mem.num (0x600 + 64 * l.num) 2 = (s.mem.num (0x600 + 64 * l.num) 2 + 2) % 65536
        ∧ (∀ a, ¬(0x700 ≤ a ∧ a < 0xA00) → ¬(0x600 + 64 * l.num ≤ a ∧ a < 0x600 + 64 * l.num + 36) →
            u.mem.read a = s.mem.read a)
        ∧ (u.port = raised s.port 0x04 ∨ u.port = raised s.port 0x0C)))
    ∧ (∀ n a, (s.ctx n).lane = some l → (s.ctx n).pendingClaim ≠ some l → (s.ctx n).state = .waitingLane →
      (s.ctx n.other).lane ≠ some l → (s.ctx n.other).pendingClaim ≠ some l → OnStep s n a →
      CompletesThrough (.startTimeout l) s (fun u =>
        LaneFaulted s u l .startTimeout
          ∧ OutcomeApplied (withCtx s n { s.ctx n with lane := none, op := none }) u n .laneFault a))
    ∧ (∀ n a, (s.ctx n).pendingClaim = some l → (s.ctx n).lane ≠ some l → (s.ctx n).state = .waitingLane →
      (s.ctx n.other).lane ≠ some l → (s.ctx n.other).pendingClaim ≠ some l → OnStep s n a →
      CompletesThrough (.startTimeout l) s (fun u =>
        LaneFaulted s u l .startTimeout ∧ (u.ctx n).pendingClaim = none
          ∧ OutcomeApplied (withCtx s n { s.ctx n with pendingClaim := none }) u n .laneFault a))

/-- Tier 2. The other lane timers: RESTART_TIMER_EXPIRY takes a FAULTED lane to OFF with one more restart, its cause kept
(R98); PROBE_TIMER_EXPIRY of an unowned READY lane asks for a PROBE, once (R95, R106); RESTARTS_RESET after 600 s READY sets
restarts to 0 (R98). Each not due has no effect (log entry 3). -/
def Obligations.LaneTimersRestartAndProbe : Prop :=
  ∀ (s : State) (l : Lane),
    ((s.lane l).state = .faulted → TimeUp s (s.lane l).restartTimer → CompletesThrough (.restartTimerExpiry l) s (fun u =>
      u.lane l = { s.lane l with
          state := .off, restarts := (s.lane l).restarts + 1, restartTimer := none, standby := standbySetting s l }
        ∧ (∀ m, m ≠ l → u.lane m = s.lane m) ∧ u.needDue = true
        ∧ u = { s with lanes := u.lanes, survey := u.survey, needDue := true }))
    ∧ ((s.lane l).state = .ready → (s.lane l).owner = .none → TimeUp s (s.lane l).probeTimer →
      CompletesThrough (.probeTimerExpiry l) s (fun u =>
        u.lane l = { s.lane l with probeTimer := none } ∧ (∀ m, m ≠ l → u.lane m = s.lane m)
          ∧ u.link = { s.link with maint :=
              if ((l, MaintKind.probe) ∈ s.link.maint) then s.link.maint else s.link.maint ++ [(l, .probe)] }
          ∧ u = { s with lanes := u.lanes, link := u.link }))
    ∧ (∀ since, (s.lane l).state = .ready → (s.lane l).readySince = some since →
      600 ≤ (s.time.uptime - since).toNat → Completes (.restartsReset l) s (fun t =>
        t.lane l = { s.lane l with restarts := 0 } ∧ (∀ m, m ≠ l → t.lane m = s.lane m)
          ∧ SameOutside s t (0x600 + 64 * l.num) 36
          ∧ t = { s with lanes := t.lanes, mem := t.mem, port := t.port, matrix := t.matrix }))
    ∧ (¬((s.lane l).state = .faulted ∧ TimeUp s (s.lane l).restartTimer) → exec (.restartTimerExpiry l) s = .next s)
    ∧ (¬((s.lane l).state = .ready ∧ (s.lane l).owner = .none ∧ TimeUp s (s.lane l).probeTimer) →
        exec (.probeTimerExpiry l) s = .next s)
    ∧ (¬((s.lane l).state = .ready ∧ ∃ since, (s.lane l).readySince = some since
          ∧ 600 ≤ (s.time.uptime - since).toNat) → exec (.restartsReset l) s = .next s)

/-- Tier 2. IDENTITY_READ (R87, R88, R99): a read that ends puts its four sense lines in bits 4i + read of the identity and
the next read of 10 ms follows. After the fourth, once the ready flag is set, the lane is ABSENT for 0xFFFF, FAULTED with cause
IDENTITY for 0 or no generation, else OFF, and the orders that wait for it complete with OK. That a lane FAULTED by its identity
gets a due time and a place in the survey list is inferred (DEDUCED, log entry 25); that a read before its end has no effect is
the model's choice (log entry 3). -/
def Obligations.IdentityReadsGiveTheLaneItsState : Prop :=
  ∀ (s : State) (l : Lane) (i : Ident) (sense : BitVec 4), (s.lane l).ident = some i →
    (s.time.ms < i.ends → exec (.identityRead l sense) s = .next s)
    ∧ (i.ends ≤ s.time.ms → i.read ≠ 3 → CompletesThrough (.identityRead l sense) s (fun u =>
      (∃ bits : BitVec 16, u.lane l = { s.lane l with
          ident := some { read := i.read + 1, bits := bits, ends := i.ends + 10 } }
        ∧ ∀ k, k < 16 → bits.getLsbD k = (i.bits.getLsbD k || (decide (k % 4 = i.read.val) && sense.getLsbD (k / 4))))
        ∧ (∀ m, m ≠ l → u.lane m = s.lane m) ∧ u = { s with lanes := u.lanes }))
    ∧ (i.ends ≤ s.time.ms → i.read = 3 → s.port.ready = true → CompletesThrough (.identityRead l sense) s (fun u =>
      (u.lane l).ident = none
        ∧ (∀ k, k < 16 → (u.lane l).identity.getLsbD k
            = (i.bits.getLsbD k || (decide (k % 4 = 3) && sense.getLsbD (k / 4))))
        ∧ ((u.lane l).identity = 0xFFFF → (u.lane l).state = .absent ∧ (u.scan l).due = none ∧ l ∉ u.survey.list)
        ∧ ((u.lane l).identity ≠ 0xFFFF → ((u.lane l).identity.toNat / 256 % 16 = 0) →
            (u.lane l).state = .faulted ∧ (u.lane l).cause = .identity)
        ∧ ((u.lane l).identity ≠ 0xFFFF → ((u.lane l).identity.toNat / 256 % 16 ≠ 0) →
            (u.lane l).state = .off ∧ (u.lane l).cause = (s.lane l).cause)
        ∧ ((u.lane l).state ≠ .absent → (u.scan l).due = some s.time.uptime ∧ l ∈ u.survey.list)
        ∧ ((u.lane l).state ≠ .off → ∀ e, e ∈ u.table ↔ e ∈ s.table ∧ e.key.lane ≠ l)
        ∧ (∀ k, (k, Wait.ident l) ∈ s.orders.waits → OrderDone u k 1 [] ∧ ∀ w, (k, w) ∉ u.orders.waits)
        ∧ (∀ m, m ≠ l → u.lane m = s.lane m) ∧ u.needDue = true ∧ u.ctxs = s.ctxs ∧ u.recs = s.recs))

/-- Tier 2. The last lane's fourth read completes a reset that does not wait for the RESETn pin (R162): the counters are 0,
the reset cause is published, the ready flag is set and the attention register holds RESET alone; no CALL function stood at 1
at the reset. The lane's own block has been rewritten before that (R86). That the completion rewrites the part status block
once, so that its revision count rises by two, is inferred (DEDUCED, log entry 18). -/
def Obligations.TheLastIdentityReadCompletesTheReset : Prop :=
  ∀ (s : State) (l : Lane) (i : Ident) (sense : BitVec 4), (s.lane l).ident = some i → i.ends ≤ s.time.ms → i.read = 3 →
    s.port.ready = false → s.rst.needRise = false → (∀ m, m ≠ l → (s.lane m).ident = none) →
    s.rst.callFound = ⟨false, false⟩ → s.orders.waits = [] →
    CompletesThrough (.identityRead l sense) s (fun u =>
      u.port = { s.port with ready := true, attention := 0x80 } ∧ u.counters = ⟨0, 0, 0, 0, 0, 0, 0⟩
        ∧ u.rst = { s.rst with cause := s.rst.next } ∧ u.mem.read 2 = s.rst.next.code
        ∧ u.mem.num 0 2 = (s.mem.num 0 2 + 2) % 65536 ∧ (∀ a, 28 ≤ a → a < 42 → u.mem.read a = 0)
        ∧ MatrixEvaluated s u ∧ u.time = s.time ∧ u.ctxs = s.ctxs ∧ u.recs = s.recs ∧ u.orders = s.orders
        ∧ u.mem.num (0x600 + 64 * l.num) 2 = (s.mem.num (0x600 + 64 * l.num) 2 + 2) % 65536
        ∧ ∀ a, 42 ≤ a → ¬(0x700 ≤ a ∧ a < 0xA00) → ¬(0x600 + 64 * l.num ≤ a ∧ a < 0x600 + 64 * l.num + 36) →
            u.mem.read a = s.mem.read a)

/-- Tier 2. SURVEY_DUE puts a lane whose due time has come, of which no scan is in flight and which is not on the survey list
yet, on the list, by due time and then by lane number: no lane before it is later than it, and the lane behind it is (R73).
On a list that a lane has left out of due order, by keeping its place in an immediate request (R82), that the lane goes before
the first one it precedes is inferred (DEDUCED, log entry 42).
SCAN_TIMEOUT in RUNNING ends the scan failed, with a due time one period on, and queues SCAN_ABORT, the engine keeping the
lane (R78, R79). Each not due has no effect (log entry 3). -/
def Obligations.SurveyTimesListAndAbort : Prop :=
  ∀ (s : State) (l : Lane),
    (TimeUp s (s.scan l).due → (s.scan l).stage = .none ∨ (s.scan l).stage = .aborting → l ∉ s.survey.list →
      CompletesThrough (.surveyDue l) s (fun u =>
        (∃ before behind, s.survey.list = before ++ behind ∧ u.survey.list = before ++ [l] ++ behind
          ∧ (∀ m ∈ before, dueBefore s l m = false) ∧ ∀ m ∈ behind.head?, dueBefore s l m = true)
        ∧ (∀ m x y, (s.scan l).due = some x → (s.scan m).due = some y → (dueBefore s l m = true ↔
            (x = y ∧ l.num < m.num ∨ x ≠ y ∧ (y - x).toNat < 2147483648)))
        ∧ u.scan l = { s.scan l with consider := true } ∧ (∀ m, m ≠ l → u.scan m = s.scan m)
        ∧ u = { s with survey := { s.survey with list := u.survey.list, lanes := u.survey.lanes } }))
    ∧ (¬TimeUp s (s.scan l).due ∨ l ∈ s.survey.list
        ∨ (s.scan l).stage ∈ [ScanStage.opening, .running, .reading] → exec (.surveyDue l) s = .next s)
    ∧ ((s.scan l).stage = .running → TimeUp s (s.scan l).timer → CompletesThrough (.scanTimeout l) s (fun u =>
      u.scan l = { s.scan l with
          stage := .aborting, scanTag := none, timer := none, lastResult := .failed
          due := some (s.time.uptime + BitVec.ofNat 32 (surveyIntervalOf s *
            if s.supply.power = .active ∧ s.supply.level = .healthy then 1 else 4)) }
        ∧ (∀ m, m ≠ l → u.scan m = s.scan m) ∧ u.survey.queue = s.survey.queue ++ [(l, .abort)]
        ∧ u.survey.list = s.survey.list ∧ (u.lane l).owner = (s.lane l).owner
        ∧ (∀ tag, (s.lane l).outTag = some (tag, .survey) → (u.lane l).outTag = none)
        ∧ (∀ m, m ≠ l → u.lane m = s.lane m)
        ∧ (∀ n q, s.survey.ctxReq.get n = some q → q.get l = some .pending →
            ∃ q', u.survey.ctxReq.get n = some q' ∧ q'.get l = some .failed ∧ ∀ m, m ≠ l → q'.get m = q.get m)
        ∧ u = { s with survey := u.survey, lanes := u.lanes }))
    ∧ (¬((s.scan l).stage = .running ∧ TimeUp s (s.scan l).timer) → exec (.scanTimeout l) s = .next s)

/-! ## The candidate table, the supply, the timebase -/

/-- Tier 1. The stored score of an entry (R54), of its level L, quality Q, its generation's weight W, its age A as calculated
at the scoring, its fail count F and its lane's no-response count N; 0 while it is barred. -/
def Obligations.StoredScoresFollowTheStages : Prop :=
  ∀ (s : State) (e : Entry),
    let base : Int := (e.level + 125) * 4
    let bonus : Int := e.quality * 10
    let agePenalty : Int := min ((scored s e).age / 16 : Nat) 100
    let failPenalty : Int := min (e.fails * 48 : Nat) 240
    let lanePenalty : Int := (s.lane e.key.lane).noResp * 20
    let raw : Int := base + bonus + (genWeight s e.key.gen : Nat) - agePenalty - failPenalty - lanePenalty
    ((scored s e).score : Int) = (if e.barred.isSome then 0 else max 0 (min 511 raw))
      ∧ (scored s e).score ≤ 511
      ∧ scored s e = { e with age := (scored s e).age, score := (scored s e).score }

/-- Tier 2. SCORE_TICK and its parts at an uptime that is a whole multiple of 16 s whose tick is still to be taken (R62 to R65;
log entry 10): entries that have reached the candidate lifetime are removed, bars whose time has come are lifted, fail counts
whose period has passed fall by one, and what is left is scored. BAR_LIFT, FAIL_DECAY and LIFETIME_REMOVAL do their own part
for the whole table. At any other time none has an effect (log entry 3). -/
def Obligations.ScoreTicksAgeLiftDecayAndRemove : Prop :=
  ∀ (s : State),
    let age (e : Entry) : Nat := min (s.time.uptime - e.updated).toNat 65535
    let lifts (e : Entry) : Prop := TimeUp s e.barred
    let decays (e : Entry) : Prop :=
      0 < e.fails ∧ TimeUp s (some (e.failChange + BitVec.ofNat 32 (failDecayOf s)))
    let lifted (e x : Entry) : Prop := (lifts e → x.barred = none) ∧ (¬lifts e → x.barred = e.barred)
    let decayed (e x : Entry) : Prop :=
      (decays e → x.fails = e.fails - 1 ∧ x.failChange = s.time.uptime)
        ∧ (¬decays e → x.fails = e.fails ∧ x.failChange = e.failChange)
    let scoredAs (e x : Entry) : Prop :=
      x = { e with age := age e, barred := x.barred, fails := x.fails, failChange := x.failChange, score := x.score }
        ∧ x.score = scoreValue x.level x.quality (genWeight s x.key.gen) x.age x.fails
            (s.lane x.key.lane).noResp x.barred.isSome
    let frame (t : State) : Prop :=
      (∀ a, 42 ≤ a → ¬(0x700 ≤ a ∧ a < 0xA00) → t.mem.read a = s.mem.read a)
        ∧ (t.port = s.port ∨ t.port = raised s.port 0x08) ∧ MatrixEvaluated s t
        ∧ t = { s with table := t.table, tickDue := t.tickDue, mem := t.mem, port := t.port, matrix := t.matrix }
    (s.tickDue = true → s.time.uptime.toNat % 16 = 0 →
      Completes .scoreTick s (fun t => t.tickDue = false ∧ frame t
          ∧ (∀ x ∈ t.table, ∃ e ∈ s.table, age e < lifetimeOf s ∧ lifted e x ∧ decayed e x ∧ scoredAs e x)
          ∧ (∀ e ∈ s.table, age e < lifetimeOf s → ∃ x ∈ t.table, lifted e x ∧ decayed e x ∧ scoredAs e x))
      ∧ Completes .barLift s (fun t => t.tickDue = true ∧ frame t ∧ t.table.length = s.table.length
          ∧ (∀ e ∈ s.table, ¬lifts e → e ∈ t.table)
          ∧ ∀ e ∈ s.table, lifts e → ∃ x ∈ t.table, x.barred = none ∧ x.fails = e.fails ∧ x.failChange = e.failChange
              ∧ scoredAs e x)
      ∧ Completes .failDecay s (fun t => t.tickDue = true ∧ frame t ∧ t.table.length = s.table.length
          ∧ (∀ e ∈ s.table, ¬decays e → e ∈ t.table)
          ∧ ∀ e ∈ s.table, decays e → ∃ x ∈ t.table, x.barred = e.barred ∧ decayed e x ∧ scoredAs e x)
      ∧ Completes .lifetimeRemoval s (fun t => t.tickDue = true ∧ frame t
          ∧ ∀ e, e ∈ t.table ↔ e ∈ s.table ∧ age e < lifetimeOf s))
    ∧ (s.tickDue = false ∨ s.time.uptime.toNat % 16 ≠ 0 → ∀ c ∈ [Instr.scoreTick, .barLift, .failDecay, .lifetimeRemoval],
        exec c s = .next s)

/-- Tier 2. MEASUREMENT_EXPIRY at the expiry of the measurement timer works out the readings from the two codes: battery mV
and T10 (R178), the reserve threshold (R179) and the level from the level held (R180); they stand in the part status block
and the timer runs on (R177). A level that stays changes nothing beyond the readings, the standby lines and the need mark;
one that changes raises SUPPLY. That the codes stand in State as the command brings them is the model's choice (log entry
5). -/
def Obligations.MeasurementsGiveReadingsAndLevel : Prop :=
  ∀ (s : State) (battery temperature : BitVec 16),
    TimeUp s (some s.supply.timer) → CompletesThrough (.measurementExpiry battery temperature) s (fun u =>
      let v := u.supply.battery
      let m := u.supply.vmin
      16 * v ≤ 5 * battery.toNat ∧ 5 * battery.toNat < 16 * (v + 1)
        ∧ (∃ q : Int, 52 * q ≤ ((temperature.toNat : Int) - 31200) * 10
            ∧ ((temperature.toNat : Int) - 31200) * 10 < 52 * (q + 1)
            ∧ u.supply.t10 = max (-400) (min 850 (250 + q)))
        ∧ m = max 9000 (min 14000 (s.hostMem.num 0x25C 2))
            + (if 0 ≤ u.supply.t10 then 0 else min (2 * u.supply.t10.natAbs) 800)
        ∧ u.supply.level =
            (match s.supply.level with
              | .healthy => if v < m then .critical else if v < m + 400 then .low else .healthy
              | .low => if v < m then .critical else if v < m + 500 then .low else .healthy
              | .critical => if v < m + 100 then .critical else if v < m + 500 then .low else .healthy)
        ∧ u.supply.timer = s.time.uptime + (if s.supply.power = .dormant then 60 else 10)
        ∧ u.supply.power = s.supply.power ∧ u.supply.preDormant = s.supply.preDormant
        ∧ u.mem.num 8 2 = v ∧ u.mem.num 12 2 = m ∧ u.mem.num 0 2 = (s.mem.num 0 2 + 2) % 65536
        ∧ u.env = { s.env with battery := battery, temperature := temperature } ∧ u.time = s.time ∧ u.needDue = true
        ∧ (u.supply.level = s.supply.level →
            (∀ l, u.lane l = { s.lane l with standby := (u.lane l).standby }) ∧ SameOutside s u 0 42
              ∧ u = { s with env := u.env, supply := u.supply, lanes := u.lanes, needDue := true, mem := u.mem })
        ∧ (u.supply.level ≠ s.supply.level → s.port.ready = true → u.port.attention.getLsbD 4 = true))

/-- Tier 2. UPTIME_SECOND (R102, R159, R185): uptime and clock rise by one, both wrapping, and are published in the part status
block in one rewrite; the millisecond count stands at its next whole second (log entry 2); a multiple of 16 s has a score tick
(R62); the event lines are sampled. -/
def Obligations.SecondsRiseAndArePublished : Prop :=
  ∀ (s : State), CompletesThrough .uptimeSecond s (fun u =>
    u.time = { uptime := s.time.uptime + 1, clock := s.time.clock + 1, ms := u.time.ms }
      ∧ s.time.ms < u.time.ms ∧ u.time.ms ≤ s.time.ms + 1000 ∧ u.time.ms % 1000 = 0
      ∧ u.mem.num 20 4 = u.time.uptime.toNat ∧ u.mem.num 24 4 = u.time.clock.toNat
      ∧ u.mem.num 0 2 = (s.mem.num 0 2 + 2) % 65536
      ∧ (u.tickDue = true ↔ (s.time.uptime + 1).toNat % 16 = 0)
      ∧ (∀ l, u.lane l = { s.lane l with
          fetchArmed := (s.lane l).fetchArmed || ((s.lane l).power && !s.env.evt.get l) })
      ∧ SameOutside s u 0 42
      ∧ u = { s with time := u.time, tickDue := u.tickDue, lanes := u.lanes, mem := u.mem })

/-! ## The whole machine -/

/-- Tier 2. Who may change what: no command touches the queue; the counts of time change by POWER_ON, UPTIME_SECOND and
SET_TIME alone (R185); the host's regions and slot bodies by POWER_ON and DATA_WRITE alone (9.2, R165); pointers and mask by
the port's own commands and the resets, a byte of CONTROL with PORT_RESET set among them (R150, R158, R161); the matrix configuration by POWER_ON and LOAD_MATRIX (R120); the
outside by the commands that bring it (log entry 5); and DORMANT is entered by SET_POWER_DORMANT alone (R183). -/
def Obligations.EachCommandKeepsWhatIsNotItsOwn : Prop :=
  ∀ (c : Instr) (s t : State), exec c s = .next t →
    t.pending = s.pending
      ∧ (c ∉ [Instr.powerOn, .uptimeSecond, .setTime] → t.time = s.time)
      ∧ (c ≠ .powerOn → (∀ b, c ≠ .dataWrite b) → ∀ a, 0x200 ≤ a ∧ a < 0x600 ∨ 0xA00 ≤ a ∧ a < 0x1000 ∨ 0x1C00 ≤ a
            ∨ (0x100 ≤ a ∧ a < 0x200 ∧ 1 ≤ a % 32 ∧ a % 32 < 16) → t.mem.read a = s.mem.read a)
      ∧ (c ∉ [Instr.powerOn, .resetnRise, .portReset, .dataRead] →
          (∀ b, c ≠ .ptrWrite b ∧ c ≠ .dataWrite b ∧ c ≠ .ignoredRegisterWrite b) →
          t.port.ptrA = s.port.ptrA ∧ t.port.ptrB = s.port.ptrB)
      ∧ (c ∉ [Instr.powerOn, .resetnRise, .portReset] → (∀ b, c ≠ .attnMaskWrite b ∧ c ≠ .ignoredRegisterWrite b) →
          t.port.mask = s.port.mask)
      ∧ (c ∉ [Instr.powerOn, .loadMatrix] → t.matrix.config = s.matrix.config ∧ t.matrix.loaded = s.matrix.loaded)
      ∧ (c ∉ [Instr.resetnFall, .resetnRise] → (∀ i v, c ≠ .fieldLineChange i v) → (∀ l v, c ≠ .eventLineChange l v) →
          (∀ v w, c ≠ .measurementExpiry v w) → t.env = s.env)
      ∧ (c ≠ .setPowerDormant → t.supply.power = .dormant → s.supply.power = .dormant)

/-- Tier 3. Every step from every state keeps the exchange memory's canonical form. -/
def Obligations.EveryStepKeepsTheMemoryCanonical : Prop :=
  ∀ s t : State, step s = .next t → MemoryInv s → MemoryInv t

/-- Tier 3. Every step from every state keeps the candidate table sound (R49, R50, R52 to R54, R56, R61): at most 24 entries,
no key twice, in table order, every field in its range; the start queue without repeats and EMERGENCY first (R91); the
counters at most 65535 (R160); and attention 0 while the ready flag is clear (R162). -/
def Obligations.EveryStepKeepsTableQueueCountersAndAttention : Prop :=
  ∀ s t : State, step s = .next t →
    (TableInv s.table → TableInv t.table) ∧ (StartQueueInv s.startq → StartQueueInv t.startq)
      ∧ (CountersInv s.counters → CountersInv t.counters) ∧ (AttentionInv s.port → AttentionInv t.port)

/-- Tier 1. The state after reset meets the invariants that every step keeps. -/
def Obligations.ResetMeetsTheInvariants : Prop :=
  MemoryInv State.reset ∧ TableInv State.reset.table ∧ StartQueueInv State.reset.startq
    ∧ CountersInv State.reset.counters ∧ AttentionInv State.reset.port

end
end

