-- ==== Sys2Proof/Laws/Memory.lean ====
section
/-! SUPPORT. The exchange memory: what a read finds after a write, and the canonical form through every write. -/

namespace Sys2Proof.Machine

/-- An address that is listed. -/
def Memory.lists (m : Memory) (a : Nat) : Prop := ∃ b, (a, b) ∈ m

theorem Memory.read_append (m n : Memory) (a : Nat) :
    Memory.read (m ++ n) a = if m.any (fun c => decide (c.1 = a)) then Memory.read m a else Memory.read n a := by
  induction m with
  | nil => simp
  | cons c m ih => obtain ⟨k, b⟩ := c; by_cases h : k = a <;> simp [Memory.read, h, ih]

theorem Memory.read_of_not_listed (m : Memory) (a : Nat) (h : m.any (fun c => decide (c.1 = a)) = false) :
    Memory.read m a = 0 := by
  induction m with
  | nil => rfl
  | cons c m ih =>
    obtain ⟨k, b⟩ := c
    simp only [List.any_cons, Bool.or_eq_false_iff, decide_eq_false_iff_not] at h
    simp [Memory.read, h.1, ih h.2]

theorem Memory.read_filter (m : Memory) (p : Nat → Bool) (a : Nat) :
    Memory.read (m.filter (fun c => p c.1)) a = if p a then Memory.read m a else 0 := by
  induction m with
  | nil => simp [Memory.read]
  | cons c m ih =>
    obtain ⟨k, b⟩ := c
    by_cases hp : p k <;> by_cases hk : k = a
    · subst hk; simp [Memory.read, hp]
    · simp [Memory.read, hp, hk, ih]
    · subst hk; simp only [List.filter_cons, hp]; simpa [hp] using ih
    · simp [Memory.read, hp, hk, ih]

theorem Memory.any_filter (m : Memory) (p : Nat → Bool) (a : Nat) (h : p a = false) :
    (m.filter (fun c => p c.1)).any (fun c => decide (c.1 = a)) = false := by
  simp only [List.any_eq_false, List.mem_filter, decide_eq_true_eq, and_imp]
  rintro c - hp rfl
  simp [h] at hp

theorem cellsOf_bounds (a : Nat) (bs : List Byte) (c : Host.Cell) (h : c ∈ cellsOf a bs) :
    a ≤ c.1 ∧ c.1 < a + bs.length ∧ c.2 ≠ 0 := by
  induction bs generalizing a with
  | nil => simp [cellsOf] at h
  | cons b bs ih =>
    simp only [cellsOf] at h
    split at h
    · obtain ⟨h1, h2, h3⟩ := ih (a + 1) h
      refine ⟨by omega, by simp only [List.length_cons]; omega, h3⟩
    · rcases List.mem_cons.mp h with rfl | h
      · refine ⟨le_refl _, by simp, ‹_›⟩
      · obtain ⟨h1, h2, h3⟩ := ih (a + 1) h
        refine ⟨by omega, by simp only [List.length_cons]; omega, h3⟩

theorem cellsOf_rising (a : Nat) (bs : List Byte) : (cellsOf a bs).Pairwise (fun x y => x.1 < y.1) := by
  induction bs generalizing a with
  | nil => simp [cellsOf]
  | cons b bs ih =>
    simp only [cellsOf]
    split
    · exact ih (a + 1)
    · refine List.pairwise_cons.mpr ⟨fun c hc => ?_, ih (a + 1)⟩
      have := cellsOf_bounds (a + 1) bs c hc
      simp only; omega

theorem read_cellsOf (a : Nat) (bs : List Byte) (x : Nat) (h : a ≤ x) :
    Memory.read (cellsOf a bs) x = (bs[x - a]?).getD 0 := by
  induction bs generalizing a with
  | nil => simp [cellsOf, Memory.read]
  | cons b bs ih =>
    by_cases hx : x = a
    · subst hx
      simp only [cellsOf, Nat.sub_self, List.getElem?_cons_zero, Option.getD_some]
      split
      · rename_i hb
        rw [hb]
        apply Memory.read_of_not_listed
        simp only [List.any_eq_false, decide_eq_true_eq]
        rintro c hc rfl
        have := cellsOf_bounds _ _ c hc
        omega
      · simp [Memory.read]
    · have ha : a + 1 ≤ x := by omega
      have e : x - a = (x - (a + 1)) + 1 := by omega
      rw [e, List.getElem?_cons_succ, ← ih (a + 1) ha]
      simp only [cellsOf]
      split
      · rfl
      · simp only [Memory.read, if_neg (Ne.symm hx)]

/-- What a read finds after bytes are placed: inside the place the bytes laid there, zero beyond them; elsewhere what it
found before. -/
theorem Memory.read_place (m : Memory) (a n : Nat) (bs : List Byte) (x : Nat) :
    (m.place a n bs).read x = if a ≤ x ∧ x < a + n then (bs[x - a]?).getD 0 else m.read x := by
  have e1 : m.filter (fun c => decide (c.1 < a)) = m.filter (fun c => (fun k => decide (k < a)) c.1) := rfl
  have e2 : m.filter (fun c => decide (a + n ≤ c.1)) = m.filter (fun c => (fun k => decide (a + n ≤ k)) c.1) := rfl
  unfold Memory.place
  rw [Memory.read_append, Memory.read_append]
  by_cases h1 : x < a
  · have hc : (cellsOf a (bs.take n)).any (fun c => decide (c.1 = x)) = false := by
      simp only [List.any_eq_false, decide_eq_true_eq]
      rintro c hc rfl
      have := cellsOf_bounds _ _ c hc
      omega
    rw [List.any_append, hc, Bool.or_false, if_neg (by omega : ¬(a ≤ x ∧ x < a + n)), e1, e2,
      Memory.read_filter m (fun k => decide (k < a)), Memory.read_filter m (fun k => decide (a + n ≤ k))]
    simp only [h1, decide_true, if_true]
    split
    · rfl
    · rename_i h
      have h0 := Memory.read_of_not_listed _ _ (Bool.eq_false_iff.mpr h)
      rw [Memory.read_filter m (fun k => decide (k < a))] at h0
      simp only [h1, decide_true, if_true] at h0
      rw [h0]
      simp
  · have hl : (m.filter (fun c => decide (c.1 < a))).any (fun c => decide (c.1 = x)) = false := by
      rw [e1]; exact Memory.any_filter m (fun k => decide (k < a)) x (by simp [h1])
    rw [List.any_append, hl, Bool.false_or]
    simp only [Bool.false_eq_true, if_false]
    by_cases h2 : x < a + n
    · have hin : a ≤ x ∧ x < a + n := by omega
      have hr : (bs.take n)[x - a]? = bs[x - a]? := by
        rw [List.getElem?_take]; simp; omega
      cases hc : (cellsOf a (bs.take n)).any (fun c => decide (c.1 = x)) with
      | true => simp [hin, read_cellsOf a _ x hin.1, hr]
      | false =>
        have h0 := Memory.read_of_not_listed _ _ hc
        rw [read_cellsOf a _ x hin.1, hr] at h0
        rw [e2, Memory.read_filter m (fun k => decide (a + n ≤ k))]
        simp only [hin, and_self, Bool.false_eq_true, if_false, if_true]
        rw [h0, if_neg (by simp; omega)]
    · rw [if_neg (by omega : ¬(a ≤ x ∧ x < a + n))]
      have hc : (cellsOf a (bs.take n)).any (fun c => decide (c.1 = x)) = false := by
        simp only [List.any_eq_false, decide_eq_true_eq]
        rintro c hc rfl
        have := cellsOf_bounds _ _ c hc
        have := List.length_take_le n bs
        omega
      rw [hc, e2, Memory.read_filter m (fun k => decide (a + n ≤ k))]
      simp only [Bool.false_eq_true, if_false]
      rw [if_pos (by simp; omega)]

/-- A byte written is the byte read; every other byte reads as before. -/
theorem Memory.read_write (m : Memory) (a : Nat) (b : Byte) (x : Nat) :
    (m.write a b).read x = if x = a then b else m.read x := by
  unfold Memory.write
  rw [Memory.read_place]
  by_cases h : x = a
  · subst h; simp
  · simp only [h, if_false]
    rw [if_neg (by omega)]

theorem Memory.wf_iff (m : Memory) :
    m.wf = true ↔ m.Pairwise (fun x y => x.1 < y.1) ∧ ∀ c ∈ m, c.1 < Config.memSize ∧ c.2 ≠ 0 := by
  simp [Memory.wf, List.all_eq_true]

/-- Bytes placed inside the memory keep the canonical form. -/
theorem Memory.wf_place (m : Memory) (a n : Nat) (bs : List Byte) (hm : m.wf = true) (ha : a + n ≤ Config.memSize) :
    (m.place a n bs).wf = true := by
  rw [Memory.wf_iff] at hm ⊢
  obtain ⟨hr, hb⟩ := hm
  have hlen := List.length_take_le n bs
  constructor
  · unfold Memory.place
    rw [List.pairwise_append, List.pairwise_append]
    refine ⟨⟨hr.filter _, cellsOf_rising _ _, ?_⟩, hr.filter _, ?_⟩
    · intro x hx y hy
      have := cellsOf_bounds _ _ y hy
      simp only [List.mem_filter, decide_eq_true_eq] at hx
      omega
    · intro x hx y hy
      simp only [List.mem_filter, decide_eq_true_eq] at hy
      rcases List.mem_append.mp hx with hx | hx
      · simp only [List.mem_filter, decide_eq_true_eq] at hx
        omega
      · have := cellsOf_bounds _ _ x hx
        omega
  · intro c hc
    unfold Memory.place at hc
    rcases List.mem_append.mp hc with hc | hc
    · rcases List.mem_append.mp hc with hc | hc
      · exact hb c (List.mem_filter.mp hc).1
      · have := cellsOf_bounds _ _ c hc
        exact ⟨by omega, this.2.2⟩
    · exact hb c (List.mem_filter.mp hc).1

theorem Memory.wf_write (m : Memory) (a : Nat) (b : Byte) (hm : m.wf = true) (ha : a < Config.memSize) :
    (m.write a b).wf = true := Memory.wf_place m a 1 [b] hm (by omega)

theorem Memory.wf_rewrite (m : Memory) (base size : Nat) (content : List Byte) (hm : m.wf = true)
    (ha : base + size ≤ Config.memSize) : (m.rewrite base size content).wf = true := Memory.wf_place m base size _ hm ha

theorem Memory.wf_makeEven (m : Memory) (base : Nat) (hm : m.wf = true) (ha : base + 2 ≤ Config.memSize) :
    (m.makeEven base).wf = true := by
  unfold Memory.makeEven
  split
  · exact Memory.wf_place m base 2 _ hm ha
  · exact hm

/-- A rewrite of a block leaves every byte outside it as it was. -/
theorem Memory.read_rewrite_outside (m : Memory) (base size : Nat) (content : List Byte) (x : Nat)
    (hx : x < base ∨ base + size ≤ x) : (m.rewrite base size content).read x = m.read x := by
  unfold Memory.rewrite
  rw [Memory.read_place, if_neg (by omega)]

end Sys2Proof.Machine
end

