-- ==== Sys2Proof/Laws/State.lean ====
section
/-! SUPPORT. One lemma per field per update of State, true by rfl. -/

namespace Sys2Proof.Machine

variable (s : State)

@[simp] theorem State.withPending_pending (v : List Instr) : (s.withPending v).pending = v := rfl
@[simp] theorem State.withPending_env (v : List Instr) : (s.withPending v).env = s.env := rfl
@[simp] theorem State.withPending_time (v : List Instr) : (s.withPending v).time = s.time := rfl
@[simp] theorem State.withPending_tickDue (v : List Instr) : (s.withPending v).tickDue = s.tickDue := rfl
@[simp] theorem State.withPending_needDue (v : List Instr) : (s.withPending v).needDue = s.needDue := rfl
@[simp] theorem State.withPending_port (v : List Instr) : (s.withPending v).port = s.port := rfl
@[simp] theorem State.withPending_mem (v : List Instr) : (s.withPending v).mem = s.mem := rfl
@[simp] theorem State.withPending_snap (v : List Instr) : (s.withPending v).snap = s.snap := rfl
@[simp] theorem State.withPending_rst (v : List Instr) : (s.withPending v).rst = s.rst := rfl
@[simp] theorem State.withPending_ctxs (v : List Instr) : (s.withPending v).ctxs = s.ctxs := rfl
@[simp] theorem State.withPending_plan (v : List Instr) : (s.withPending v).plan = s.plan := rfl
@[simp] theorem State.withPending_table (v : List Instr) : (s.withPending v).table = s.table := rfl
@[simp] theorem State.withPending_survey (v : List Instr) : (s.withPending v).survey = s.survey := rfl
@[simp] theorem State.withPending_lanes (v : List Instr) : (s.withPending v).lanes = s.lanes := rfl
@[simp] theorem State.withPending_startq (v : List Instr) : (s.withPending v).startq = s.startq := rfl
@[simp] theorem State.withPending_link (v : List Instr) : (s.withPending v).link = s.link := rfl
@[simp] theorem State.withPending_voice (v : List Instr) : (s.withPending v).voice = s.voice := rfl
@[simp] theorem State.withPending_lamps (v : List Instr) : (s.withPending v).lamps = s.lamps := rfl
@[simp] theorem State.withPending_matrix (v : List Instr) : (s.withPending v).matrix = s.matrix := rfl
@[simp] theorem State.withPending_recs (v : List Instr) : (s.withPending v).recs = s.recs := rfl
@[simp] theorem State.withPending_orders (v : List Instr) : (s.withPending v).orders = s.orders := rfl
@[simp] theorem State.withPending_supply (v : List Instr) : (s.withPending v).supply = s.supply := rfl
@[simp] theorem State.withPending_counters (v : List Instr) : (s.withPending v).counters = s.counters := rfl
@[simp] theorem State.withEnv_pending (v : Env) : (s.withEnv v).pending = s.pending := rfl
@[simp] theorem State.withEnv_env (v : Env) : (s.withEnv v).env = v := rfl
@[simp] theorem State.withEnv_time (v : Env) : (s.withEnv v).time = s.time := rfl
@[simp] theorem State.withEnv_tickDue (v : Env) : (s.withEnv v).tickDue = s.tickDue := rfl
@[simp] theorem State.withEnv_needDue (v : Env) : (s.withEnv v).needDue = s.needDue := rfl
@[simp] theorem State.withEnv_port (v : Env) : (s.withEnv v).port = s.port := rfl
@[simp] theorem State.withEnv_mem (v : Env) : (s.withEnv v).mem = s.mem := rfl
@[simp] theorem State.withEnv_snap (v : Env) : (s.withEnv v).snap = s.snap := rfl
@[simp] theorem State.withEnv_rst (v : Env) : (s.withEnv v).rst = s.rst := rfl
@[simp] theorem State.withEnv_ctxs (v : Env) : (s.withEnv v).ctxs = s.ctxs := rfl
@[simp] theorem State.withEnv_plan (v : Env) : (s.withEnv v).plan = s.plan := rfl
@[simp] theorem State.withEnv_table (v : Env) : (s.withEnv v).table = s.table := rfl
@[simp] theorem State.withEnv_survey (v : Env) : (s.withEnv v).survey = s.survey := rfl
@[simp] theorem State.withEnv_lanes (v : Env) : (s.withEnv v).lanes = s.lanes := rfl
@[simp] theorem State.withEnv_startq (v : Env) : (s.withEnv v).startq = s.startq := rfl
@[simp] theorem State.withEnv_link (v : Env) : (s.withEnv v).link = s.link := rfl
@[simp] theorem State.withEnv_voice (v : Env) : (s.withEnv v).voice = s.voice := rfl
@[simp] theorem State.withEnv_lamps (v : Env) : (s.withEnv v).lamps = s.lamps := rfl
@[simp] theorem State.withEnv_matrix (v : Env) : (s.withEnv v).matrix = s.matrix := rfl
@[simp] theorem State.withEnv_recs (v : Env) : (s.withEnv v).recs = s.recs := rfl
@[simp] theorem State.withEnv_orders (v : Env) : (s.withEnv v).orders = s.orders := rfl
@[simp] theorem State.withEnv_supply (v : Env) : (s.withEnv v).supply = s.supply := rfl
@[simp] theorem State.withEnv_counters (v : Env) : (s.withEnv v).counters = s.counters := rfl
@[simp] theorem State.withTime_pending (v : Timebase) : (s.withTime v).pending = s.pending := rfl
@[simp] theorem State.withTime_env (v : Timebase) : (s.withTime v).env = s.env := rfl
@[simp] theorem State.withTime_time (v : Timebase) : (s.withTime v).time = v := rfl
@[simp] theorem State.withTime_tickDue (v : Timebase) : (s.withTime v).tickDue = s.tickDue := rfl
@[simp] theorem State.withTime_needDue (v : Timebase) : (s.withTime v).needDue = s.needDue := rfl
@[simp] theorem State.withTime_port (v : Timebase) : (s.withTime v).port = s.port := rfl
@[simp] theorem State.withTime_mem (v : Timebase) : (s.withTime v).mem = s.mem := rfl
@[simp] theorem State.withTime_snap (v : Timebase) : (s.withTime v).snap = s.snap := rfl
@[simp] theorem State.withTime_rst (v : Timebase) : (s.withTime v).rst = s.rst := rfl
@[simp] theorem State.withTime_ctxs (v : Timebase) : (s.withTime v).ctxs = s.ctxs := rfl
@[simp] theorem State.withTime_plan (v : Timebase) : (s.withTime v).plan = s.plan := rfl
@[simp] theorem State.withTime_table (v : Timebase) : (s.withTime v).table = s.table := rfl
@[simp] theorem State.withTime_survey (v : Timebase) : (s.withTime v).survey = s.survey := rfl
@[simp] theorem State.withTime_lanes (v : Timebase) : (s.withTime v).lanes = s.lanes := rfl
@[simp] theorem State.withTime_startq (v : Timebase) : (s.withTime v).startq = s.startq := rfl
@[simp] theorem State.withTime_link (v : Timebase) : (s.withTime v).link = s.link := rfl
@[simp] theorem State.withTime_voice (v : Timebase) : (s.withTime v).voice = s.voice := rfl
@[simp] theorem State.withTime_lamps (v : Timebase) : (s.withTime v).lamps = s.lamps := rfl
@[simp] theorem State.withTime_matrix (v : Timebase) : (s.withTime v).matrix = s.matrix := rfl
@[simp] theorem State.withTime_recs (v : Timebase) : (s.withTime v).recs = s.recs := rfl
@[simp] theorem State.withTime_orders (v : Timebase) : (s.withTime v).orders = s.orders := rfl
@[simp] theorem State.withTime_supply (v : Timebase) : (s.withTime v).supply = s.supply := rfl
@[simp] theorem State.withTime_counters (v : Timebase) : (s.withTime v).counters = s.counters := rfl
@[simp] theorem State.withTickDue_pending (v : Bool) : (s.withTickDue v).pending = s.pending := rfl
@[simp] theorem State.withTickDue_env (v : Bool) : (s.withTickDue v).env = s.env := rfl
@[simp] theorem State.withTickDue_time (v : Bool) : (s.withTickDue v).time = s.time := rfl
@[simp] theorem State.withTickDue_tickDue (v : Bool) : (s.withTickDue v).tickDue = v := rfl
@[simp] theorem State.withTickDue_needDue (v : Bool) : (s.withTickDue v).needDue = s.needDue := rfl
@[simp] theorem State.withTickDue_port (v : Bool) : (s.withTickDue v).port = s.port := rfl
@[simp] theorem State.withTickDue_mem (v : Bool) : (s.withTickDue v).mem = s.mem := rfl
@[simp] theorem State.withTickDue_snap (v : Bool) : (s.withTickDue v).snap = s.snap := rfl
@[simp] theorem State.withTickDue_rst (v : Bool) : (s.withTickDue v).rst = s.rst := rfl
@[simp] theorem State.withTickDue_ctxs (v : Bool) : (s.withTickDue v).ctxs = s.ctxs := rfl
@[simp] theorem State.withTickDue_plan (v : Bool) : (s.withTickDue v).plan = s.plan := rfl
@[simp] theorem State.withTickDue_table (v : Bool) : (s.withTickDue v).table = s.table := rfl
@[simp] theorem State.withTickDue_survey (v : Bool) : (s.withTickDue v).survey = s.survey := rfl
@[simp] theorem State.withTickDue_lanes (v : Bool) : (s.withTickDue v).lanes = s.lanes := rfl
@[simp] theorem State.withTickDue_startq (v : Bool) : (s.withTickDue v).startq = s.startq := rfl
@[simp] theorem State.withTickDue_link (v : Bool) : (s.withTickDue v).link = s.link := rfl
@[simp] theorem State.withTickDue_voice (v : Bool) : (s.withTickDue v).voice = s.voice := rfl
@[simp] theorem State.withTickDue_lamps (v : Bool) : (s.withTickDue v).lamps = s.lamps := rfl
@[simp] theorem State.withTickDue_matrix (v : Bool) : (s.withTickDue v).matrix = s.matrix := rfl
@[simp] theorem State.withTickDue_recs (v : Bool) : (s.withTickDue v).recs = s.recs := rfl
@[simp] theorem State.withTickDue_orders (v : Bool) : (s.withTickDue v).orders = s.orders := rfl
@[simp] theorem State.withTickDue_supply (v : Bool) : (s.withTickDue v).supply = s.supply := rfl
@[simp] theorem State.withTickDue_counters (v : Bool) : (s.withTickDue v).counters = s.counters := rfl
@[simp] theorem State.withNeedDue_pending (v : Bool) : (s.withNeedDue v).pending = s.pending := rfl
@[simp] theorem State.withNeedDue_env (v : Bool) : (s.withNeedDue v).env = s.env := rfl
@[simp] theorem State.withNeedDue_time (v : Bool) : (s.withNeedDue v).time = s.time := rfl
@[simp] theorem State.withNeedDue_tickDue (v : Bool) : (s.withNeedDue v).tickDue = s.tickDue := rfl
@[simp] theorem State.withNeedDue_needDue (v : Bool) : (s.withNeedDue v).needDue = v := rfl
@[simp] theorem State.withNeedDue_port (v : Bool) : (s.withNeedDue v).port = s.port := rfl
@[simp] theorem State.withNeedDue_mem (v : Bool) : (s.withNeedDue v).mem = s.mem := rfl
@[simp] theorem State.withNeedDue_snap (v : Bool) : (s.withNeedDue v).snap = s.snap := rfl
@[simp] theorem State.withNeedDue_rst (v : Bool) : (s.withNeedDue v).rst = s.rst := rfl
@[simp] theorem State.withNeedDue_ctxs (v : Bool) : (s.withNeedDue v).ctxs = s.ctxs := rfl
@[simp] theorem State.withNeedDue_plan (v : Bool) : (s.withNeedDue v).plan = s.plan := rfl
@[simp] theorem State.withNeedDue_table (v : Bool) : (s.withNeedDue v).table = s.table := rfl
@[simp] theorem State.withNeedDue_survey (v : Bool) : (s.withNeedDue v).survey = s.survey := rfl
@[simp] theorem State.withNeedDue_lanes (v : Bool) : (s.withNeedDue v).lanes = s.lanes := rfl
@[simp] theorem State.withNeedDue_startq (v : Bool) : (s.withNeedDue v).startq = s.startq := rfl
@[simp] theorem State.withNeedDue_link (v : Bool) : (s.withNeedDue v).link = s.link := rfl
@[simp] theorem State.withNeedDue_voice (v : Bool) : (s.withNeedDue v).voice = s.voice := rfl
@[simp] theorem State.withNeedDue_lamps (v : Bool) : (s.withNeedDue v).lamps = s.lamps := rfl
@[simp] theorem State.withNeedDue_matrix (v : Bool) : (s.withNeedDue v).matrix = s.matrix := rfl
@[simp] theorem State.withNeedDue_recs (v : Bool) : (s.withNeedDue v).recs = s.recs := rfl
@[simp] theorem State.withNeedDue_orders (v : Bool) : (s.withNeedDue v).orders = s.orders := rfl
@[simp] theorem State.withNeedDue_supply (v : Bool) : (s.withNeedDue v).supply = s.supply := rfl
@[simp] theorem State.withNeedDue_counters (v : Bool) : (s.withNeedDue v).counters = s.counters := rfl
@[simp] theorem State.withPort_pending (v : Port) : (s.withPort v).pending = s.pending := rfl
@[simp] theorem State.withPort_env (v : Port) : (s.withPort v).env = s.env := rfl
@[simp] theorem State.withPort_time (v : Port) : (s.withPort v).time = s.time := rfl
@[simp] theorem State.withPort_tickDue (v : Port) : (s.withPort v).tickDue = s.tickDue := rfl
@[simp] theorem State.withPort_needDue (v : Port) : (s.withPort v).needDue = s.needDue := rfl
@[simp] theorem State.withPort_port (v : Port) : (s.withPort v).port = v := rfl
@[simp] theorem State.withPort_mem (v : Port) : (s.withPort v).mem = s.mem := rfl
@[simp] theorem State.withPort_snap (v : Port) : (s.withPort v).snap = s.snap := rfl
@[simp] theorem State.withPort_rst (v : Port) : (s.withPort v).rst = s.rst := rfl
@[simp] theorem State.withPort_ctxs (v : Port) : (s.withPort v).ctxs = s.ctxs := rfl
@[simp] theorem State.withPort_plan (v : Port) : (s.withPort v).plan = s.plan := rfl
@[simp] theorem State.withPort_table (v : Port) : (s.withPort v).table = s.table := rfl
@[simp] theorem State.withPort_survey (v : Port) : (s.withPort v).survey = s.survey := rfl
@[simp] theorem State.withPort_lanes (v : Port) : (s.withPort v).lanes = s.lanes := rfl
@[simp] theorem State.withPort_startq (v : Port) : (s.withPort v).startq = s.startq := rfl
@[simp] theorem State.withPort_link (v : Port) : (s.withPort v).link = s.link := rfl
@[simp] theorem State.withPort_voice (v : Port) : (s.withPort v).voice = s.voice := rfl
@[simp] theorem State.withPort_lamps (v : Port) : (s.withPort v).lamps = s.lamps := rfl
@[simp] theorem State.withPort_matrix (v : Port) : (s.withPort v).matrix = s.matrix := rfl
@[simp] theorem State.withPort_recs (v : Port) : (s.withPort v).recs = s.recs := rfl
@[simp] theorem State.withPort_orders (v : Port) : (s.withPort v).orders = s.orders := rfl
@[simp] theorem State.withPort_supply (v : Port) : (s.withPort v).supply = s.supply := rfl
@[simp] theorem State.withPort_counters (v : Port) : (s.withPort v).counters = s.counters := rfl
@[simp] theorem State.withMem_pending (v : Memory) : (s.withMem v).pending = s.pending := rfl
@[simp] theorem State.withMem_env (v : Memory) : (s.withMem v).env = s.env := rfl
@[simp] theorem State.withMem_time (v : Memory) : (s.withMem v).time = s.time := rfl
@[simp] theorem State.withMem_tickDue (v : Memory) : (s.withMem v).tickDue = s.tickDue := rfl
@[simp] theorem State.withMem_needDue (v : Memory) : (s.withMem v).needDue = s.needDue := rfl
@[simp] theorem State.withMem_port (v : Memory) : (s.withMem v).port = s.port := rfl
@[simp] theorem State.withMem_mem (v : Memory) : (s.withMem v).mem = v := rfl
@[simp] theorem State.withMem_snap (v : Memory) : (s.withMem v).snap = s.snap := rfl
@[simp] theorem State.withMem_rst (v : Memory) : (s.withMem v).rst = s.rst := rfl
@[simp] theorem State.withMem_ctxs (v : Memory) : (s.withMem v).ctxs = s.ctxs := rfl
@[simp] theorem State.withMem_plan (v : Memory) : (s.withMem v).plan = s.plan := rfl
@[simp] theorem State.withMem_table (v : Memory) : (s.withMem v).table = s.table := rfl
@[simp] theorem State.withMem_survey (v : Memory) : (s.withMem v).survey = s.survey := rfl
@[simp] theorem State.withMem_lanes (v : Memory) : (s.withMem v).lanes = s.lanes := rfl
@[simp] theorem State.withMem_startq (v : Memory) : (s.withMem v).startq = s.startq := rfl
@[simp] theorem State.withMem_link (v : Memory) : (s.withMem v).link = s.link := rfl
@[simp] theorem State.withMem_voice (v : Memory) : (s.withMem v).voice = s.voice := rfl
@[simp] theorem State.withMem_lamps (v : Memory) : (s.withMem v).lamps = s.lamps := rfl
@[simp] theorem State.withMem_matrix (v : Memory) : (s.withMem v).matrix = s.matrix := rfl
@[simp] theorem State.withMem_recs (v : Memory) : (s.withMem v).recs = s.recs := rfl
@[simp] theorem State.withMem_orders (v : Memory) : (s.withMem v).orders = s.orders := rfl
@[simp] theorem State.withMem_supply (v : Memory) : (s.withMem v).supply = s.supply := rfl
@[simp] theorem State.withMem_counters (v : Memory) : (s.withMem v).counters = s.counters := rfl
@[simp] theorem State.withSnap_pending (v : Option Memory) : (s.withSnap v).pending = s.pending := rfl
@[simp] theorem State.withSnap_env (v : Option Memory) : (s.withSnap v).env = s.env := rfl
@[simp] theorem State.withSnap_time (v : Option Memory) : (s.withSnap v).time = s.time := rfl
@[simp] theorem State.withSnap_tickDue (v : Option Memory) : (s.withSnap v).tickDue = s.tickDue := rfl
@[simp] theorem State.withSnap_needDue (v : Option Memory) : (s.withSnap v).needDue = s.needDue := rfl
@[simp] theorem State.withSnap_port (v : Option Memory) : (s.withSnap v).port = s.port := rfl
@[simp] theorem State.withSnap_mem (v : Option Memory) : (s.withSnap v).mem = s.mem := rfl
@[simp] theorem State.withSnap_snap (v : Option Memory) : (s.withSnap v).snap = v := rfl
@[simp] theorem State.withSnap_rst (v : Option Memory) : (s.withSnap v).rst = s.rst := rfl
@[simp] theorem State.withSnap_ctxs (v : Option Memory) : (s.withSnap v).ctxs = s.ctxs := rfl
@[simp] theorem State.withSnap_plan (v : Option Memory) : (s.withSnap v).plan = s.plan := rfl
@[simp] theorem State.withSnap_table (v : Option Memory) : (s.withSnap v).table = s.table := rfl
@[simp] theorem State.withSnap_survey (v : Option Memory) : (s.withSnap v).survey = s.survey := rfl
@[simp] theorem State.withSnap_lanes (v : Option Memory) : (s.withSnap v).lanes = s.lanes := rfl
@[simp] theorem State.withSnap_startq (v : Option Memory) : (s.withSnap v).startq = s.startq := rfl
@[simp] theorem State.withSnap_link (v : Option Memory) : (s.withSnap v).link = s.link := rfl
@[simp] theorem State.withSnap_voice (v : Option Memory) : (s.withSnap v).voice = s.voice := rfl
@[simp] theorem State.withSnap_lamps (v : Option Memory) : (s.withSnap v).lamps = s.lamps := rfl
@[simp] theorem State.withSnap_matrix (v : Option Memory) : (s.withSnap v).matrix = s.matrix := rfl
@[simp] theorem State.withSnap_recs (v : Option Memory) : (s.withSnap v).recs = s.recs := rfl
@[simp] theorem State.withSnap_orders (v : Option Memory) : (s.withSnap v).orders = s.orders := rfl
@[simp] theorem State.withSnap_supply (v : Option Memory) : (s.withSnap v).supply = s.supply := rfl
@[simp] theorem State.withSnap_counters (v : Option Memory) : (s.withSnap v).counters = s.counters := rfl
@[simp] theorem State.withRst_pending (v : ResetSeq) : (s.withRst v).pending = s.pending := rfl
@[simp] theorem State.withRst_env (v : ResetSeq) : (s.withRst v).env = s.env := rfl
@[simp] theorem State.withRst_time (v : ResetSeq) : (s.withRst v).time = s.time := rfl
@[simp] theorem State.withRst_tickDue (v : ResetSeq) : (s.withRst v).tickDue = s.tickDue := rfl
@[simp] theorem State.withRst_needDue (v : ResetSeq) : (s.withRst v).needDue = s.needDue := rfl
@[simp] theorem State.withRst_port (v : ResetSeq) : (s.withRst v).port = s.port := rfl
@[simp] theorem State.withRst_mem (v : ResetSeq) : (s.withRst v).mem = s.mem := rfl
@[simp] theorem State.withRst_snap (v : ResetSeq) : (s.withRst v).snap = s.snap := rfl
@[simp] theorem State.withRst_rst (v : ResetSeq) : (s.withRst v).rst = v := rfl
@[simp] theorem State.withRst_ctxs (v : ResetSeq) : (s.withRst v).ctxs = s.ctxs := rfl
@[simp] theorem State.withRst_plan (v : ResetSeq) : (s.withRst v).plan = s.plan := rfl
@[simp] theorem State.withRst_table (v : ResetSeq) : (s.withRst v).table = s.table := rfl
@[simp] theorem State.withRst_survey (v : ResetSeq) : (s.withRst v).survey = s.survey := rfl
@[simp] theorem State.withRst_lanes (v : ResetSeq) : (s.withRst v).lanes = s.lanes := rfl
@[simp] theorem State.withRst_startq (v : ResetSeq) : (s.withRst v).startq = s.startq := rfl
@[simp] theorem State.withRst_link (v : ResetSeq) : (s.withRst v).link = s.link := rfl
@[simp] theorem State.withRst_voice (v : ResetSeq) : (s.withRst v).voice = s.voice := rfl
@[simp] theorem State.withRst_lamps (v : ResetSeq) : (s.withRst v).lamps = s.lamps := rfl
@[simp] theorem State.withRst_matrix (v : ResetSeq) : (s.withRst v).matrix = s.matrix := rfl
@[simp] theorem State.withRst_recs (v : ResetSeq) : (s.withRst v).recs = s.recs := rfl
@[simp] theorem State.withRst_orders (v : ResetSeq) : (s.withRst v).orders = s.orders := rfl
@[simp] theorem State.withRst_supply (v : ResetSeq) : (s.withRst v).supply = s.supply := rfl
@[simp] theorem State.withRst_counters (v : ResetSeq) : (s.withRst v).counters = s.counters := rfl
@[simp] theorem State.withCtxs_pending (v : Duo Context) : (s.withCtxs v).pending = s.pending := rfl
@[simp] theorem State.withCtxs_env (v : Duo Context) : (s.withCtxs v).env = s.env := rfl
@[simp] theorem State.withCtxs_time (v : Duo Context) : (s.withCtxs v).time = s.time := rfl
@[simp] theorem State.withCtxs_tickDue (v : Duo Context) : (s.withCtxs v).tickDue = s.tickDue := rfl
@[simp] theorem State.withCtxs_needDue (v : Duo Context) : (s.withCtxs v).needDue = s.needDue := rfl
@[simp] theorem State.withCtxs_port (v : Duo Context) : (s.withCtxs v).port = s.port := rfl
@[simp] theorem State.withCtxs_mem (v : Duo Context) : (s.withCtxs v).mem = s.mem := rfl
@[simp] theorem State.withCtxs_snap (v : Duo Context) : (s.withCtxs v).snap = s.snap := rfl
@[simp] theorem State.withCtxs_rst (v : Duo Context) : (s.withCtxs v).rst = s.rst := rfl
@[simp] theorem State.withCtxs_ctxs (v : Duo Context) : (s.withCtxs v).ctxs = v := rfl
@[simp] theorem State.withCtxs_plan (v : Duo Context) : (s.withCtxs v).plan = s.plan := rfl
@[simp] theorem State.withCtxs_table (v : Duo Context) : (s.withCtxs v).table = s.table := rfl
@[simp] theorem State.withCtxs_survey (v : Duo Context) : (s.withCtxs v).survey = s.survey := rfl
@[simp] theorem State.withCtxs_lanes (v : Duo Context) : (s.withCtxs v).lanes = s.lanes := rfl
@[simp] theorem State.withCtxs_startq (v : Duo Context) : (s.withCtxs v).startq = s.startq := rfl
@[simp] theorem State.withCtxs_link (v : Duo Context) : (s.withCtxs v).link = s.link := rfl
@[simp] theorem State.withCtxs_voice (v : Duo Context) : (s.withCtxs v).voice = s.voice := rfl
@[simp] theorem State.withCtxs_lamps (v : Duo Context) : (s.withCtxs v).lamps = s.lamps := rfl
@[simp] theorem State.withCtxs_matrix (v : Duo Context) : (s.withCtxs v).matrix = s.matrix := rfl
@[simp] theorem State.withCtxs_recs (v : Duo Context) : (s.withCtxs v).recs = s.recs := rfl
@[simp] theorem State.withCtxs_orders (v : Duo Context) : (s.withCtxs v).orders = s.orders := rfl
@[simp] theorem State.withCtxs_supply (v : Duo Context) : (s.withCtxs v).supply = s.supply := rfl
@[simp] theorem State.withCtxs_counters (v : Duo Context) : (s.withCtxs v).counters = s.counters := rfl
@[simp] theorem State.withPlan_pending (v : PlanStore) : (s.withPlan v).pending = s.pending := rfl
@[simp] theorem State.withPlan_env (v : PlanStore) : (s.withPlan v).env = s.env := rfl
@[simp] theorem State.withPlan_time (v : PlanStore) : (s.withPlan v).time = s.time := rfl
@[simp] theorem State.withPlan_tickDue (v : PlanStore) : (s.withPlan v).tickDue = s.tickDue := rfl
@[simp] theorem State.withPlan_needDue (v : PlanStore) : (s.withPlan v).needDue = s.needDue := rfl
@[simp] theorem State.withPlan_port (v : PlanStore) : (s.withPlan v).port = s.port := rfl
@[simp] theorem State.withPlan_mem (v : PlanStore) : (s.withPlan v).mem = s.mem := rfl
@[simp] theorem State.withPlan_snap (v : PlanStore) : (s.withPlan v).snap = s.snap := rfl
@[simp] theorem State.withPlan_rst (v : PlanStore) : (s.withPlan v).rst = s.rst := rfl
@[simp] theorem State.withPlan_ctxs (v : PlanStore) : (s.withPlan v).ctxs = s.ctxs := rfl
@[simp] theorem State.withPlan_plan (v : PlanStore) : (s.withPlan v).plan = v := rfl
@[simp] theorem State.withPlan_table (v : PlanStore) : (s.withPlan v).table = s.table := rfl
@[simp] theorem State.withPlan_survey (v : PlanStore) : (s.withPlan v).survey = s.survey := rfl
@[simp] theorem State.withPlan_lanes (v : PlanStore) : (s.withPlan v).lanes = s.lanes := rfl
@[simp] theorem State.withPlan_startq (v : PlanStore) : (s.withPlan v).startq = s.startq := rfl
@[simp] theorem State.withPlan_link (v : PlanStore) : (s.withPlan v).link = s.link := rfl
@[simp] theorem State.withPlan_voice (v : PlanStore) : (s.withPlan v).voice = s.voice := rfl
@[simp] theorem State.withPlan_lamps (v : PlanStore) : (s.withPlan v).lamps = s.lamps := rfl
@[simp] theorem State.withPlan_matrix (v : PlanStore) : (s.withPlan v).matrix = s.matrix := rfl
@[simp] theorem State.withPlan_recs (v : PlanStore) : (s.withPlan v).recs = s.recs := rfl
@[simp] theorem State.withPlan_orders (v : PlanStore) : (s.withPlan v).orders = s.orders := rfl
@[simp] theorem State.withPlan_supply (v : PlanStore) : (s.withPlan v).supply = s.supply := rfl
@[simp] theorem State.withPlan_counters (v : PlanStore) : (s.withPlan v).counters = s.counters := rfl
@[simp] theorem State.withTable_pending (v : List Entry) : (s.withTable v).pending = s.pending := rfl
@[simp] theorem State.withTable_env (v : List Entry) : (s.withTable v).env = s.env := rfl
@[simp] theorem State.withTable_time (v : List Entry) : (s.withTable v).time = s.time := rfl
@[simp] theorem State.withTable_tickDue (v : List Entry) : (s.withTable v).tickDue = s.tickDue := rfl
@[simp] theorem State.withTable_needDue (v : List Entry) : (s.withTable v).needDue = s.needDue := rfl
@[simp] theorem State.withTable_port (v : List Entry) : (s.withTable v).port = s.port := rfl
@[simp] theorem State.withTable_mem (v : List Entry) : (s.withTable v).mem = s.mem := rfl
@[simp] theorem State.withTable_snap (v : List Entry) : (s.withTable v).snap = s.snap := rfl
@[simp] theorem State.withTable_rst (v : List Entry) : (s.withTable v).rst = s.rst := rfl
@[simp] theorem State.withTable_ctxs (v : List Entry) : (s.withTable v).ctxs = s.ctxs := rfl
@[simp] theorem State.withTable_plan (v : List Entry) : (s.withTable v).plan = s.plan := rfl
@[simp] theorem State.withTable_table (v : List Entry) : (s.withTable v).table = v := rfl
@[simp] theorem State.withTable_survey (v : List Entry) : (s.withTable v).survey = s.survey := rfl
@[simp] theorem State.withTable_lanes (v : List Entry) : (s.withTable v).lanes = s.lanes := rfl
@[simp] theorem State.withTable_startq (v : List Entry) : (s.withTable v).startq = s.startq := rfl
@[simp] theorem State.withTable_link (v : List Entry) : (s.withTable v).link = s.link := rfl
@[simp] theorem State.withTable_voice (v : List Entry) : (s.withTable v).voice = s.voice := rfl
@[simp] theorem State.withTable_lamps (v : List Entry) : (s.withTable v).lamps = s.lamps := rfl
@[simp] theorem State.withTable_matrix (v : List Entry) : (s.withTable v).matrix = s.matrix := rfl
@[simp] theorem State.withTable_recs (v : List Entry) : (s.withTable v).recs = s.recs := rfl
@[simp] theorem State.withTable_orders (v : List Entry) : (s.withTable v).orders = s.orders := rfl
@[simp] theorem State.withTable_supply (v : List Entry) : (s.withTable v).supply = s.supply := rfl
@[simp] theorem State.withTable_counters (v : List Entry) : (s.withTable v).counters = s.counters := rfl
@[simp] theorem State.withSurvey_pending (v : Survey) : (s.withSurvey v).pending = s.pending := rfl
@[simp] theorem State.withSurvey_env (v : Survey) : (s.withSurvey v).env = s.env := rfl
@[simp] theorem State.withSurvey_time (v : Survey) : (s.withSurvey v).time = s.time := rfl
@[simp] theorem State.withSurvey_tickDue (v : Survey) : (s.withSurvey v).tickDue = s.tickDue := rfl
@[simp] theorem State.withSurvey_needDue (v : Survey) : (s.withSurvey v).needDue = s.needDue := rfl
@[simp] theorem State.withSurvey_port (v : Survey) : (s.withSurvey v).port = s.port := rfl
@[simp] theorem State.withSurvey_mem (v : Survey) : (s.withSurvey v).mem = s.mem := rfl
@[simp] theorem State.withSurvey_snap (v : Survey) : (s.withSurvey v).snap = s.snap := rfl
@[simp] theorem State.withSurvey_rst (v : Survey) : (s.withSurvey v).rst = s.rst := rfl
@[simp] theorem State.withSurvey_ctxs (v : Survey) : (s.withSurvey v).ctxs = s.ctxs := rfl
@[simp] theorem State.withSurvey_plan (v : Survey) : (s.withSurvey v).plan = s.plan := rfl
@[simp] theorem State.withSurvey_table (v : Survey) : (s.withSurvey v).table = s.table := rfl
@[simp] theorem State.withSurvey_survey (v : Survey) : (s.withSurvey v).survey = v := rfl
@[simp] theorem State.withSurvey_lanes (v : Survey) : (s.withSurvey v).lanes = s.lanes := rfl
@[simp] theorem State.withSurvey_startq (v : Survey) : (s.withSurvey v).startq = s.startq := rfl
@[simp] theorem State.withSurvey_link (v : Survey) : (s.withSurvey v).link = s.link := rfl
@[simp] theorem State.withSurvey_voice (v : Survey) : (s.withSurvey v).voice = s.voice := rfl
@[simp] theorem State.withSurvey_lamps (v : Survey) : (s.withSurvey v).lamps = s.lamps := rfl
@[simp] theorem State.withSurvey_matrix (v : Survey) : (s.withSurvey v).matrix = s.matrix := rfl
@[simp] theorem State.withSurvey_recs (v : Survey) : (s.withSurvey v).recs = s.recs := rfl
@[simp] theorem State.withSurvey_orders (v : Survey) : (s.withSurvey v).orders = s.orders := rfl
@[simp] theorem State.withSurvey_supply (v : Survey) : (s.withSurvey v).supply = s.supply := rfl
@[simp] theorem State.withSurvey_counters (v : Survey) : (s.withSurvey v).counters = s.counters := rfl
@[simp] theorem State.withLanes_pending (v : Quad LaneRec) : (s.withLanes v).pending = s.pending := rfl
@[simp] theorem State.withLanes_env (v : Quad LaneRec) : (s.withLanes v).env = s.env := rfl
@[simp] theorem State.withLanes_time (v : Quad LaneRec) : (s.withLanes v).time = s.time := rfl
@[simp] theorem State.withLanes_tickDue (v : Quad LaneRec) : (s.withLanes v).tickDue = s.tickDue := rfl
@[simp] theorem State.withLanes_needDue (v : Quad LaneRec) : (s.withLanes v).needDue = s.needDue := rfl
@[simp] theorem State.withLanes_port (v : Quad LaneRec) : (s.withLanes v).port = s.port := rfl
@[simp] theorem State.withLanes_mem (v : Quad LaneRec) : (s.withLanes v).mem = s.mem := rfl
@[simp] theorem State.withLanes_snap (v : Quad LaneRec) : (s.withLanes v).snap = s.snap := rfl
@[simp] theorem State.withLanes_rst (v : Quad LaneRec) : (s.withLanes v).rst = s.rst := rfl
@[simp] theorem State.withLanes_ctxs (v : Quad LaneRec) : (s.withLanes v).ctxs = s.ctxs := rfl
@[simp] theorem State.withLanes_plan (v : Quad LaneRec) : (s.withLanes v).plan = s.plan := rfl
@[simp] theorem State.withLanes_table (v : Quad LaneRec) : (s.withLanes v).table = s.table := rfl
@[simp] theorem State.withLanes_survey (v : Quad LaneRec) : (s.withLanes v).survey = s.survey := rfl
@[simp] theorem State.withLanes_lanes (v : Quad LaneRec) : (s.withLanes v).lanes = v := rfl
@[simp] theorem State.withLanes_startq (v : Quad LaneRec) : (s.withLanes v).startq = s.startq := rfl
@[simp] theorem State.withLanes_link (v : Quad LaneRec) : (s.withLanes v).link = s.link := rfl
@[simp] theorem State.withLanes_voice (v : Quad LaneRec) : (s.withLanes v).voice = s.voice := rfl
@[simp] theorem State.withLanes_lamps (v : Quad LaneRec) : (s.withLanes v).lamps = s.lamps := rfl
@[simp] theorem State.withLanes_matrix (v : Quad LaneRec) : (s.withLanes v).matrix = s.matrix := rfl
@[simp] theorem State.withLanes_recs (v : Quad LaneRec) : (s.withLanes v).recs = s.recs := rfl
@[simp] theorem State.withLanes_orders (v : Quad LaneRec) : (s.withLanes v).orders = s.orders := rfl
@[simp] theorem State.withLanes_supply (v : Quad LaneRec) : (s.withLanes v).supply = s.supply := rfl
@[simp] theorem State.withLanes_counters (v : Quad LaneRec) : (s.withLanes v).counters = s.counters := rfl
@[simp] theorem State.withStartq_pending (v : List QueueEntry) : (s.withStartq v).pending = s.pending := rfl
@[simp] theorem State.withStartq_env (v : List QueueEntry) : (s.withStartq v).env = s.env := rfl
@[simp] theorem State.withStartq_time (v : List QueueEntry) : (s.withStartq v).time = s.time := rfl
@[simp] theorem State.withStartq_tickDue (v : List QueueEntry) : (s.withStartq v).tickDue = s.tickDue := rfl
@[simp] theorem State.withStartq_needDue (v : List QueueEntry) : (s.withStartq v).needDue = s.needDue := rfl
@[simp] theorem State.withStartq_port (v : List QueueEntry) : (s.withStartq v).port = s.port := rfl
@[simp] theorem State.withStartq_mem (v : List QueueEntry) : (s.withStartq v).mem = s.mem := rfl
@[simp] theorem State.withStartq_snap (v : List QueueEntry) : (s.withStartq v).snap = s.snap := rfl
@[simp] theorem State.withStartq_rst (v : List QueueEntry) : (s.withStartq v).rst = s.rst := rfl
@[simp] theorem State.withStartq_ctxs (v : List QueueEntry) : (s.withStartq v).ctxs = s.ctxs := rfl
@[simp] theorem State.withStartq_plan (v : List QueueEntry) : (s.withStartq v).plan = s.plan := rfl
@[simp] theorem State.withStartq_table (v : List QueueEntry) : (s.withStartq v).table = s.table := rfl
@[simp] theorem State.withStartq_survey (v : List QueueEntry) : (s.withStartq v).survey = s.survey := rfl
@[simp] theorem State.withStartq_lanes (v : List QueueEntry) : (s.withStartq v).lanes = s.lanes := rfl
@[simp] theorem State.withStartq_startq (v : List QueueEntry) : (s.withStartq v).startq = v := rfl
@[simp] theorem State.withStartq_link (v : List QueueEntry) : (s.withStartq v).link = s.link := rfl
@[simp] theorem State.withStartq_voice (v : List QueueEntry) : (s.withStartq v).voice = s.voice := rfl
@[simp] theorem State.withStartq_lamps (v : List QueueEntry) : (s.withStartq v).lamps = s.lamps := rfl
@[simp] theorem State.withStartq_matrix (v : List QueueEntry) : (s.withStartq v).matrix = s.matrix := rfl
@[simp] theorem State.withStartq_recs (v : List QueueEntry) : (s.withStartq v).recs = s.recs := rfl
@[simp] theorem State.withStartq_orders (v : List QueueEntry) : (s.withStartq v).orders = s.orders := rfl
@[simp] theorem State.withStartq_supply (v : List QueueEntry) : (s.withStartq v).supply = s.supply := rfl
@[simp] theorem State.withStartq_counters (v : List QueueEntry) : (s.withStartq v).counters = s.counters := rfl
@[simp] theorem State.withLink_pending (v : Link) : (s.withLink v).pending = s.pending := rfl
@[simp] theorem State.withLink_env (v : Link) : (s.withLink v).env = s.env := rfl
@[simp] theorem State.withLink_time (v : Link) : (s.withLink v).time = s.time := rfl
@[simp] theorem State.withLink_tickDue (v : Link) : (s.withLink v).tickDue = s.tickDue := rfl
@[simp] theorem State.withLink_needDue (v : Link) : (s.withLink v).needDue = s.needDue := rfl
@[simp] theorem State.withLink_port (v : Link) : (s.withLink v).port = s.port := rfl
@[simp] theorem State.withLink_mem (v : Link) : (s.withLink v).mem = s.mem := rfl
@[simp] theorem State.withLink_snap (v : Link) : (s.withLink v).snap = s.snap := rfl
@[simp] theorem State.withLink_rst (v : Link) : (s.withLink v).rst = s.rst := rfl
@[simp] theorem State.withLink_ctxs (v : Link) : (s.withLink v).ctxs = s.ctxs := rfl
@[simp] theorem State.withLink_plan (v : Link) : (s.withLink v).plan = s.plan := rfl
@[simp] theorem State.withLink_table (v : Link) : (s.withLink v).table = s.table := rfl
@[simp] theorem State.withLink_survey (v : Link) : (s.withLink v).survey = s.survey := rfl
@[simp] theorem State.withLink_lanes (v : Link) : (s.withLink v).lanes = s.lanes := rfl
@[simp] theorem State.withLink_startq (v : Link) : (s.withLink v).startq = s.startq := rfl
@[simp] theorem State.withLink_link (v : Link) : (s.withLink v).link = v := rfl
@[simp] theorem State.withLink_voice (v : Link) : (s.withLink v).voice = s.voice := rfl
@[simp] theorem State.withLink_lamps (v : Link) : (s.withLink v).lamps = s.lamps := rfl
@[simp] theorem State.withLink_matrix (v : Link) : (s.withLink v).matrix = s.matrix := rfl
@[simp] theorem State.withLink_recs (v : Link) : (s.withLink v).recs = s.recs := rfl
@[simp] theorem State.withLink_orders (v : Link) : (s.withLink v).orders = s.orders := rfl
@[simp] theorem State.withLink_supply (v : Link) : (s.withLink v).supply = s.supply := rfl
@[simp] theorem State.withLink_counters (v : Link) : (s.withLink v).counters = s.counters := rfl
@[simp] theorem State.withVoice_pending (v : Voice) : (s.withVoice v).pending = s.pending := rfl
@[simp] theorem State.withVoice_env (v : Voice) : (s.withVoice v).env = s.env := rfl
@[simp] theorem State.withVoice_time (v : Voice) : (s.withVoice v).time = s.time := rfl
@[simp] theorem State.withVoice_tickDue (v : Voice) : (s.withVoice v).tickDue = s.tickDue := rfl
@[simp] theorem State.withVoice_needDue (v : Voice) : (s.withVoice v).needDue = s.needDue := rfl
@[simp] theorem State.withVoice_port (v : Voice) : (s.withVoice v).port = s.port := rfl
@[simp] theorem State.withVoice_mem (v : Voice) : (s.withVoice v).mem = s.mem := rfl
@[simp] theorem State.withVoice_snap (v : Voice) : (s.withVoice v).snap = s.snap := rfl
@[simp] theorem State.withVoice_rst (v : Voice) : (s.withVoice v).rst = s.rst := rfl
@[simp] theorem State.withVoice_ctxs (v : Voice) : (s.withVoice v).ctxs = s.ctxs := rfl
@[simp] theorem State.withVoice_plan (v : Voice) : (s.withVoice v).plan = s.plan := rfl
@[simp] theorem State.withVoice_table (v : Voice) : (s.withVoice v).table = s.table := rfl
@[simp] theorem State.withVoice_survey (v : Voice) : (s.withVoice v).survey = s.survey := rfl
@[simp] theorem State.withVoice_lanes (v : Voice) : (s.withVoice v).lanes = s.lanes := rfl
@[simp] theorem State.withVoice_startq (v : Voice) : (s.withVoice v).startq = s.startq := rfl
@[simp] theorem State.withVoice_link (v : Voice) : (s.withVoice v).link = s.link := rfl
@[simp] theorem State.withVoice_voice (v : Voice) : (s.withVoice v).voice = v := rfl
@[simp] theorem State.withVoice_lamps (v : Voice) : (s.withVoice v).lamps = s.lamps := rfl
@[simp] theorem State.withVoice_matrix (v : Voice) : (s.withVoice v).matrix = s.matrix := rfl
@[simp] theorem State.withVoice_recs (v : Voice) : (s.withVoice v).recs = s.recs := rfl
@[simp] theorem State.withVoice_orders (v : Voice) : (s.withVoice v).orders = s.orders := rfl
@[simp] theorem State.withVoice_supply (v : Voice) : (s.withVoice v).supply = s.supply := rfl
@[simp] theorem State.withVoice_counters (v : Voice) : (s.withVoice v).counters = s.counters := rfl
@[simp] theorem State.withLamps_pending (v : Duo Lamps) : (s.withLamps v).pending = s.pending := rfl
@[simp] theorem State.withLamps_env (v : Duo Lamps) : (s.withLamps v).env = s.env := rfl
@[simp] theorem State.withLamps_time (v : Duo Lamps) : (s.withLamps v).time = s.time := rfl
@[simp] theorem State.withLamps_tickDue (v : Duo Lamps) : (s.withLamps v).tickDue = s.tickDue := rfl
@[simp] theorem State.withLamps_needDue (v : Duo Lamps) : (s.withLamps v).needDue = s.needDue := rfl
@[simp] theorem State.withLamps_port (v : Duo Lamps) : (s.withLamps v).port = s.port := rfl
@[simp] theorem State.withLamps_mem (v : Duo Lamps) : (s.withLamps v).mem = s.mem := rfl
@[simp] theorem State.withLamps_snap (v : Duo Lamps) : (s.withLamps v).snap = s.snap := rfl
@[simp] theorem State.withLamps_rst (v : Duo Lamps) : (s.withLamps v).rst = s.rst := rfl
@[simp] theorem State.withLamps_ctxs (v : Duo Lamps) : (s.withLamps v).ctxs = s.ctxs := rfl
@[simp] theorem State.withLamps_plan (v : Duo Lamps) : (s.withLamps v).plan = s.plan := rfl
@[simp] theorem State.withLamps_table (v : Duo Lamps) : (s.withLamps v).table = s.table := rfl
@[simp] theorem State.withLamps_survey (v : Duo Lamps) : (s.withLamps v).survey = s.survey := rfl
@[simp] theorem State.withLamps_lanes (v : Duo Lamps) : (s.withLamps v).lanes = s.lanes := rfl
@[simp] theorem State.withLamps_startq (v : Duo Lamps) : (s.withLamps v).startq = s.startq := rfl
@[simp] theorem State.withLamps_link (v : Duo Lamps) : (s.withLamps v).link = s.link := rfl
@[simp] theorem State.withLamps_voice (v : Duo Lamps) : (s.withLamps v).voice = s.voice := rfl
@[simp] theorem State.withLamps_lamps (v : Duo Lamps) : (s.withLamps v).lamps = v := rfl
@[simp] theorem State.withLamps_matrix (v : Duo Lamps) : (s.withLamps v).matrix = s.matrix := rfl
@[simp] theorem State.withLamps_recs (v : Duo Lamps) : (s.withLamps v).recs = s.recs := rfl
@[simp] theorem State.withLamps_orders (v : Duo Lamps) : (s.withLamps v).orders = s.orders := rfl
@[simp] theorem State.withLamps_supply (v : Duo Lamps) : (s.withLamps v).supply = s.supply := rfl
@[simp] theorem State.withLamps_counters (v : Duo Lamps) : (s.withLamps v).counters = s.counters := rfl
@[simp] theorem State.withMatrix_pending (v : Matrix) : (s.withMatrix v).pending = s.pending := rfl
@[simp] theorem State.withMatrix_env (v : Matrix) : (s.withMatrix v).env = s.env := rfl
@[simp] theorem State.withMatrix_time (v : Matrix) : (s.withMatrix v).time = s.time := rfl
@[simp] theorem State.withMatrix_tickDue (v : Matrix) : (s.withMatrix v).tickDue = s.tickDue := rfl
@[simp] theorem State.withMatrix_needDue (v : Matrix) : (s.withMatrix v).needDue = s.needDue := rfl
@[simp] theorem State.withMatrix_port (v : Matrix) : (s.withMatrix v).port = s.port := rfl
@[simp] theorem State.withMatrix_mem (v : Matrix) : (s.withMatrix v).mem = s.mem := rfl
@[simp] theorem State.withMatrix_snap (v : Matrix) : (s.withMatrix v).snap = s.snap := rfl
@[simp] theorem State.withMatrix_rst (v : Matrix) : (s.withMatrix v).rst = s.rst := rfl
@[simp] theorem State.withMatrix_ctxs (v : Matrix) : (s.withMatrix v).ctxs = s.ctxs := rfl
@[simp] theorem State.withMatrix_plan (v : Matrix) : (s.withMatrix v).plan = s.plan := rfl
@[simp] theorem State.withMatrix_table (v : Matrix) : (s.withMatrix v).table = s.table := rfl
@[simp] theorem State.withMatrix_survey (v : Matrix) : (s.withMatrix v).survey = s.survey := rfl
@[simp] theorem State.withMatrix_lanes (v : Matrix) : (s.withMatrix v).lanes = s.lanes := rfl
@[simp] theorem State.withMatrix_startq (v : Matrix) : (s.withMatrix v).startq = s.startq := rfl
@[simp] theorem State.withMatrix_link (v : Matrix) : (s.withMatrix v).link = s.link := rfl
@[simp] theorem State.withMatrix_voice (v : Matrix) : (s.withMatrix v).voice = s.voice := rfl
@[simp] theorem State.withMatrix_lamps (v : Matrix) : (s.withMatrix v).lamps = s.lamps := rfl
@[simp] theorem State.withMatrix_matrix (v : Matrix) : (s.withMatrix v).matrix = v := rfl
@[simp] theorem State.withMatrix_recs (v : Matrix) : (s.withMatrix v).recs = s.recs := rfl
@[simp] theorem State.withMatrix_orders (v : Matrix) : (s.withMatrix v).orders = s.orders := rfl
@[simp] theorem State.withMatrix_supply (v : Matrix) : (s.withMatrix v).supply = s.supply := rfl
@[simp] theorem State.withMatrix_counters (v : Matrix) : (s.withMatrix v).counters = s.counters := rfl
@[simp] theorem State.withRecs_pending (v : Records) : (s.withRecs v).pending = s.pending := rfl
@[simp] theorem State.withRecs_env (v : Records) : (s.withRecs v).env = s.env := rfl
@[simp] theorem State.withRecs_time (v : Records) : (s.withRecs v).time = s.time := rfl
@[simp] theorem State.withRecs_tickDue (v : Records) : (s.withRecs v).tickDue = s.tickDue := rfl
@[simp] theorem State.withRecs_needDue (v : Records) : (s.withRecs v).needDue = s.needDue := rfl
@[simp] theorem State.withRecs_port (v : Records) : (s.withRecs v).port = s.port := rfl
@[simp] theorem State.withRecs_mem (v : Records) : (s.withRecs v).mem = s.mem := rfl
@[simp] theorem State.withRecs_snap (v : Records) : (s.withRecs v).snap = s.snap := rfl
@[simp] theorem State.withRecs_rst (v : Records) : (s.withRecs v).rst = s.rst := rfl
@[simp] theorem State.withRecs_ctxs (v : Records) : (s.withRecs v).ctxs = s.ctxs := rfl
@[simp] theorem State.withRecs_plan (v : Records) : (s.withRecs v).plan = s.plan := rfl
@[simp] theorem State.withRecs_table (v : Records) : (s.withRecs v).table = s.table := rfl
@[simp] theorem State.withRecs_survey (v : Records) : (s.withRecs v).survey = s.survey := rfl
@[simp] theorem State.withRecs_lanes (v : Records) : (s.withRecs v).lanes = s.lanes := rfl
@[simp] theorem State.withRecs_startq (v : Records) : (s.withRecs v).startq = s.startq := rfl
@[simp] theorem State.withRecs_link (v : Records) : (s.withRecs v).link = s.link := rfl
@[simp] theorem State.withRecs_voice (v : Records) : (s.withRecs v).voice = s.voice := rfl
@[simp] theorem State.withRecs_lamps (v : Records) : (s.withRecs v).lamps = s.lamps := rfl
@[simp] theorem State.withRecs_matrix (v : Records) : (s.withRecs v).matrix = s.matrix := rfl
@[simp] theorem State.withRecs_recs (v : Records) : (s.withRecs v).recs = v := rfl
@[simp] theorem State.withRecs_orders (v : Records) : (s.withRecs v).orders = s.orders := rfl
@[simp] theorem State.withRecs_supply (v : Records) : (s.withRecs v).supply = s.supply := rfl
@[simp] theorem State.withRecs_counters (v : Records) : (s.withRecs v).counters = s.counters := rfl
@[simp] theorem State.withOrders_pending (v : OrderUnit) : (s.withOrders v).pending = s.pending := rfl
@[simp] theorem State.withOrders_env (v : OrderUnit) : (s.withOrders v).env = s.env := rfl
@[simp] theorem State.withOrders_time (v : OrderUnit) : (s.withOrders v).time = s.time := rfl
@[simp] theorem State.withOrders_tickDue (v : OrderUnit) : (s.withOrders v).tickDue = s.tickDue := rfl
@[simp] theorem State.withOrders_needDue (v : OrderUnit) : (s.withOrders v).needDue = s.needDue := rfl
@[simp] theorem State.withOrders_port (v : OrderUnit) : (s.withOrders v).port = s.port := rfl
@[simp] theorem State.withOrders_mem (v : OrderUnit) : (s.withOrders v).mem = s.mem := rfl
@[simp] theorem State.withOrders_snap (v : OrderUnit) : (s.withOrders v).snap = s.snap := rfl
@[simp] theorem State.withOrders_rst (v : OrderUnit) : (s.withOrders v).rst = s.rst := rfl
@[simp] theorem State.withOrders_ctxs (v : OrderUnit) : (s.withOrders v).ctxs = s.ctxs := rfl
@[simp] theorem State.withOrders_plan (v : OrderUnit) : (s.withOrders v).plan = s.plan := rfl
@[simp] theorem State.withOrders_table (v : OrderUnit) : (s.withOrders v).table = s.table := rfl
@[simp] theorem State.withOrders_survey (v : OrderUnit) : (s.withOrders v).survey = s.survey := rfl
@[simp] theorem State.withOrders_lanes (v : OrderUnit) : (s.withOrders v).lanes = s.lanes := rfl
@[simp] theorem State.withOrders_startq (v : OrderUnit) : (s.withOrders v).startq = s.startq := rfl
@[simp] theorem State.withOrders_link (v : OrderUnit) : (s.withOrders v).link = s.link := rfl
@[simp] theorem State.withOrders_voice (v : OrderUnit) : (s.withOrders v).voice = s.voice := rfl
@[simp] theorem State.withOrders_lamps (v : OrderUnit) : (s.withOrders v).lamps = s.lamps := rfl
@[simp] theorem State.withOrders_matrix (v : OrderUnit) : (s.withOrders v).matrix = s.matrix := rfl
@[simp] theorem State.withOrders_recs (v : OrderUnit) : (s.withOrders v).recs = s.recs := rfl
@[simp] theorem State.withOrders_orders (v : OrderUnit) : (s.withOrders v).orders = v := rfl
@[simp] theorem State.withOrders_supply (v : OrderUnit) : (s.withOrders v).supply = s.supply := rfl
@[simp] theorem State.withOrders_counters (v : OrderUnit) : (s.withOrders v).counters = s.counters := rfl
@[simp] theorem State.withSupply_pending (v : Supply) : (s.withSupply v).pending = s.pending := rfl
@[simp] theorem State.withSupply_env (v : Supply) : (s.withSupply v).env = s.env := rfl
@[simp] theorem State.withSupply_time (v : Supply) : (s.withSupply v).time = s.time := rfl
@[simp] theorem State.withSupply_tickDue (v : Supply) : (s.withSupply v).tickDue = s.tickDue := rfl
@[simp] theorem State.withSupply_needDue (v : Supply) : (s.withSupply v).needDue = s.needDue := rfl
@[simp] theorem State.withSupply_port (v : Supply) : (s.withSupply v).port = s.port := rfl
@[simp] theorem State.withSupply_mem (v : Supply) : (s.withSupply v).mem = s.mem := rfl
@[simp] theorem State.withSupply_snap (v : Supply) : (s.withSupply v).snap = s.snap := rfl
@[simp] theorem State.withSupply_rst (v : Supply) : (s.withSupply v).rst = s.rst := rfl
@[simp] theorem State.withSupply_ctxs (v : Supply) : (s.withSupply v).ctxs = s.ctxs := rfl
@[simp] theorem State.withSupply_plan (v : Supply) : (s.withSupply v).plan = s.plan := rfl
@[simp] theorem State.withSupply_table (v : Supply) : (s.withSupply v).table = s.table := rfl
@[simp] theorem State.withSupply_survey (v : Supply) : (s.withSupply v).survey = s.survey := rfl
@[simp] theorem State.withSupply_lanes (v : Supply) : (s.withSupply v).lanes = s.lanes := rfl
@[simp] theorem State.withSupply_startq (v : Supply) : (s.withSupply v).startq = s.startq := rfl
@[simp] theorem State.withSupply_link (v : Supply) : (s.withSupply v).link = s.link := rfl
@[simp] theorem State.withSupply_voice (v : Supply) : (s.withSupply v).voice = s.voice := rfl
@[simp] theorem State.withSupply_lamps (v : Supply) : (s.withSupply v).lamps = s.lamps := rfl
@[simp] theorem State.withSupply_matrix (v : Supply) : (s.withSupply v).matrix = s.matrix := rfl
@[simp] theorem State.withSupply_recs (v : Supply) : (s.withSupply v).recs = s.recs := rfl
@[simp] theorem State.withSupply_orders (v : Supply) : (s.withSupply v).orders = s.orders := rfl
@[simp] theorem State.withSupply_supply (v : Supply) : (s.withSupply v).supply = v := rfl
@[simp] theorem State.withSupply_counters (v : Supply) : (s.withSupply v).counters = s.counters := rfl
@[simp] theorem State.withCounters_pending (v : Counters) : (s.withCounters v).pending = s.pending := rfl
@[simp] theorem State.withCounters_env (v : Counters) : (s.withCounters v).env = s.env := rfl
@[simp] theorem State.withCounters_time (v : Counters) : (s.withCounters v).time = s.time := rfl
@[simp] theorem State.withCounters_tickDue (v : Counters) : (s.withCounters v).tickDue = s.tickDue := rfl
@[simp] theorem State.withCounters_needDue (v : Counters) : (s.withCounters v).needDue = s.needDue := rfl
@[simp] theorem State.withCounters_port (v : Counters) : (s.withCounters v).port = s.port := rfl
@[simp] theorem State.withCounters_mem (v : Counters) : (s.withCounters v).mem = s.mem := rfl
@[simp] theorem State.withCounters_snap (v : Counters) : (s.withCounters v).snap = s.snap := rfl
@[simp] theorem State.withCounters_rst (v : Counters) : (s.withCounters v).rst = s.rst := rfl
@[simp] theorem State.withCounters_ctxs (v : Counters) : (s.withCounters v).ctxs = s.ctxs := rfl
@[simp] theorem State.withCounters_plan (v : Counters) : (s.withCounters v).plan = s.plan := rfl
@[simp] theorem State.withCounters_table (v : Counters) : (s.withCounters v).table = s.table := rfl
@[simp] theorem State.withCounters_survey (v : Counters) : (s.withCounters v).survey = s.survey := rfl
@[simp] theorem State.withCounters_lanes (v : Counters) : (s.withCounters v).lanes = s.lanes := rfl
@[simp] theorem State.withCounters_startq (v : Counters) : (s.withCounters v).startq = s.startq := rfl
@[simp] theorem State.withCounters_link (v : Counters) : (s.withCounters v).link = s.link := rfl
@[simp] theorem State.withCounters_voice (v : Counters) : (s.withCounters v).voice = s.voice := rfl
@[simp] theorem State.withCounters_lamps (v : Counters) : (s.withCounters v).lamps = s.lamps := rfl
@[simp] theorem State.withCounters_matrix (v : Counters) : (s.withCounters v).matrix = s.matrix := rfl
@[simp] theorem State.withCounters_recs (v : Counters) : (s.withCounters v).recs = s.recs := rfl
@[simp] theorem State.withCounters_orders (v : Counters) : (s.withCounters v).orders = s.orders := rfl
@[simp] theorem State.withCounters_supply (v : Counters) : (s.withCounters v).supply = s.supply := rfl
@[simp] theorem State.withCounters_counters (v : Counters) : (s.withCounters v).counters = v := rfl

end Sys2Proof.Machine
end

