-- ==== Sys2Proof/Laws/Outer.lean ====
section
/-! SUPPORT. What the call engine, the lane manager, the survey engine, the arbiter, the record writer and the order unit
leave alone, whatever they do: the queue, the outside, the timebase, the open host transaction and the registers of the
port but for attention, the reset in progress, the supply, the configuration and the debouncing of the matrix, and every
byte of memory that the host owns. One lemma for each operation; finish_outer gathers them. -/

namespace Sys2Proof.Machine

/-- A byte that the host alone writes: settings, staging, scratch, and the bodies of the order slots (9.2, R165). -/
def hostByte (a : Nat) : Bool :=
  match placeOf a with
  | .taken => true
  | .slotBody _ => true
  | .dropped => false
  | .slotState _ => false
  | .recordState _ => false

/-- The part of the state that the operations below leave alone. -/
structure Outer where
  pending   : List Instr
  env       : Env
  time      : Timebase
  tickDue   : Bool
  snap      : Option Memory
  rst       : ResetSeq
  supply    : Supply
  port      : Port
  config    : MatrixCfg
  loaded    : Bool
  debounced : BitVec 12
  timers    : Vector (Option Nat) 12
  host      : Nat → Byte

/-- That part of a state. -/
def State.outer (s : State) : Outer :=
  { pending := s.pending, env := s.env, time := s.time, tickDue := s.tickDue, snap := s.snap, rst := s.rst,
    supply := s.supply, port := { s.port with attention := 0 }, config := s.matrix.config, loaded := s.matrix.loaded,
    debounced := s.matrix.debounced, timers := s.matrix.timers,
    host := fun a => if hostByte a then s.mem.read a else 0 }

@[simp] theorem ite_outer (c : Prop) [Decidable c] (a b : State) :
    (if c then a else b).outer = if c then a.outer else b.outer := apply_ite _ _ _ _

theorem foldl_outer {α : Type} (g : State → α → State) (h : ∀ s a, (g s a).outer = s.outer) (l : List α) (s : State) :
    (l.foldl g s).outer = s.outer := by
  induction l generalizing s with
  | nil => rfl
  | cons a l ih => rw [List.foldl_cons, ih, h]

variable (s : State)

@[simp] theorem withCtxs_outer (v) : (s.withCtxs v).outer = s.outer := rfl
@[simp] theorem withPlan_outer (v) : (s.withPlan v).outer = s.outer := rfl
@[simp] theorem withTable_outer (v) : (s.withTable v).outer = s.outer := rfl
@[simp] theorem withSurvey_outer (v) : (s.withSurvey v).outer = s.outer := rfl
@[simp] theorem withLanes_outer (v) : (s.withLanes v).outer = s.outer := rfl
@[simp] theorem withStartq_outer (v) : (s.withStartq v).outer = s.outer := rfl
@[simp] theorem withLink_outer (v) : (s.withLink v).outer = s.outer := rfl
@[simp] theorem withVoice_outer (v) : (s.withVoice v).outer = s.outer := rfl
@[simp] theorem withLamps_outer (v) : (s.withLamps v).outer = s.outer := rfl
@[simp] theorem withRecs_outer (v) : (s.withRecs v).outer = s.outer := rfl
@[simp] theorem withOrders_outer (v) : (s.withOrders v).outer = s.outer := rfl
@[simp] theorem withCounters_outer (v) : (s.withCounters v).outer = s.outer := rfl
@[simp] theorem withNeedDue_outer (v) : (s.withNeedDue v).outer = s.outer := rfl
@[simp] theorem modCtx_outer (n f) : (modCtx n f s).outer = s.outer := rfl
@[simp] theorem modLane_outer (l f) : (modLane l f s).outer = s.outer := rfl
@[simp] theorem modScan_outer (l f) : (modScan l f s).outer = s.outer := rfl
@[simp] theorem modLink_outer (f) : (modLink f s).outer = s.outer := rfl
@[simp] theorem modCounters_outer (f) : (modCounters f s).outer = s.outer := rfl

/-- The memory changes, but not where the host owns it. -/
theorem withMem_outer (m : Memory) (h : ∀ x, hostByte x = true → m.read x = s.mem.read x) :
    (s.withMem m).outer = s.outer := by
  have e : (fun x => if hostByte x then m.read x else 0) = (fun x => if hostByte x then s.mem.read x else 0) := by
    funext x
    by_cases hx : hostByte x = true
    · simp only [hx, if_true, h x hx]
    · simp only [hx, if_false, Bool.false_eq_true]
  show Outer.mk _ _ _ _ _ _ _ _ _ _ _ _ (fun x => if hostByte x then m.read x else 0)
    = Outer.mk _ _ _ _ _ _ _ _ _ _ _ _ (fun x => if hostByte x then s.mem.read x else 0)
  rw [e]
  rfl

/-- Bytes placed where the host owns none leave what the host owns. -/
theorem place_outer (a n : Nat) (bs : List Byte) (h : ∀ x, a ≤ x → x < a + n → hostByte x = false) :
    (s.withMem (s.mem.place a n bs)).outer = s.outer := by
  refine withMem_outer s _ (fun x hx => ?_)
  rw [Memory.read_place]
  by_cases hi : a ≤ x ∧ x < a + n
  · rw [h x hi.1 hi.2] at hx; cases hx
  · rw [if_neg hi]

theorem recordPlace_host (off : Nat) : recordPlace off = .dropped ∨ ∃ i, recordPlace off = .recordState i := by
  unfold recordPlace
  cases finOf 12 (off / 256) with
  | none => exact .inl rfl
  | some i =>
    dsimp only
    by_cases hs : off % 256 = 2
    · rw [if_pos hs]; exact .inr ⟨i, rfl⟩
    · rw [if_neg hs]; exact .inl rfl

theorem placeOf_block (x : Nat) (h : x < Config.slotBase ∨ (Config.laneBase ≤ x ∧ x < Config.scratchBase)) :
    placeOf x = .dropped := by
  have h1 : Config.slotBase < Config.settingsBase := by decide
  have h2 : Config.settingsBase < Config.laneBase := by decide
  unfold placeOf
  rcases h with h | h
  · rw [if_pos h]
  · rw [if_neg (by omega), if_neg (by omega), if_neg (by omega), if_pos (by omega)]

theorem placeOf_record (x : Nat) (h : Config.recordBase ≤ x ∧ x < Config.scratch2Base) :
    placeOf x = recordPlace (x - Config.recordBase) := by
  have h1 : Config.slotBase < Config.settingsBase := by decide
  have h2 : Config.settingsBase < Config.laneBase := by decide
  have h3 : Config.laneBase < Config.scratchBase := by decide
  have h4 : Config.scratchBase < Config.recordBase := by decide
  unfold placeOf
  rw [if_neg (by omega), if_neg (by omega), if_neg (by omega), if_neg (by omega), if_neg (by omega), if_pos (by omega)]

/-- The blocks that the part alone writes: below the order slots, the lane blocks and the mirror, the call records. -/
theorem hostByte_block (x : Nat)
    (h : x < Config.slotBase ∨ (Config.laneBase ≤ x ∧ x < Config.scratchBase)
      ∨ (Config.recordBase ≤ x ∧ x < Config.scratch2Base)) : hostByte x = false := by
  unfold hostByte
  rcases h with h | h | h
  · rw [placeOf_block x (.inl h)]
  · rw [placeOf_block x (.inr h)]
  · rw [placeOf_record x h]
    rcases recordPlace_host (x - Config.recordBase) with e | ⟨i, e⟩ <;> rw [e]

/-- A slot's state byte and its result part are not the host's. -/
theorem hostByte_slot (i : Fin 8) (x : Nat)
    (h : x = slotAddr i ∨ (slotAddr i + 16 ≤ x ∧ x < slotAddr i + 32)) : hostByte x = false := by
  have hi := i.isLt
  have h1 : Config.settingsBase = Config.slotBase + 256 := rfl
  unfold slotAddr at h
  have hq : (x - Config.slotBase) / 32 = i.val := by omega
  have hf : finOf 8 ((x - Config.slotBase) / 32) = some i := by
    rw [hq]; unfold finOf; rw [dif_pos hi]
  unfold hostByte placeOf slotPlace
  rw [if_neg (by omega), if_pos (by omega), hf]
  rcases h with h | h
  · dsimp only
    rw [if_pos (by omega)]
  · dsimp only
    rw [if_neg (by omega), if_neg (by omega)]

/-! ## Ops -/

@[simp] theorem putRecord_outer (i : Fin 12) (r : CallRecord) (s : State) : (putRecord i r s).outer = s.outer := by simp [putRecord]

@[simp] theorem modRecord_outer (n : Cp) (f : CallRecord → CallRecord) (s : State) : (modRecord n f s).outer = s.outer := by
  unfold modRecord; split <;> simp


/-! ## Matrix -/

@[simp] theorem evaluated_config (m : Matrix) : m.evaluated.config = m.config := by
  simp only [Matrix.evaluated, Matrix.computed]
@[simp] theorem evaluated_loaded (m : Matrix) : m.evaluated.loaded = m.loaded := by
  simp only [Matrix.evaluated, Matrix.computed]
@[simp] theorem evaluated_debounced (m : Matrix) : m.evaluated.debounced = m.debounced := by
  simp only [Matrix.evaluated, Matrix.computed]
@[simp] theorem evaluated_timers (m : Matrix) : m.evaluated.timers = m.timers := by
  simp only [Matrix.evaluated, Matrix.computed]
@[simp] theorem evaluated_sources (m : Matrix) : m.evaluated.sources = m.sources := by
  simp only [Matrix.evaluated, Matrix.computed]

/-- Taking a change of a source is nothing, or one evaluation with the source as it now is (R126). -/
theorem takeSource_cases (s : State) (m : Matrix) (c : OuterSource) :
    (m.sources.value c = presentValue s m.config c ∧ takeSource s m c = m)
      ∨ (m.sources.value c ≠ presentValue s m.config c
        ∧ takeSource s m c
            = Matrix.evaluated { m with sources := m.sources.put (presentValue s m.config c) c }) := by
  by_cases h : m.sources.value c = presentValue s m.config c
  · exact .inl ⟨h, if_pos h⟩
  · exact .inr ⟨h, if_neg h⟩

/-- Whatever an evaluation with other sources leaves alone, evalMatrix leaves alone. -/
theorem takeSources_leave {α : Type} (P : Matrix → α) (s : State)
    (h : ∀ (m : Matrix) (v : Sources), P (Matrix.evaluated { m with sources := v }) = P m) (l : List OuterSource)
    (m : Matrix) : P (l.foldl (takeSource s) m) = P m := by
  induction l generalizing m with
  | nil => rfl
  | cons c l ih =>
    rw [List.foldl_cons, ih]
    rcases takeSource_cases s m c with ⟨-, e⟩ | ⟨-, e⟩
    · rw [e]
    · rw [e, h]

/-- The matrix after evalMatrix. -/
theorem evalMatrix_matrix (s : State) : (evalMatrix s).matrix = outerSources.foldl (takeSource s) s.matrix := by
  unfold evalMatrix modMatrix
  rfl

@[simp] theorem evalMatrix_config (s : State) : (evalMatrix s).matrix.config = s.matrix.config := by
  rw [evalMatrix_matrix]; exact takeSources_leave Matrix.config s (fun _ _ => evaluated_config _) _ _
@[simp] theorem evalMatrix_loaded (s : State) : (evalMatrix s).matrix.loaded = s.matrix.loaded := by
  rw [evalMatrix_matrix]; exact takeSources_leave Matrix.loaded s (fun _ _ => evaluated_loaded _) _ _
@[simp] theorem evalMatrix_debounced (s : State) : (evalMatrix s).matrix.debounced = s.matrix.debounced := by
  rw [evalMatrix_matrix]; exact takeSources_leave Matrix.debounced s (fun _ _ => evaluated_debounced _) _ _
@[simp] theorem evalMatrix_timers (s : State) : (evalMatrix s).matrix.timers = s.matrix.timers := by
  rw [evalMatrix_matrix]; exact takeSources_leave Matrix.timers s (fun _ _ => evaluated_timers _) _ _

@[simp] theorem evalMatrix_outer (s : State) : (evalMatrix s).outer = s.outer := by
  simp only [State.outer, evalMatrix_config, evalMatrix_loaded, evalMatrix_debounced, evalMatrix_timers]
  simp only [evalMatrix, modMatrix, State.withMatrix]


/-! ## Flags -/

@[simp] theorem raise_outer (b : Attn) (s : State) : (raise b s).outer = s.outer := by
  unfold raise; split
  · simp only [evalMatrix_outer]; rfl
  · rfl

@[simp] theorem countStale_outer (s : State) : (countStale s).outer = s.outer := by simp [countStale]

@[simp] theorem countDiscarded_outer (s : State) : (countDiscarded s).outer = s.outer := by simp [countDiscarded]

@[simp] theorem countDropped_outer (s : State) : (countDropped s).outer = s.outer := by simp [countDropped]

@[simp] theorem countOverwritten_outer (s : State) : (countOverwritten s).outer = s.outer := by simp [countOverwritten]

@[simp] theorem countTimeout_outer (s : State) : (countTimeout s).outer = s.outer := by simp [countTimeout]

@[simp] theorem countTamper_outer (s : State) : (countTamper s).outer = s.outer := by simp [countTamper]

@[simp] theorem countWindow_outer (s : State) : (countWindow s).outer = s.outer := by simp [countWindow]

@[simp] theorem rewriteStatus_outer (s : State) : (rewriteStatus s).outer = s.outer :=
  place_outer s _ _ _ (fun x _ h => hostByte_block x (.inl (Nat.lt_of_lt_of_le h (by decide))))

@[simp] theorem rewriteStatuses_outer (k : Nat) (s : State) : (rewriteStatuses k s).outer = s.outer := by
  induction k generalizing s with
  | zero => rfl
  | succ k ih => rw [rewriteStatuses, ih, rewriteStatus_outer]

@[simp] theorem flushStatus_outer (s : State) : (flushStatus s).outer = s.outer := by
  unfold flushStatus
  split
  · simp only [ite_outer, rewriteStatus_outer, ite_self]
  · rw [rewriteStatuses_outer]; rfl

@[simp] theorem writeLane_outer (l : Lane) (s : State) : (writeLane l s).outer = s.outer :=
  place_outer s _ _ _ (fun x h1 h2 => hostByte_block x (.inr (.inl
    ⟨Nat.le_trans (Nat.le_add_right _ _) h1, Nat.lt_of_lt_of_le h2 (by cases l <;> decide)⟩)))

@[simp] theorem showLane_outer (l : Lane) (s : State) : (showLane l s).outer = s.outer := by simp [showLane]

@[simp] theorem rewriteLane_outer (l : Lane) (s : State) : (rewriteLane l s).outer = s.outer := by
  unfold rewriteLane
  simp only [ite_outer, raise_outer, writeLane_outer, ite_self]

@[simp] theorem flushLane_outer (l : Lane) (s : State) : (flushLane l s).outer = s.outer := by simp [flushLane]

@[simp] theorem publishBlocks_outer (s : State) : (publishBlocks s).outer = s.outer := by
  simp only [publishBlocks, flushStatus_outer, flushLane_outer]


/-! ## Table -/

@[simp] theorem publishTable_outer (t : List Entry) (s : State) : (publishTable t s).outer = s.outer := by
  unfold publishTable
  simp only [raise_outer]
  exact (place_outer (s.withTable (ordered t)) _ _ _ (fun x h1 h2 => hostByte_block x (.inr (.inl
    ⟨Nat.le_trans (by decide) h1, Nat.lt_of_lt_of_le h2 (by decide)⟩)))).trans (withTable_outer s _)

@[simp] theorem changeEntry_outer (k : CandKey) (f : Entry → Entry) (s : State) : (changeEntry k f s).outer = s.outer := by simp [changeEntry]

@[simp] theorem offer_outer (r : Report) (clearFails : Bool) (s : State) : (offer r clearFails s).outer = s.outer := by
  unfold offer; (repeat' split) <;> simp

@[simp] theorem levelReport_outer (l : Lane) (level : Int) (s : State) : (levelReport l level s).outer = s.outer := by
  unfold levelReport; split <;> simp

@[simp] theorem outcomeToTable_outer (k : Option CandKey) (o : CallOutcome) (s : State) : (outcomeToTable k o s).outer = s.outer := by
  unfold outcomeToTable; split <;> simp

@[simp] theorem removeLanes_outer (named : Lane → Bool) (s : State) : (removeLanes named s).outer = s.outer := by simp [removeLanes]

@[simp] theorem removeLane_outer (l : Lane) (s : State) : (removeLane l s).outer = s.outer := by simp [removeLane]

@[simp] theorem rescoreLane_outer (l : Lane) (s : State) : (rescoreLane l s).outer = s.outer := by simp [rescoreLane]

@[simp] theorem setNoResp_outer (l : Lane) (n : Nat) (s : State) : (setNoResp l n s).outer = s.outer := by simp [setNoResp]


/-! ## Records -/

@[simp] theorem rewriteRecord_outer (i : Fin 12) (s : State) : (rewriteRecord i s).outer = s.outer :=
  place_outer s _ _ _ (fun x h1 h2 => hostByte_block x (.inr (.inr
    ⟨Nat.le_trans (Nat.le_add_right _ _) h1, Nat.lt_of_lt_of_le h2 (by
      unfold recordAddr; have : Config.recordBase + 256 * 11 + recordSize = Config.scratch2Base := rfl
      have := i.isLt; omega)⟩)))

@[simp] theorem flushRecord_outer (n : Cp) (s : State) : (flushRecord n s).outer = s.outer := by
  unfold flushRecord; split <;> simp

@[simp] theorem rewriteOwn_outer (n : Cp) (s : State) : (rewriteOwn n s).outer = s.outer := by
  unfold rewriteOwn; split <;> simp

@[simp] theorem showRecord_outer (n : Cp) (s : State) : (showRecord n s).outer = s.outer := by
  unfold showRecord; split <;> simp

@[simp] theorem publish_outer (s : State) : (publish s).outer = s.outer := by simp [publish]

@[simp] theorem openRecord_outer (n : Cp) (kind : CallKind) (source : CallSource) (s : State) : (openRecord n kind source s).outer = s.outer := by
  unfold openRecord; split <;> simp

@[simp] theorem beginAttempt_outer (n : Cp) (l : Lane) (net : Option Network) (score : Nat) (s : State) : (beginAttempt n l net score s).outer = s.outer := by simp [beginAttempt]

@[simp] theorem endAttempt_outer (n : Cp) (o : CallOutcome) (s : State) : (endAttempt n o s).outer = s.outer := by
  unfold endAttempt; split <;> simp

@[simp] theorem fillAttempt_outer (n : Cp) (net : Network) (score : Nat) (s : State) : (fillAttempt n net score s).outer = s.outer := by simp [fillAttempt]

@[simp] theorem setLast_outer (n : Cp) (o : CallOutcome) (s : State) : (setLast n o s).outer = s.outer := by simp [setLast]

@[simp] theorem setLocation_outer (n : Cp) (v : LocStatus) (s : State) : (setLocation n v s).outer = s.outer := by simp [setLocation]

@[simp] theorem closeRecord_outer (n : Cp) (final : Option CallOutcome) (s : State) : (closeRecord n final s).outer = s.outer := by
  unfold closeRecord; dsimp only; split <;> simp

@[simp] theorem releaseRecord_outer (i : Fin 12) (s : State) : (releaseRecord i s).outer = s.outer := by simp [releaseRecord]

@[simp] theorem countPress_outer (n : Cp) (s : State) : (countPress n s).outer = s.outer := by simp [countPress]

@[simp] theorem countDrop_outer (n : Cp) (s : State) : (countDrop n s).outer = s.outer := by simp [countDrop]


/-! ## Voice -/

@[simp] theorem setState_outer (n : Cp) (st : CtxState) (s : State) : (setState n st s).outer = s.outer := by simp [setState]

@[simp] theorem modBurst_outer (n : Cp) (f : Burst → Burst) (s : State) : (modBurst n f s).outer = s.outer := by simp [modBurst]

@[simp] theorem setMute_outer (n : Cp) (v : Bool) (s : State) : (setMute n v s).outer = s.outer := by simp [setMute]

@[simp] theorem joinPath_outer (n : Cp) (l : Lane) (s : State) : (joinPath n l s).outer = s.outer := by simp [joinPath]

@[simp] theorem abortBurst_outer (n : Cp) (s : State) : (abortBurst n s).outer = s.outer := by simp [abortBurst]

@[simp] theorem breakPath_outer (n : Cp) (s : State) : (breakPath n s).outer = s.outer := by simp [breakPath]


/-! ## Link -/

@[simp] theorem giveUp_outer (p : Transaction → Bool) (s : State) : (giveUp p s).outer = s.outer := by simp [giveUp]

@[simp] theorem giveUpCtx_outer (n : Cp) (s : State) : (giveUpCtx n s).outer = s.outer := by simp [giveUpCtx]

@[simp] theorem giveUpSurvey_outer (l : Lane) (s : State) : (giveUpSurvey l s).outer = s.outer := by simp [giveUpSurvey]

@[simp] theorem giveUpLane_outer (l : Lane) (s : State) : (giveUpLane l s).outer = s.outer := by simp [giveUpLane]

@[simp] theorem setRequest_outer (n : Cp) (q : Option CtxRequest) (s : State) : (setRequest n q s).outer = s.outer := by simp [setRequest]

@[simp] theorem ctxRequest_outer (n : Cp) (kind : OpKind) (args : List Byte) (s : State) : (ctxRequest n kind args s).outer = s.outer := by
  unfold ctxRequest; split <;> simp

@[simp] theorem dropRequest_outer (n : Cp) (s : State) : (dropRequest n s).outer = s.outer := by simp [dropRequest]

@[simp] theorem addMaint_outer (l : Lane) (k : MaintKind) (s : State) : (addMaint l k s).outer = s.outer := by simp [addMaint]

@[simp] theorem dropMaint_outer (l : Lane) (k : MaintKind) (s : State) : (dropMaint l k s).outer = s.outer := by simp [dropMaint]

@[simp] theorem queueScan_outer (l : Lane) (tx : ScanTx) (s : State) : (queueScan l tx s).outer = s.outer := by simp [queueScan]

@[simp] theorem settleWait_outer (s : State) : (settleWait s).outer = s.outer := by simp [settleWait]

@[simp] theorem dropScan_outer (l : Lane) (s : State) : (dropScan l s).outer = s.outer := by simp [dropScan]

@[simp] theorem withdrawLane_outer (l : Lane) (s : State) : (withdrawLane l s).outer = s.outer := by simp [withdrawLane]

@[simp] theorem sendRequest_outer (l : Lane) (code : ReqCode) (who : Requester) (args : List Byte) (holder : Option Owner) (s : State) : (sendRequest l code who args holder s).outer = s.outer := by simp [sendRequest]

@[simp] theorem countWait_outer (s : State) : (countWait s).outer = s.outer := by simp [countWait]

@[simp] theorem performGrant_outer (g : Grant) (s : State) : (performGrant g s).outer = s.outer := by
  unfold performGrant; (repeat' split) <;> simp

@[simp] theorem grantLink_outer (s : State) : (grantLink s).outer = s.outer := by
  unfold grantLink; (repeat' split) <;> simp


/-! ## Lanes -/

@[simp] theorem markLane_outer (l : Lane) (s : State) : (markLane l s).outer = s.outer := by simp [markLane]

@[simp] theorem markAll_outer (s : State) : (markAll s).outer = s.outer := by
  unfold markAll; exact foldl_outer _ (by simp) _ _

@[simp] theorem markNeed_outer (s : State) : (markNeed s).outer = s.outer := by simp [markNeed]

@[simp] theorem joinList_outer (l : Lane) (s : State) : (joinList l s).outer = s.outer := by simp [joinList]

@[simp] theorem leaveList_outer (l : Lane) (s : State) : (leaveList l s).outer = s.outer := by simp [leaveList]

@[simp] theorem dueOnRequest_outer (l : Lane) (s : State) : (dueOnRequest l s).outer = s.outer := by simp [dueOnRequest]

@[simp] theorem dueNow_outer (l : Lane) (s : State) : (dueNow l s).outer = s.outer := by simp [dueNow]

@[simp] theorem dueLater_outer (l : Lane) (s : State) : (dueLater l s).outer = s.outer := by simp [dueLater]

@[simp] theorem dueNever_outer (l : Lane) (s : State) : (dueNever l s).outer = s.outer := by simp [dueNever]

@[simp] theorem tellRequests_outer (l : Lane) (v : ReqStatus) (s : State) : (tellRequests l v s).outer = s.outer := by simp [tellRequests]

@[simp] theorem staleTag_outer (l : Lane) (s : State) : (staleTag l s).outer = s.outer := by simp [staleTag]

@[simp] theorem endScan_outer (l : Lane) (completed : Bool) (s : State) : (endScan l completed s).outer = s.outer := by simp [endScan]

@[simp] theorem scanLost_outer (l : Lane) (s : State) : (scanLost l s).outer = s.outer := by simp [scanLost]

@[simp] theorem considerRing_outer (l : Lane) (s : State) : (considerRing l s).outer = s.outer := by simp [considerRing]

@[simp] theorem startProbe_outer (l : Lane) (s : State) : (startProbe l s).outer = s.outer := by simp [startProbe]

@[simp] theorem stopProbe_outer (l : Lane) (s : State) : (stopProbe l s).outer = s.outer := by simp [stopProbe]

@[simp] theorem setOwner_outer (l : Lane) (o : Owner) (s : State) : (setOwner l o s).outer = s.outer := by simp [setOwner]

@[simp] theorem releaseSurvey_outer (l : Lane) (s : State) : (releaseSurvey l s).outer = s.outer := by simp [releaseSurvey]

@[simp] theorem cutPower_outer (l : Lane) (s : State) : (cutPower l s).outer = s.outer := by simp [cutPower]

@[simp] theorem powerOff_outer (l : Lane) (s : State) : (powerOff l s).outer = s.outer := by simp [powerOff]

@[simp] theorem setLaneState_outer (l : Lane) (st : LaneState) (s : State) : (setLaneState l st s).outer = s.outer := by simp [setLaneState]

@[simp] theorem dequeue_outer (l : Lane) (s : State) : (dequeue l s).outer = s.outer := by simp [dequeue]

@[simp] theorem becomeReady_outer (l : Lane) (s : State) : (becomeReady l s).outer = s.outer := by simp [becomeReady]

@[simp] theorem enqueue_outer (l : Lane) (s : State) : (enqueue l s).outer = s.outer := by simp [enqueue]

@[simp] theorem requeue_outer (l : Lane) (s : State) : (requeue l s).outer = s.outer := by simp [requeue]

@[simp] theorem giveNeed_outer (l : Lane) (s : State) : (giveNeed l s).outer = s.outer := by
  unfold giveNeed; split <;> simp

@[simp] theorem dropNeed_outer (l : Lane) (s : State) : (dropNeed l s).outer = s.outer := by
  unfold dropNeed; split <;> simp

@[simp] theorem needLane_outer (s : State) (l : Lane) : (needLane s l).outer = s.outer := by simp [needLane]

@[simp] theorem needPass_outer (s : State) : (needPass s).outer = s.outer := by
  unfold needPass
  split
  · rw [foldl_outer _ needLane_outer]; simp
  · rfl

@[simp] theorem startLane_outer (l : Lane) (s : State) : (startLane l s).outer = s.outer := by simp [startLane]

@[simp] theorem startNext_outer (s : State) : (startNext s).outer = s.outer := by
  unfold startNext; split <;> simp

@[simp] theorem startRestart_outer (l : Lane) (s : State) : (startRestart l s).outer = s.outer := by simp [startRestart]

@[simp] theorem shutFaulted_outer (l : Lane) (cause : FaultCause) (s : State) : (shutFaulted l cause s).outer = s.outer := by simp [shutFaulted]


/-! ## Survey -/

@[simp] theorem startScan_outer (l : Lane) (s : State) : (startScan l s).outer = s.outer := by simp [startScan]

@[simp] theorem skipLane_outer (l : Lane) (s : State) : (skipLane l s).outer = s.outer := by simp [skipLane]

@[simp] theorem considerLane_outer (s : State) (l : Lane) : (considerLane s l).outer = s.outer := by simp [considerLane]

@[simp] theorem considerAll_outer (s : State) : (considerAll s).outer = s.outer := by
  unfold considerAll
  split
  · dsimp only
    rw [foldl_outer _ considerLane_outer, foldl_outer _ considerLane_outer, publishBlocks_outer]
  · rfl

@[simp] theorem abandonStage_outer (l : Lane) (s : State) : (abandonStage l s).outer = s.outer := by
  unfold abandonStage; split <;> simp

@[simp] theorem abandonScan_outer (l : Lane) (s : State) : (abandonScan l s).outer = s.outer := by simp [abandonScan]

@[simp] theorem finishScan_outer (l : Lane) (completed : Bool) (s : State) : (finishScan l completed s).outer = s.outer := by simp [finishScan]

@[simp] theorem surveyStop_outer (s : State) : (surveyStop s).outer = s.outer := by
  unfold surveyStop; exact foldl_outer _ (by simp) _ _

@[simp] theorem requestDue_outer (q : SurveyReq) (s : State) (l : Lane) : (requestDue q s l).outer = s.outer := by simp [requestDue]

@[simp] theorem requestDues_outer (q : SurveyReq) (s : State) : (requestDues q s).outer = s.outer := by
  unfold requestDues; exact foldl_outer _ (by simp) _ _

@[simp] theorem makeCtxRequest_outer (n : Cp) (named : Lane → Bool) (s : State) : (makeCtxRequest n named s).outer = s.outer := by simp [makeCtxRequest]

@[simp] theorem makeOrderRequest_outer (slot : Fin 8) (named : Lane → Bool) (s : State) : (makeOrderRequest slot named s).outer = s.outer := by simp [makeOrderRequest]

@[simp] theorem dropRescan_outer (n : Cp) (s : State) : (dropRescan n s).outer = s.outer := by simp [dropRescan]

@[simp] theorem dropOrderRequest_outer (slot : Fin 8) (s : State) : (dropOrderRequest slot s).outer = s.outer := by simp [dropOrderRequest]

@[simp] theorem sweepLane_outer (s : State) (l : Lane) : (sweepLane s l).outer = s.outer := by simp [sweepLane]

@[simp] theorem skipSweep_outer (s : State) : (skipSweep s).outer = s.outer := by
  unfold skipSweep; exact foldl_outer _ (by simp) _ _


/-! ## Calls -/

@[simp] theorem releaseClaim_outer (n : Cp) (s : State) : (releaseClaim n s).outer = s.outer := by
  unfold releaseClaim; split <;> simp

@[simp] theorem takeLane_outer (n : Cp) (l : Lane) (s : State) : (takeLane n l s).outer = s.outer := by simp [takeLane]

@[simp] theorem clearPendingClaim_outer (n : Cp) (s : State) : (clearPendingClaim n s).outer = s.outer := by simp [clearPendingClaim]

@[simp] theorem staleClaim_outer (n : Cp) (s : State) : (staleClaim n s).outer = s.outer := by
  unfold staleClaim; split <;> simp

@[simp] theorem setCamp_outer (l : Lane) (v : Option Network) (s : State) : (setCamp l v s).outer = s.outer := by simp [setCamp]

@[simp] theorem clearCamp_outer (n : Cp) (s : State) : (clearCamp n s).outer = s.outer := by
  unfold clearCamp; split <;> simp

@[simp] theorem stopStep_outer (n : Cp) (s : State) : (stopStep n s).outer = s.outer := by simp [stopStep]

@[simp] theorem startStep_outer (n : Cp) (d : Nat) (s : State) : (startStep n d s).outer = s.outer := by simp [startStep]

@[simp] theorem stepMove_outer (n : Cp) (target : Option Nat) (s : State) : (stepMove n target s).outer = s.outer := by simp [stepMove]

@[simp] theorem joinTried_outer (n : Cp) (s : State) : (joinTried n s).outer = s.outer := by simp [joinTried]

@[simp] theorem classStep_outer (n : Cp) (o : CallOutcome) (s : State) : (classStep n o s).outer = s.outer := by
  unfold classStep; split <;> simp

@[simp] theorem leaveConnected_outer (n : Cp) (s : State) : (leaveConnected n s).outer = s.outer := by simp [leaveConnected]

@[simp] theorem enterClearing_outer (n : Cp) (pend : Option CallOutcome) (s : State) : (enterClearing n pend s).outer = s.outer := by simp [enterClearing]

@[simp] theorem replacePending_outer (n : Cp) (o : CallOutcome) (s : State) : (replacePending n o s).outer = s.outer := by
  unfold replacePending; split <;> simp

@[simp] theorem stopTimers_outer (n : Cp) (s : State) : (stopTimers n s).outer = s.outer := by simp [stopTimers]

@[simp] theorem toIdle_outer (n : Cp) (final : Option CallOutcome) (s : State) : (toIdle n final s).outer = s.outer := by simp [toIdle]

@[simp] theorem endWatch_outer (n : Cp) (s : State) : (endWatch n s).outer = s.outer := by simp [endWatch]

@[simp] theorem endCall_outer (n : Cp) (o : CallOutcome) (s : State) : (endCall n o s).outer = s.outer := by simp [endCall]

@[simp] theorem restartWatch_outer (n : Cp) (s : State) : (restartWatch n s).outer = s.outer := by simp [restartWatch]

@[simp] theorem startCall_outer (n : Cp) (kind : CallKind) (source : CallSource) (number : Option (Fin 4)) (hold : Bool) (s : State) : (startCall n kind source number hold s).outer = s.outer := by simp [startCall]

@[simp] theorem takeRequest_outer (n : Cp) (kind : CallKind) (source : CallSource) (number : Option (Fin 4)) (hold : Bool) (s : State) : (takeRequest n kind source number hold s).outer = s.outer := by simp [takeRequest]

@[simp] theorem startEmergency_outer (n : Cp) (s : State) : (startEmergency n s).outer = s.outer := by simp [startEmergency]

@[simp] theorem finishTeardown_outer (n : Cp) (o : CallOutcome) (s : State) : (finishTeardown n o s).outer = s.outer := by simp [finishTeardown]

@[simp] theorem teardown_outer (n : Cp) (o : CallOutcome) (s : State) : (teardown n o s).outer = s.outer := by
  unfold teardown; split <;> simp

@[simp] theorem preemptOwn_outer (n : Cp) (s : State) : (preemptOwn n s).outer = s.outer := by simp [preemptOwn]

@[simp] theorem refuseSupply_outer (n : Cp) (s : State) : (refuseSupply n s).outer = s.outer := by simp [refuseSupply]

@[simp] theorem settleOutcome_outer (n : Cp) (o : CallOutcome) (s : State) : (settleOutcome n o s).outer = s.outer := by simp [settleOutcome]

@[simp] theorem applyOutcome_outer (n : Cp) (o : CallOutcome) (s : State) : (applyOutcome n o s).outer = s.outer := by simp [applyOutcome]

@[simp] theorem clearingOutcome_outer (n : Cp) (o : CallOutcome) (s : State) : (clearingOutcome n o s).outer = s.outer := by simp [clearingOutcome]

@[simp] theorem leaveClearing_outer (n : Cp) (s : State) : (leaveClearing n s).outer = s.outer := by
  unfold leaveClearing; dsimp only; (repeat' split) <;> simp

@[simp] theorem dequeueClaim_outer (n : Cp) (s : State) : (dequeueClaim n s).outer = s.outer := by
  unfold dequeueClaim; split <;> simp

@[simp] theorem cancel_outer (n : Cp) (byOrder : Bool) (s : State) : (cancel n byOrder s).outer = s.outer := by
  unfold cancel; split <;> simp

@[simp] theorem endPauseStep_outer (n : Cp) (s : State) : (endPauseStep n s).outer = s.outer := by simp [endPauseStep]

@[simp] theorem endRetryPause_outer (n : Cp) (s : State) : (endRetryPause n s).outer = s.outer := by simp [endRetryPause]

@[simp] theorem endPause_outer (n : Cp) (s : State) : (endPause n s).outer = s.outer := by simp [endPause]

@[simp] theorem endSurveyWait_outer (n : Cp) (s : State) : (endSurveyWait n s).outer = s.outer := by simp [endSurveyWait]

@[simp] theorem startDial_outer (n : Cp) (s : State) : (startDial n s).outer = s.outer := by simp [startDial]

@[simp] theorem startAttach_outer (n : Cp) (op : OpCode) (mask : BitVec 4) (s : State) : (startAttach n op mask s).outer = s.outer := by simp [startAttach]

@[simp] theorem proceedOnReady_outer (n : Cp) (l : Lane) (s : State) : (proceedOnReady n l s).outer = s.outer := by
  unfold proceedOnReady; split <;> simp

@[simp] theorem sendGroup_outer (n : Cp) (s : State) : (sendGroup n s).outer = s.outer := by simp [sendGroup]

@[simp] theorem beginBurst_outer (n : Cp) (s : State) : (beginBurst n s).outer = s.outer := by simp [beginBurst]

@[simp] theorem endBurst_outer (n : Cp) (s : State) : (endBurst n s).outer = s.outer := by simp [endBurst]

@[simp] theorem recordConnect_outer (n : Cp) (s : State) : (recordConnect n s).outer = s.outer := by simp [recordConnect]

@[simp] theorem connect_outer (n : Cp) (s : State) : (connect n s).outer = s.outer := by
  unfold connect; split <;> simp

@[simp] theorem connectCallback_outer (n : Cp) (s : State) : (connectCallback n s).outer = s.outer := by
  unfold connectCallback; split <;> simp

@[simp] theorem redial_outer (n : Cp) (l : Lane) (s : State) : (redial n l s).outer = s.outer := by simp [redial]

@[simp] theorem lostPlaced_outer (n : Cp) (s : State) : (lostPlaced n s).outer = s.outer := by
  unfold lostPlaced; split <;> simp

@[simp] theorem lostCallback_outer (n : Cp) (s : State) : (lostCallback n s).outer = s.outer := by simp [lostCallback]

@[simp] theorem remoteCleared_outer (n : Cp) (s : State) : (remoteCleared n s).outer = s.outer := by simp [remoteCleared]

@[simp] theorem callLost_outer (n : Cp) (s : State) : (callLost n s).outer = s.outer := by
  unfold callLost; split <;> simp

@[simp] theorem ring_outer (n : Cp) (s : State) : (ring n s).outer = s.outer := by simp [ring]

@[simp] theorem answerRing_outer (n : Cp) (s : State) : (answerRing n s).outer = s.outer := by simp [answerRing]

@[simp] theorem ringEnds_outer (n : Cp) (s : State) : (ringEnds n s).outer = s.outer := by simp [ringEnds]

@[simp] theorem serviceLost_outer (n : Cp) (s : State) : (serviceLost n s).outer = s.outer := by
  unfold serviceLost; split <;> simp

@[simp] theorem clearedRemote_outer (n : Cp) (s : State) : (clearedRemote n s).outer = s.outer := by
  unfold clearedRemote; split <;> simp

@[simp] theorem faultByState_outer (n : Cp) (s : State) : (faultByState n s).outer = s.outer := by
  unfold faultByState; split <;> simp

@[simp] theorem tellFault_outer (n : Cp) (l : Lane) (s : State) : (tellFault n l s).outer = s.outer := by simp [tellFault]

@[simp] theorem faultLane_outer (l : Lane) (cause : FaultCause) (s : State) : (faultLane l cause s).outer = s.outer := by simp [faultLane]


/-! ## Evaluate -/

@[simp] theorem startAttempt_outer (n : Cp) (p : Pick) (s : State) : (startAttempt n p s).outer = s.outer := by simp [startAttempt]

@[simp] theorem waitForPreempted_outer (n : Cp) (p : Pick) (s : State) : (waitForPreempted n p s).outer = s.outer := by simp [waitForPreempted]

@[simp] theorem claimAndGo_outer (n : Cp) (p : Pick) (s : State) : (claimAndGo n p s).outer = s.outer := by simp [claimAndGo]

@[simp] theorem enterPause_outer (n : Cp) (wait : Nat) (s : State) : (enterPause n wait s).outer = s.outer := by simp [enterPause]

@[simp] theorem reachEnd_outer (n : Cp) (s : State) : (reachEnd n s).outer = s.outer := by
  unfold reachEnd; dsimp only; split <;> simp

/-- The state an evaluation has come to. -/
def Evaluated.state : Evaluated → State
  | .done s => s
  | .move s _ => s

@[simp] theorem refuseNumber_outer (n : Cp) (a : AttemptStep) (p : Pick) (s : State) :
    (refuseNumber n a p s).state.outer = s.outer := by
  unfold refuseNumber; dsimp only; split <;> simp [Evaluated.state]

@[simp] theorem actOn_outer (n : Cp) (a : AttemptStep) (num : NumberEntry) (p : Option Pick) (s : State) :
    (actOn n a num p s).state.outer = s.outer := by
  unfold actOn
  cases p with
  | none => rfl
  | some p =>
    dsimp only
    split
    · exact refuseNumber_outer n a p s
    · split <;> simp [Evaluated.state]

@[simp] theorem enterRescan_outer (n : Cp) (wait : Nat) (s : State) : (enterRescan n wait s).state.outer = s.outer := by
  unfold enterRescan; dsimp only; split <;> simp [Evaluated.state]

@[simp] theorem evalStep_outer (n : Cp) (s : State) : (evalStep n s).state.outer = s.outer := by
  unfold evalStep
  dsimp only
  split
  · exact reachEnd_outer n s
  · split
    · exact reachEnd_outer n s
    · exact reachEnd_outer n s
    · exact enterPause_outer n _ s
    · exact enterRescan_outer n _ s
    · exact actOn_outer n _ _ _ _
    · exact actOn_outer n _ _ _ _

@[simp] theorem evalLoop_outer (n : Cp) (k : Nat) (s : State) : (evalLoop n k s).outer = s.outer := by
  induction k generalizing s with
  | zero =>
    have h := evalStep_outer n s
    unfold evalLoop
    cases e : evalStep n s <;> simp [e, Evaluated.state] at h ⊢ <;> exact h
  | succ k ih =>
    have h := evalStep_outer n s
    unfold evalLoop
    cases e : evalStep n s <;> simp [e, Evaluated.state] at h ⊢
    · exact h
    · rw [ih]; simpa using h

@[simp] theorem evaluate_outer (n : Cp) (s : State) : (evaluate n s).outer = s.outer := by
  unfold evaluate; split <;> simp


/-! ## Operands -/

@[simp] theorem setSlotState_outer (i : Fin 8) (b : Byte) (s : State) : (setSlotState i b s).outer = s.outer :=
  place_outer s _ _ _ (fun x h1 h2 => hostByte_slot i x (by omega))

@[simp] theorem completeOrder_outer (i : Fin 8) (r : ResultCode) (detail : List Byte) (s : State) :
    (completeOrder i r detail s).outer = s.outer := by
  have h : (s.withMem (s.mem.place (slotAddr i + 16) 16 ([r.code, 0] ++ detail))).outer = s.outer :=
    place_outer s _ _ _ (fun x h1 h2 => hostByte_slot i x (by omega))
  unfold completeOrder
  simp only [raise_outer, withOrders_outer, setSlotState_outer, h]

@[simp] theorem takeOrder_outer (i : Fin 8) (s : State) : (takeOrder i s).outer = s.outer := by simp [takeOrder]

@[simp] theorem waitOrder_outer (i : Fin 8) (w : Wait) (s : State) : (waitOrder i w s).outer = s.outer := by simp [waitOrder]


/-! ## Settle -/

@[simp] theorem proceed_outer (n : Cp) (s : State) : (proceed n s).outer = s.outer := by
  unfold proceed; (repeat' split) <;> simp

@[simp] theorem leaveSurveyWait_outer (n : Cp) (s : State) : (leaveSurveyWait n s).outer = s.outer := by simp [leaveSurveyWait]

@[simp] theorem completeSurvey_outer (s : State) (x : Fin 8 × SurveyReq) : (completeSurvey s x).outer = s.outer := by simp [completeSurvey]

@[simp] theorem completeSurveys_outer (s : State) : (completeSurveys s).outer = s.outer := by
  unfold completeSurveys; exact foldl_outer _ (by simp) _ _

@[simp] theorem activatePlan_outer (s : State) : (activatePlan s).outer = s.outer := by
  unfold activatePlan; (repeat' split) <;> simp

@[simp] theorem round_outer (s : State) : (round s).outer = s.outer := by
  unfold round
  rw [activatePlan_outer, completeSurveys_outer, leaveSurveyWait_outer, leaveSurveyWait_outer, considerAll_outer,
    skipSweep_outer, proceed_outer, proceed_outer, startNext_outer, needPass_outer, evaluate_outer, evaluate_outer]

@[simp] theorem settleRounds_outer (k : Nat) (s : State) : (settleRounds k s).outer = s.outer := by
  induction k generalizing s with
  | zero => rfl
  | succ k ih =>
    unfold settleRounds
    split
    · rw [ih]; exact round_outer s
    · rfl

@[simp] theorem settle_outer (s : State) : (settle s).outer = s.outer := settleRounds_outer _ s

@[simp] theorem finish_outer (s : State) : (finish s).outer = s.outer := by simp [finish]


end Sys2Proof.Machine
end

