-- ==== Sys2Proof/Laws/Inner.lean ====
section
/-! SUPPORT. What the commands' operations leave alone, beyond those of Sys2Proof/Laws/Outer.lean: the queue, the outside,
the timebase, the open transaction, pointers and mask of the host port, the matrix's configuration, and every byte of
memory that the host owns. Operations that do change one of these (SET_TIME, LOAD_MATRIX, a write by the host, a pin, a
second, power-on) have no lemma here. -/

namespace Sys2Proof.Machine

/-- The part of the state that only a few commands change. -/
structure Inner where
  pending : List Instr
  env     : Env
  time    : Timebase
  txn     : Option HostTxn
  ptrA    : BitVec 13
  ptrB    : BitVec 13
  mask    : Byte
  hsdo    : Byte
  config  : MatrixCfg
  loaded  : Bool
  host    : Nat → Byte

/-- That part of what Outer holds. -/
def Outer.inner (o : Outer) : Inner :=
  { pending := o.pending, env := o.env, time := o.time, txn := o.port.txn, ptrA := o.port.ptrA, ptrB := o.port.ptrB,
    mask := o.port.mask, hsdo := o.port.hsdo, config := o.config, loaded := o.loaded, host := o.host }

@[simp] theorem ite_inner (c : Prop) [Decidable c] (a b : State) :
    (if c then a else b).outer.inner = if c then a.outer.inner else b.outer.inner :=
  apply_ite (fun s : State => s.outer.inner) _ _ _

theorem foldl_inner {α : Type} (g : State → α → State) (h : ∀ s a, (g s a).outer.inner = s.outer.inner) (l : List α)
    (s : State) : (l.foldl g s).outer.inner = s.outer.inner := by
  induction l generalizing s with
  | nil => rfl
  | cons a l ih => rw [List.foldl_cons, ih, h]

section
variable (s : State)
@[simp] theorem withSupply_inner (v) : (s.withSupply v).outer.inner = s.outer.inner := rfl
@[simp] theorem withRst_inner (v) : (s.withRst v).outer.inner = s.outer.inner := rfl
@[simp] theorem withSnap_inner (v) : (s.withSnap v).outer.inner = s.outer.inner := rfl
@[simp] theorem withTickDue_inner (v) : (s.withTickDue v).outer.inner = s.outer.inner := rfl
@[simp] theorem modSupply_inner (f) : (modSupply f s).outer.inner = s.outer.inner := rfl
theorem modMatrix_inner (f : Matrix → Matrix) (h1 : (f s.matrix).config = s.matrix.config)
    (h2 : (f s.matrix).loaded = s.matrix.loaded) : (modMatrix f s).outer.inner = s.outer.inner := by
  show Inner.mk _ _ _ _ _ _ _ _ (f s.matrix).config (f s.matrix).loaded _ = _
  rw [h1, h2]
  rfl
@[simp] theorem baselineMatrix_inner : (baselineMatrix s).outer.inner = s.outer.inner := by
  unfold baselineMatrix
  rw [modMatrix_inner] <;> simp only [Matrix.computed]
@[simp] theorem restartMatrix_inner : (restartMatrix s).outer.inner = s.outer.inner := by
  unfold restartMatrix
  rw [modMatrix_inner, baselineMatrix_inner, modMatrix_inner] <;> dsimp only
theorem modPort_inner (f : Port → Port) (h1 : (f s.port).txn = s.port.txn) (h2 : (f s.port).ptrA = s.port.ptrA)
    (h3 : (f s.port).ptrB = s.port.ptrB) (h4 : (f s.port).mask = s.port.mask) (h5 : (f s.port).hsdo = s.port.hsdo) :
    (modPort f s).outer.inner = s.outer.inner := by
  show Inner.mk _ _ _ (f s.port).txn (f s.port).ptrA (f s.port).ptrB (f s.port).mask (f s.port).hsdo _ _ _ = _
  rw [h1, h2, h3, h4, h5]
  rfl
end

/-! ## Supply -/

@[simp] theorem takeReadings_inner (plain : Bool) (battery temperature : BitVec 16) (s : State) : (takeReadings plain battery temperature s).outer.inner = s.outer.inner := by simp [takeReadings]

@[simp] theorem rereadStandby_inner (s : State) (l : Lane) : (rereadStandby s l).outer.inner = s.outer.inner := by simp [rereadStandby]

@[simp] theorem levelChanged_inner (wasStopped : Bool) (s : State) : (levelChanged wasStopped s).outer.inner = s.outer.inner := by simp [levelChanged]

@[simp] theorem measure_inner (battery temperature : BitVec 16) (s : State) :
    (measure battery temperature s).outer.inner = s.outer.inner := by
  have h : ∀ u : State, (lanes.foldl rereadStandby u).outer.inner = u.outer.inner := foldl_inner _ rereadStandby_inner _
  unfold measure; dsimp only; split <;> simp [h]

@[simp] theorem changePower_inner (p : PowerState) (s : State) : (changePower p s).outer.inner = s.outer.inner := by simp [changePower]

@[simp] theorem enterDormant_inner (s : State) : (enterDormant s).outer.inner = s.outer.inner := by simp [enterDormant]

@[simp] theorem leaveDormant_inner (s : State) : (leaveDormant s).outer.inner = s.outer.inner := by
  unfold leaveDormant; split <;> simp

@[simp] theorem wake_inner (s : State) : (wake s).outer.inner = s.outer.inner := by
  unfold wake; split <;> simp

@[simp] theorem callByState_inner (n : Cp) (s : State) : (callByState n s).outer.inner = s.outer.inner := by
  unfold callByState; split <;> simp

@[simp] theorem callTaken_inner (n : Cp) (s : State) : (callTaken n s).outer.inner = s.outer.inner := by simp [callTaken]

@[simp] theorem unraise_inner (f : TrigFn) (s : State) : (unraise f s).outer.inner = s.outer.inner := rfl

@[simp] theorem hold_inner (f : TrigFn) (s : State) : (hold f s).outer.inner = s.outer.inner := by
  unfold hold; split <;> rfl


/-! ## HostPort -/

@[simp] theorem setCap_inner (w : Window) (v : Option Byte) (s : State) :
    (setCap w v s).outer.inner = s.outer.inner := by
  unfold setCap; split <;> rfl

@[simp] theorem dropWrite_inner (s : State) : (dropWrite s).outer.inner = s.outer.inner := by simp [dropWrite]

@[simp] theorem writeSlotState_inner (i : Fin 8) (b : Byte) (s : State) : (writeSlotState i b s).outer.inner = s.outer.inner := by
  unfold writeSlotState; (repeat' split) <;> simp

@[simp] theorem writeRecordState_inner (i : Fin 12) (b : Byte) (s : State) : (writeRecordState i b s).outer.inner = s.outer.inner := by
  unfold writeRecordState; split <;> simp


/-! ## Resets -/

@[simp] theorem evenAll_inner (s : State) : (evenAll s).outer.inner = s.outer.inner := by
  have even : ∀ (m : Memory) (base : Nat), (∀ x, base ≤ x → x < base + 2 → hostByte x = false) →
      ∀ x, hostByte x = true → (m.makeEven base).read x = m.read x := by
    intro m base hb x hx
    unfold Memory.makeEven
    split
    · rw [Memory.read_place]
      by_cases hi : base ≤ x ∧ x < base + 2
      · rw [hb x hi.1 hi.2] at hx; cases hx
      · rw [if_neg hi]
    · rfl
  have fold : ∀ (ls : List Lane) (m : Memory), ∀ x, hostByte x = true →
      (ls.foldl (fun m l => m.makeEven (laneAddr l)) m).read x = m.read x := by
    intro ls
    induction ls with
    | nil => exact fun m x _ => rfl
    | cons l ls ih =>
      intro m x hx
      rw [List.foldl_cons, ih _ x hx]
      exact even m _ (fun y h1 h2 => hostByte_block y (.inr (.inl
        ⟨Nat.le_trans (Nat.le_add_right _ _) h1, Nat.lt_of_lt_of_le h2 (by cases l <;> decide)⟩))) x hx
  have status := even s.mem Config.statusBase
    (fun y _ h => hostByte_block y (.inl (Nat.lt_of_lt_of_le h (by decide))))
  have mirror := even (s.mem.makeEven Config.statusBase) Config.mirrorBase
    (fun y h1 h2 => hostByte_block y (.inr (.inl ⟨Nat.le_trans (by decide) h1, Nat.lt_of_lt_of_le h2 (by decide)⟩)))
  exact congrArg Outer.inner (withMem_outer s _ (fun x hx => (fold _ _ x hx).trans ((mirror x hx).trans (status x hx))))

@[simp] theorem evenRecord_inner (i : Fin 12) (s : State) : (evenRecord i s).outer.inner = s.outer.inner := by
  unfold evenRecord Memory.makeEven
  split
  · rw [place_outer]
    exact fun y h1 h2 => hostByte_block y (.inr (.inr ⟨Nat.le_trans (Nat.le_add_right _ _) h1, Nat.lt_of_lt_of_le h2 (by
      unfold recordAddr; have : Config.recordBase + 256 * 11 + 256 = Config.scratch2Base := rfl
      have := i.isLt; omega)⟩))
  · rfl

@[simp] theorem mendRecord_inner (s : State) (i : Fin 12) : (mendRecord s i).outer.inner = s.outer.inner := by
  unfold mendRecord; split <;> simp

@[simp] theorem evenOwn_inner (n : Cp) (s : State) : (evenOwn n s).outer.inner = s.outer.inner := by
  unfold evenOwn; split <;> simp

@[simp] theorem closeForReset_inner (n : Cp) (s : State) : (closeForReset n s).outer.inner = s.outer.inner := by simp [closeForReset]

@[simp] theorem resetContexts_inner (s : State) : (resetContexts s).outer.inner = s.outer.inner := by
  unfold resetContexts; exact foldl_inner _ (by simp) _ _

@[simp] theorem abortSlot_inner (s : State) (i : Fin 8) : (abortSlot s i).outer.inner = s.outer.inner := by simp [abortSlot]

@[simp] theorem resetOrders_inner (s : State) : (resetOrders s).outer.inner = s.outer.inner := by
  unfold resetOrders; rw [withOrders_outer, foldl_inner _ abortSlot_inner]

@[simp] theorem resetBlocks_inner (s : State) : (resetBlocks s).outer.inner = s.outer.inner := by simp [resetBlocks]

@[simp] theorem resetSupply_inner (s : State) : (resetSupply s).outer.inner = s.outer.inner := by
  unfold resetSupply; dsimp only; rw [takeReadings_inner, modSupply_inner]

@[simp] theorem resetMatrix_inner (s : State) : (resetMatrix s).outer.inner = s.outer.inner := by
  unfold resetMatrix; dsimp only; rw [withRst_inner, restartMatrix_inner]

@[simp] theorem beginReset_inner (cause : ResetCause) (needRise : Bool) (s : State) :
    (beginReset cause needRise s).outer.inner = s.outer.inner := rfl

@[simp] theorem partReset_inner (cause : ResetCause) (needRise : Bool) (s : State) :
    (partReset cause needRise s).outer.inner = s.outer.inner := by
  unfold partReset
  dsimp only
  rw [rewriteStatus_outer, resetMatrix_inner, resetSupply_inner, resetOrders_inner,
    foldl_inner _ (fun s l => by rw [rewriteLane_outer]), withLink_outer, resetBlocks_inner, publishTable_outer,
    withPlan_outer, foldl_inner _ mendRecord_inner, resetContexts_inner, evenAll_inner, beginReset_inner]

@[simp] theorem takeFound_inner (s : State) (n : Cp) : (takeFound s n).outer.inner = s.outer.inner := by
  unfold takeFound; split <;> simp

@[simp] theorem completeReset_inner (s : State) : (completeReset s).outer.inner = s.outer.inner := by
  unfold completeReset
  split
  · dsimp only
    rw [withRst_inner, takeFound_inner, takeFound_inner, evalMatrix_outer, modPort_inner _ _ rfl rfl rfl rfl rfl,
      rewriteStatus_outer, withRst_inner, withCounters_outer]
  · rfl


/-! ## Orders -/

@[simp] theorem takeRow_inner (row : OrderRow) (act : Fin 8 → State → State) (s : State)
    (hp : ∀ i s, (act i s).outer.inner = s.outer.inner) : (takeRow row act s).outer.inner = s.outer.inner := by
  unfold takeRow
  split
  · rfl
  · split
    · rw [finish_outer]; split <;> simp [hp]
    · rfl

@[simp] theorem orderOk_inner (i : Fin 8) (s : State) : (orderOk i s).outer.inner = s.outer.inner := by simp [orderOk]

@[simp] theorem orderBusy_inner (i : Fin 8) (s : State) : (orderBusy i s).outer.inner = s.outer.inner := by simp [orderBusy]

@[simp] theorem placeCall_inner (i : Fin 8) (s : State) : (placeCall i s).outer.inner = s.outer.inner := by
  unfold placeCall; dsimp only; (repeat' split) <;> simp

@[simp] theorem cancelCall_inner (i : Fin 8) (s : State) : (cancelCall i s).outer.inner = s.outer.inner := by
  unfold cancelCall; dsimp only; split <;> simp

@[simp] theorem continueCall_inner (i : Fin 8) (s : State) : (continueCall i s).outer.inner = s.outer.inner := by
  unfold continueCall; dsimp only; split <;> simp

@[simp] theorem loadPlan_inner (i : Fin 8) (s : State) : (loadPlan i s).outer.inner = s.outer.inner := by
  unfold loadPlan; (repeat' split) <;> simp

@[simp] theorem takeAtLoad_inner (calls : Duo Bool) (s : State) (n : Cp) : (takeAtLoad calls s n).outer.inner = s.outer.inner := by
  unfold takeAtLoad; split <;> simp

@[simp] theorem surveyNow_inner (i : Fin 8) (s : State) : (surveyNow i s).outer.inner = s.outer.inner := by simp [surveyNow]

@[simp] theorem forgetCandidates_inner (i : Fin 8) (s : State) : (forgetCandidates i s).outer.inner = s.outer.inner := by simp [forgetCandidates]

@[simp] theorem beginIdent_inner (l : Lane) (s : State) : (beginIdent l s).outer.inner = s.outer.inner := by simp [beginIdent]

@[simp] theorem takeFromSurvey_inner (l : Lane) (s : State) : (takeFromSurvey l s).outer.inner = s.outer.inner := by simp [takeFromSurvey]

@[simp] theorem laneReset_inner (i : Fin 8) (s : State) : (laneReset i s).outer.inner = s.outer.inner := by
  unfold laneReset; dsimp only; split <;> simp

@[simp] theorem laneForceOff_inner (i : Fin 8) (s : State) : (laneForceOff i s).outer.inner = s.outer.inner := by
  unfold laneForceOff; dsimp only; (repeat' split) <;> simp

@[simp] theorem laneAuto_inner (i : Fin 8) (s : State) : (laneAuto i s).outer.inner = s.outer.inner := by
  unfold laneAuto; dsimp only; split <;> simp

@[simp] theorem setPower_inner (i : Fin 8) (s : State) : (setPower i s).outer.inner = s.outer.inner := by
  unfold setPower; dsimp only; (repeat' split) <;> simp

@[simp] theorem setPowerDormant_inner (i : Fin 8) (s : State) : (setPowerDormant i s).outer.inner = s.outer.inner := by
  unfold setPowerDormant; (repeat' split) <;> simp

@[simp] theorem clearCounts_inner (i : Fin 8) (s : State) : (clearCounts i s).outer.inner = s.outer.inner := by simp [clearCounts]

@[simp] theorem giveUpWait_inner (i : Fin 8) (s : State) : (giveUpWait i s).outer.inner = s.outer.inner := by
  unfold giveUpWait; split <;> simp


/-! ## Triggers -/

@[simp] theorem setDebounce_inner (i : Fin 12) (t : Option Nat) (s : State) : (setDebounce i t s).outer.inner = s.outer.inner := rfl

@[simp] theorem takeLevel_inner (i : Fin 12) (s : State) : (takeLevel i s).outer.inner = s.outer.inner := by
  unfold takeLevel; rw [modMatrix_inner] <;> simp

@[simp] theorem pinChanged_inner (i : Fin 12) (s : State) : (pinChanged i s).outer.inner = s.outer.inner := by
  unfold pinChanged; (repeat' split) <;> simp

@[simp] theorem takeEvent_inner (f : TrigFn) (act : State → State) (s : State)
    (hp : ∀ s, (act s).outer.inner = s.outer.inner) : (takeEvent f act s).outer.inner = s.outer.inner := by
  unfold takeEvent; split <;> simp [hp]


/-! ## CallTimers -/

@[simp] theorem onEvent_inner (occurs : Bool) (act : State → State) (s : State)
    (hp : ∀ s, (act s).outer.inner = s.outer.inner) : (onEvent occurs act s).outer.inner = s.outer.inner := by
  unfold onEvent; split <;> simp [hp]

@[simp] theorem onChange_inner (occurs : Bool) (act : State → State) (s : State)
    (hp : ∀ s, (act s).outer.inner = s.outer.inner) : (onChange occurs act s).outer.inner = s.outer.inner := by
  unfold onChange; split <;> simp [hp]

@[simp] theorem modLamps_inner (n : Cp) (f : Lamps → Lamps) (s : State) : (modLamps n f s).outer.inner = s.outer.inner := by simp [modLamps]


/-! ## LaneEvents -/

@[simp] theorem dialFailed_inner (n : Cp) (cause : Nat) (s : State) : (dialFailed n cause s).outer.inner = s.outer.inner := by simp [dialFailed]

@[simp] theorem directAttached_inner (n : Cp) (l : Lane) (a : AttemptStep) (r : Report) (s : State) : (directAttached n l a r s).outer.inner = s.outer.inner := by simp [directAttached]

@[simp] theorem attachBad_inner (n : Cp) (l : Lane) (o : CallOutcome) (s : State) : (attachBad n l o s).outer.inner = s.outer.inner := by simp [attachBad]

@[simp] theorem candAttached_inner (n : Cp) (l : Lane) (k : CandKey) (level : Int) (r : AttachReport) (s : State) : (candAttached n l k level r s).outer.inner = s.outer.inner := by
  unfold candAttached; (repeat' split) <;> simp

@[simp] theorem laneAttached_inner (n : Cp) (l : Lane) (a : AttemptStep) (level : Int) (r : AttachReport) (s : State) : (laneAttached n l a level r s).outer.inner = s.outer.inner := by
  unfold laneAttached; (repeat' split) <;> simp

@[simp] theorem attachFailed_inner (n : Cp) (o : CallOutcome) (s : State) : (attachFailed n o s).outer.inner = s.outer.inner := by simp [attachFailed]

@[simp] theorem attachDone_inner (n : Cp) (l : Lane) (result : Nat) (level : Int) (report : Option AttachReport) (s : State) : (attachDone n l result level report s).outer.inner = s.outer.inner := by
  unfold attachDone; (repeat' split) <;> simp

@[simp] theorem alerting_inner (n : Cp) (s : State) : (alerting n s).outer.inner = s.outer.inner := by simp [alerting]

@[simp] theorem connectedWord_inner (n : Cp) (s : State) : (connectedWord n s).outer.inner = s.outer.inner := by simp [connectedWord]

@[simp] theorem callFailed_inner (n : Cp) (cause : Nat) (s : State) : (callFailed n cause s).outer.inner = s.outer.inner := by
  unfold callFailed; split <;> simp

@[simp] theorem mergeEntry_inner (l : Lane) (s : State) (w : ScanNetwork) : (mergeEntry l s w).outer.inner = s.outer.inner := by
  unfold mergeEntry; split <;> simp

@[simp] theorem mergeNext_inner (l : Lane) (s : State) (w : ScanNetwork) : (mergeNext l s w).outer.inner = s.outer.inner := by
  simp [mergeNext]

@[simp] theorem mergeReport_inner (l : Lane) (count : Nat) (data : List Byte) (s : State) : (mergeReport l count data s).outer.inner = s.outer.inner := by
  unfold mergeReport; exact foldl_inner _ (by simp) _ _

@[simp] theorem scanReport_inner (l : Lane) (data : List Byte) (s : State) : (scanReport l data s).outer.inner = s.outer.inner := by
  unfold scanReport; dsimp only; split <;> simp

@[simp] theorem scanDone_inner (l : Lane) (tag result : Nat) (s : State) : (scanDone l tag result s).outer.inner = s.outer.inner := by simp [scanDone]

@[simp] theorem surveyResult_inner (l : Lane) (code : ReqCode) (r : TxResult) (s : State) : (surveyResult l code r s).outer.inner = s.outer.inner := by
  unfold surveyResult; split <;> simp

@[simp] theorem attachResult_inner (n : Cp) (r : TxResult) (s : State) : (attachResult n r s).outer.inner = s.outer.inner := by
  unfold attachResult; (repeat' split) <;> simp

@[simp] theorem dialResult_inner (n : Cp) (r : TxResult) (s : State) : (dialResult n r s).outer.inner = s.outer.inner := by
  unfold dialResult; (repeat' split) <;> simp

@[simp] theorem answerResult_inner (n : Cp) (r : TxResult) (s : State) : (answerResult n r s).outer.inner = s.outer.inner := by
  unfold answerResult; (repeat' split) <;> simp

@[simp] theorem hangupResult_inner (n : Cp) (s : State) : (hangupResult n s).outer.inner = s.outer.inner := by simp [hangupResult]

@[simp] theorem tonesResult_inner (n : Cp) (r : TxResult) (s : State) : (tonesResult n r s).outer.inner = s.outer.inner := by
  unfold tonesResult; split <;> simp

@[simp] theorem ctxResult_inner (n : Cp) (code : ReqCode) (r : TxResult) (s : State) : (ctxResult n code r s).outer.inner = s.outer.inner := by
  unfold ctxResult; split <;> simp

@[simp] theorem incomingRing_inner (l : Lane) (s : State) : (incomingRing l s).outer.inner = s.outer.inner := by
  unfold incomingRing; split <;> simp

@[simp] theorem serviceLostWord_inner (l : Lane) (s : State) : (serviceLostWord l s).outer.inner = s.outer.inner := by
  unfold serviceLostWord; split <;> simp

@[simp] theorem ringWithdrawn_inner (l : Lane) (s : State) : (ringWithdrawn l s).outer.inner = s.outer.inner := by
  unfold ringWithdrawn; split <;> simp

@[simp] theorem readyWord_inner (l : Lane) (s : State) : (readyWord l s).outer.inner = s.outer.inner := by
  unfold readyWord; split <;> simp

@[simp] theorem taggedWord_inner (l : Lane) (kind : WordKind) (w : BitVec 32) (report : Option AttachReport) (holder : Owner) (s : State) : (taggedWord l kind w report holder s).outer.inner = s.outer.inner := by
  unfold taggedWord; (repeat' split) <;> simp

@[simp] theorem matchTag_inner (l : Lane) (kind : WordKind) (w : BitVec 32) (report : Option AttachReport) (s : State) : (matchTag l kind w report s).outer.inner = s.outer.inner := by
  unfold matchTag; (repeat' split) <;> simp

@[simp] theorem takeWord_inner (l : Lane) (w : BitVec 32) (report : Option AttachReport) (s : State) : (takeWord l w report s).outer.inner = s.outer.inner := by
  unfold takeWord; (repeat' split) <;> simp

@[simp] theorem fetchResult_inner (l : Lane) (r : TxResult) (s : State) : (fetchResult l r s).outer.inner = s.outer.inner := by
  unfold fetchResult; split <;> simp

@[simp] theorem managerResult_inner (l : Lane) (code : ReqCode) (r : TxResult) (s : State) : (managerResult l code r s).outer.inner = s.outer.inner := by
  unfold managerResult; split <;> simp

@[simp] theorem deliver_inner (t : Transaction) (r : TxResult) (s : State) : (deliver t r s).outer.inner = s.outer.inner := by
  unfold deliver; split <;> simp

@[simp] theorem discardResult_inner (t : Transaction) (r : TxResult) (s : State) : (discardResult t r s).outer.inner = s.outer.inner := by
  unfold discardResult; split <;> simp

@[simp] theorem freeLink_inner (s : State) : (freeLink s).outer.inner = s.outer.inner := by simp [freeLink]

@[simp] theorem afterProbe_inner (t : Transaction) (s : State) : (afterProbe t s).outer.inner = s.outer.inner := by simp [afterProbe]

@[simp] theorem settleResult_inner (t : Transaction) (r : TxResult) (s : State) : (settleResult t r s).outer.inner = s.outer.inner := by
  unfold settleResult; split <;> simp

@[simp] theorem endAnswered_inner (t : Transaction) (r : TxResult) (s : State) : (endAnswered t r s).outer.inner = s.outer.inner := by simp [endAnswered]

@[simp] theorem endUnanswered_inner (t : Transaction) (s : State) : (endUnanswered t s).outer.inner = s.outer.inner := by
  unfold endUnanswered; dsimp only; (repeat' split) <;> simp

@[simp] theorem completeIdents_inner (l : Lane) (s : State) : (completeIdents l s).outer.inner = s.outer.inner := by
  unfold completeIdents; exact foldl_inner _ (by simp) _ _

@[simp] theorem identified_inner (l : Lane) (id : BitVec 16) (s : State) : (identified l id s).outer.inner = s.outer.inner := by simp [identified]

@[simp] theorem publishIdentity_inner (l : Lane) (s : State) : (publishIdentity l s).outer.inner = s.outer.inner := by simp [publishIdentity]

@[simp] theorem takeRead_inner (l : Lane) (i : Ident) (sense : BitVec 4) (s : State) : (takeRead l i sense s).outer.inner = s.outer.inner := by
  unfold takeRead; split <;> simp


/-! ## SurveyEvents -/


/-! ## TableEvents -/

@[simp] theorem tick_inner (s : State) : (tick s).outer.inner = s.outer.inner := by simp [tick]

@[simp] theorem changeEntries_inner (p : Entry → Bool) (f : Entry → Entry) (s : State) : (changeEntries p f s).outer.inner = s.outer.inner := by simp [changeEntries]


/-! ## SupplyEvents -/

@[simp] theorem sampleEvt_inner (s : State) (l : Lane) : (sampleEvt s l).outer.inner = s.outer.inner := by simp [sampleEvt]

@[simp] theorem sampleEvts_inner (s : State) : (sampleEvts s).outer.inner = s.outer.inner := by
  unfold sampleEvts; exact foldl_inner _ (by simp) _ _


end Sys2Proof.Machine
end

