-- ==== Sys2Proof/Laws/TableOrder.lean ====
section
/-! SUPPORT. The table order (R51, R52): on candidates with valid operator codes it is total and transitive, so the
re-ordered table is sorted; and what every change of the table keeps. -/

namespace Sys2Proof.Machine

/-- The rank of an operator code in the order of R51. -/
def OpCode.rank (c : OpCode) : Nat := c.five * 100 + if c.six then 1 + c.place 5 else 0

theorem OpCode.valid_iff (c : OpCode) : c.valid = true ↔
    c.place 0 ≤ 9 ∧ c.place 1 ≤ 9 ∧ c.place 2 ≤ 9 ∧ c.place 3 ≤ 9 ∧ c.place 4 ≤ 9
      ∧ (c.place 5 ≤ 9 ∨ c.place 5 = 15) := by
  simp [OpCode.valid, and_assoc]

/-- An operator code is its six places. -/
theorem OpCode.eq_of_places (a b : OpCode) (h0 : a.place 0 = b.place 0) (h1 : a.place 1 = b.place 1)
    (h2 : a.place 2 = b.place 2) (h3 : a.place 3 = b.place 3) (h4 : a.place 4 = b.place 4)
    (h5 : a.place 5 = b.place 5) : a = b := by
  apply BitVec.eq_of_toNat_eq
  have ha := a.isLt
  have hb := b.isLt
  simp only [OpCode.place] at h0 h1 h2 h3 h4 h5
  norm_num at h0 h1 h2 h3 h4 h5 ha hb
  omega

/-- Valid codes of one rank are one code. -/
theorem OpCode.eq_of_rank (a b : OpCode) (ha : a.valid = true) (hb : b.valid = true) (h : a.rank = b.rank) : a = b := by
  rw [OpCode.valid_iff] at ha hb
  have hp : a.five = b.five ∧ a.place 5 = b.place 5 := by
    unfold OpCode.rank OpCode.six at h
    simp only [decide_eq_true_eq] at h
    split at h <;> split at h <;> omega
  obtain ⟨hf, h5⟩ := hp
  unfold OpCode.five at hf
  exact OpCode.eq_of_places a b (by omega) (by omega) (by omega) (by omega) (by omega) h5

/-- The order of valid codes is the order of their ranks. -/
theorem OpCode.less_iff (a b : OpCode) (ha : a.valid = true) (hb : b.valid = true) :
    a.less b = true ↔ a.rank < b.rank := by
  rw [OpCode.valid_iff] at ha hb
  unfold OpCode.less OpCode.rank OpCode.six
  by_cases hf : a.five = b.five
  · by_cases h1 : a.place 5 = 15 <;> by_cases h2 : b.place 5 = 15 <;> simp [hf, h1, h2]
  · simp only [hf, ne_eq, not_false_eq_true, if_true, decide_eq_true_eq]
    split <;> split <;> omega

/-- The table order through the ranks of the operator codes. -/
theorem Entry.before_iff (a b : Entry) (ha : a.key.op.valid = true) (hb : b.key.op.valid = true) :
    a.before b = true ↔
      b.score < a.score ∨ (a.score = b.score ∧ (b.level < a.level ∨ (a.level = b.level ∧
        (a.key.lane.num < b.key.lane.num ∨ (a.key.lane.num = b.key.lane.num ∧
          (a.key.op.rank < b.key.op.rank ∨ (a.key.op.rank = b.key.op.rank ∧ b.key.gen.num ≤ a.key.gen.num))))))) := by
  have hl : a.key.lane = b.key.lane ↔ a.key.lane.num = b.key.lane.num := by
    cases a.key.lane <;> cases b.key.lane <;> decide
  have ho : a.key.op = b.key.op ↔ a.key.op.rank = b.key.op.rank :=
    ⟨fun h => by rw [h], OpCode.eq_of_rank _ _ ha hb⟩
  have hs := OpCode.less_iff a.key.op b.key.op ha hb
  unfold Entry.before
  by_cases h1 : a.score = b.score
  · by_cases h2 : a.level = b.level
    · by_cases h3 : a.key.lane = b.key.lane
      · by_cases h4 : a.key.op = b.key.op
        · simp [h1, h2, h3, h4]
        · have := ho.not.mp h4
          simp [h1, h2, h3, h4, this, hs]
      · have := hl.not.mp h3
        simp [h1, h2, h3, this]
    · simp [h1, h2]
  · simp [h1]

theorem Entry.before_total (a b : Entry) (ha : a.key.op.valid = true) (hb : b.key.op.valid = true) :
    a.before b = true ∨ b.before a = true := by
  rw [Entry.before_iff a b ha hb, Entry.before_iff b a hb ha]
  omega

theorem Entry.before_trans (a b c : Entry) (ha : a.key.op.valid = true) (hb : b.key.op.valid = true)
    (hc : c.key.op.valid = true) (h1 : a.before b = true) (h2 : b.before c = true) : a.before c = true := by
  rw [Entry.before_iff _ _ ‹_› ‹_›] at h1 h2 ⊢
  omega

/-- An insertion keeps an order. -/
theorem pairwise_orderedInsert (e : Entry) (t : List Entry) (he : e.key.op.valid = true)
    (hv : ∀ x ∈ t, x.key.op.valid = true) (h : t.Pairwise (fun a b => a.before b = true)) :
    (t.orderedInsert (fun a b => a.before b = true) e).Pairwise (fun a b => a.before b = true) := by
  induction t with
  | nil => simp
  | cons x t ih =>
    rw [List.pairwise_cons] at h
    have hx := hv x (by simp)
    have ht := fun y hy => hv y (List.mem_cons_of_mem x hy)
    rw [List.orderedInsert_cons]
    split
    · rename_i hb
      refine List.pairwise_cons.mpr ⟨fun y hy => ?_, List.pairwise_cons.mpr h⟩
      rcases List.mem_cons.mp hy with rfl | hy
      · exact hb
      · exact Entry.before_trans e x y he hx (ht y hy) hb (h.1 y hy)
    · rename_i hb
      refine List.pairwise_cons.mpr ⟨fun y hy => ?_, ih ht h.2⟩
      rcases (List.mem_orderedInsert _).mp hy with rfl | hy
      · exact (Entry.before_total y x he hx).resolve_left hb
      · exact h.1 y hy

theorem ordered_perm (t : List Entry) : (ordered t).Perm t := List.perm_insertionSort _ t

/-- The re-ordered table is in table order. -/
theorem ordered_pairwise (t : List Entry) (hv : ∀ x ∈ t, x.key.op.valid = true) :
    (ordered t).Pairwise (fun a b => a.before b = true) := by
  unfold ordered
  induction t with
  | nil => simp
  | cons x t ih =>
    rw [List.insertionSort_cons]
    have ht := fun y hy => hv y (List.mem_cons_of_mem x hy)
    refine pairwise_orderedInsert x _ (hv x (by simp)) (fun y hy => ht y ?_) (ih ht)
    exact (List.perm_insertionSort _ t).mem_iff.mp hy

/-- What a table must hold before it is re-ordered. -/
structure TableContent (t : List Entry) : Prop where
  size    : t.length ≤ 24
  keys    : (t.map Entry.key).Nodup
  entries : ∀ e ∈ t, EntrySound e

theorem TableContent.ordered {t : List Entry} (h : TableContent t) : TableInv (ordered t) :=
  { size := by rw [(ordered_perm t).length_eq]; exact h.size
    keys := ((ordered_perm t).map Entry.key).nodup_iff.mpr h.keys
    order := ordered_pairwise t (fun x hx => (h.entries x hx).op)
    entries := fun e he => h.entries e ((ordered_perm t).mem_iff.mp he) }

theorem TableInv.content {t : List Entry} (h : TableInv t) : TableContent t :=
  ⟨h.size, h.keys, h.entries⟩

theorem TableContent.nil : TableContent [] := ⟨by simp, by simp, by simp⟩

/-- Entries changed but not in their keys. -/
theorem TableContent.map {t : List Entry} (h : TableContent t) (f : Entry → Entry) (hk : ∀ e, (f e).key = e.key)
    (hs : ∀ e, EntrySound e → EntrySound (f e)) : TableContent (t.map f) :=
  { size := by rw [List.length_map]; exact h.size
    keys := by
      rw [List.map_map, show Entry.key ∘ f = Entry.key from funext hk]
      exact h.keys
    entries := fun e he => by
      obtain ⟨x, hx, rfl⟩ := List.mem_map.mp he
      exact hs x (h.entries x hx) }

theorem TableContent.sublist {t u : List Entry} (h : TableContent t) (hu : u.Sublist t) : TableContent u :=
  { size := Nat.le_trans hu.length_le h.size
    keys := (hu.map Entry.key).nodup h.keys
    entries := fun e he => h.entries e (hu.subset he) }

theorem TableContent.cons {t : List Entry} (h : TableContent t) (e : Entry) (hl : t.length < 24)
    (hk : ∀ x ∈ t, x.key ≠ e.key) (he : EntrySound e) : TableContent (e :: t) :=
  { size := by rw [List.length_cons]; omega
    keys := by
      rw [List.map_cons, List.nodup_cons]
      refine ⟨fun hm => ?_, h.keys⟩
      obtain ⟨x, hx, hxe⟩ := List.mem_map.mp hm
      exact hk x hx hxe
    entries := fun x hx => by
      rcases List.mem_cons.mp hx with rfl | hx
      · exact he
      · exact h.entries x hx }

theorem clampInt_bounds (lo hi n : Int) (h : lo ≤ hi) : lo ≤ clampInt lo hi n ∧ clampInt lo hi n ≤ hi := by
  unfold clampInt; split
  · omega
  · split <;> omega

theorem clamp_le (lo hi n : Nat) (h : lo ≤ hi) : clamp lo hi n ≤ hi := by
  unfold clamp; split
  · omega
  · split <;> omega

theorem scoreValue_le (level : Int) (quality weight age fails penalty : Nat) (barred : Bool) :
    scoreValue level quality weight age fails penalty barred ≤ 511 := by
  unfold scoreValue
  dsimp only
  split
  · omega
  · have := clampInt_bounds 0 511
      ((level + 125) * 4 + ((quality * 10 : Nat) : Int) + weight - ((min (age / 16) 100 : Nat) : Int)
        - ((min (fails * 48) 240 : Nat) : Int) - ((penalty * 20 : Nat) : Int)) (by omega)
    omega

@[simp] theorem scored_key (s : State) (e : Entry) : (scored s e).key = e.key := rfl

/-- A scoring keeps an entry in its ranges. -/
theorem scored_sound (s : State) (e : Entry) (h : EntrySound e) : EntrySound (scored s e) :=
  { op := h.op, level := h.level, quality := h.quality, fails := h.fails
    score := scoreValue_le _ _ _ _ _ _ _
    age := by show min _ 65535 ≤ 65535; omega }

end Sys2Proof.Machine
end

