-- ==== Sys2Proof/Laws/Keeps.lean ====
section
/-! SUPPORT. What every operation keeps, whatever it does: the canonical form of the exchange memory, the candidate
table's size, keys, ranges and order, the start queue's order, the counters' limit, and attention 0 while the ready flag
is clear. One lemma for each operation that answers a state: if a state keeps these from a first state, so does what the
operation makes of it. -/

namespace Sys2Proof.Machine

/-- What a state keeps from an earlier one. -/
structure Keeps (s t : State) : Prop where
  mem       : s.mem.wf = true → t.mem.wf = true
  table     : TableInv s.table → TableInv t.table
  queue     : StartQueueInv s.startq → StartQueueInv t.startq
  counters  : CountersInv s.counters → CountersInv t.counters
  attention : AttentionInv s.port → AttentionInv t.port

theorem Keeps.refl (s : State) : Keeps s s := ⟨id, id, id, id, id⟩

theorem Keeps.trans {s t u : State} (h : Keeps s t) (k : Keeps t u) : Keeps s u :=
  ⟨k.mem ∘ h.mem, k.table ∘ h.table, k.queue ∘ h.queue, k.counters ∘ h.counters, k.attention ∘ h.attention⟩

/-- A fold of operations that keep. -/
theorem foldl_keeps {s0 : State} {α : Type} (g : State → α → State)
    (hg : ∀ s a, Keeps s0 s → Keeps s0 (g s a)) (l : List α) (s : State) (h : Keeps s0 s) :
    Keeps s0 (l.foldl g s) := by
  induction l generalizing s with
  | nil => exact h
  | cons a l ih => exact ih _ (hg s a h)

section
variable {s0 s : State} (h : Keeps s0 s)
include h

theorem withPending_keeps (v) : Keeps s0 (s.withPending v) := ⟨h.1, h.2, h.3, h.4, h.5⟩
theorem withEnv_keeps (v) : Keeps s0 (s.withEnv v) := ⟨h.1, h.2, h.3, h.4, h.5⟩
theorem withTime_keeps (v) : Keeps s0 (s.withTime v) := ⟨h.1, h.2, h.3, h.4, h.5⟩
theorem withTickDue_keeps (v) : Keeps s0 (s.withTickDue v) := ⟨h.1, h.2, h.3, h.4, h.5⟩
theorem withNeedDue_keeps (v) : Keeps s0 (s.withNeedDue v) := ⟨h.1, h.2, h.3, h.4, h.5⟩
theorem withSnap_keeps (v) : Keeps s0 (s.withSnap v) := ⟨h.1, h.2, h.3, h.4, h.5⟩
theorem withRst_keeps (v) : Keeps s0 (s.withRst v) := ⟨h.1, h.2, h.3, h.4, h.5⟩
theorem withCtxs_keeps (v) : Keeps s0 (s.withCtxs v) := ⟨h.1, h.2, h.3, h.4, h.5⟩
theorem withPlan_keeps (v) : Keeps s0 (s.withPlan v) := ⟨h.1, h.2, h.3, h.4, h.5⟩
theorem withSurvey_keeps (v) : Keeps s0 (s.withSurvey v) := ⟨h.1, h.2, h.3, h.4, h.5⟩
theorem withLanes_keeps (v) : Keeps s0 (s.withLanes v) := ⟨h.1, h.2, h.3, h.4, h.5⟩
theorem withLink_keeps (v) : Keeps s0 (s.withLink v) := ⟨h.1, h.2, h.3, h.4, h.5⟩
theorem withVoice_keeps (v) : Keeps s0 (s.withVoice v) := ⟨h.1, h.2, h.3, h.4, h.5⟩
theorem withLamps_keeps (v) : Keeps s0 (s.withLamps v) := ⟨h.1, h.2, h.3, h.4, h.5⟩
theorem withMatrix_keeps (v) : Keeps s0 (s.withMatrix v) := ⟨h.1, h.2, h.3, h.4, h.5⟩
theorem withRecs_keeps (v) : Keeps s0 (s.withRecs v) := ⟨h.1, h.2, h.3, h.4, h.5⟩
theorem withOrders_keeps (v) : Keeps s0 (s.withOrders v) := ⟨h.1, h.2, h.3, h.4, h.5⟩
theorem withSupply_keeps (v) : Keeps s0 (s.withSupply v) := ⟨h.1, h.2, h.3, h.4, h.5⟩
theorem modCtx_keeps (n f) : Keeps s0 (modCtx n f s) := ⟨h.1, h.2, h.3, h.4, h.5⟩
theorem modLane_keeps (l f) : Keeps s0 (modLane l f s) := ⟨h.1, h.2, h.3, h.4, h.5⟩
theorem modScan_keeps (l f) : Keeps s0 (modScan l f s) := ⟨h.1, h.2, h.3, h.4, h.5⟩
theorem modLink_keeps (f) : Keeps s0 (modLink f s) := ⟨h.1, h.2, h.3, h.4, h.5⟩
theorem modMatrix_keeps (f) : Keeps s0 (modMatrix f s) := ⟨h.1, h.2, h.3, h.4, h.5⟩
theorem modSupply_keeps (f) : Keeps s0 (modSupply f s) := ⟨h.1, h.2, h.3, h.4, h.5⟩
theorem putRecord_keeps (i r) : Keeps s0 (putRecord i r s) := ⟨h.1, h.2, h.3, h.4, h.5⟩

theorem withMem_keeps (m : Memory) (hm : s.mem.wf = true → m.wf = true) : Keeps s0 (s.withMem m) :=
  ⟨hm ∘ h.1, h.2, h.3, h.4, h.5⟩

theorem place_keeps (a n : Nat) (bs : List Byte) (ha : a + n ≤ Config.memSize) :
    Keeps s0 (s.withMem (s.mem.place a n bs)) :=
  withMem_keeps h _ (fun hm => Memory.wf_place s.mem a n bs hm ha)

theorem withTable_keeps (t : List Entry) (ht : TableInv s.table → TableInv t) : Keeps s0 (s.withTable t) :=
  ⟨h.1, ht ∘ h.2, h.3, h.4, h.5⟩

theorem withStartq_keeps (q : List QueueEntry) (hq : StartQueueInv s.startq → StartQueueInv q) :
    Keeps s0 (s.withStartq q) := ⟨h.1, h.2, hq ∘ h.3, h.4, h.5⟩

theorem withCounters_keeps (c : Counters) (hc : CountersInv s.counters → CountersInv c) :
    Keeps s0 (s.withCounters c) := ⟨h.1, h.2, h.3, hc ∘ h.4, h.5⟩

theorem modCounters_keeps (f) (hf : ∀ c, CountersInv c → CountersInv (f c)) : Keeps s0 (modCounters f s) :=
  withCounters_keeps h _ (hf _)

theorem modPort_keeps (f) (hf : ∀ p, AttentionInv p → AttentionInv (f p)) : Keeps s0 (modPort f s) :=
  ⟨h.1, h.2, h.3, h.4, hf _ ∘ h.5⟩

end

/-! ## The start queue -/

theorem StartQueueInv.filter {q : List QueueEntry} (h : StartQueueInv q) (p : QueueEntry → Bool) :
    StartQueueInv (q.filter p) :=
  ⟨(List.filter_sublist.map QueueEntry.lane).nodup h.once, h.order.filter p⟩

theorem StartQueueInv.behind {q : List QueueEntry} (h : StartQueueInv q) (l : Lane)
    (hl : q.any (fun e => decide (e.lane = l)) = false) : StartQueueInv (q ++ [⟨l, false⟩]) := by
  simp only [List.any_eq_false, decide_eq_true_eq] at hl
  constructor
  · rw [List.map_append, List.nodup_append]
    refine ⟨h.once, by simp, ?_⟩
    intro a ha b hb
    simp only [List.map_cons, List.map_nil, List.mem_singleton] at hb
    obtain ⟨e, he, rfl⟩ := List.mem_map.mp ha
    exact fun hab => hl e he (hab.trans hb)
  · rw [List.pairwise_append]
    refine ⟨h.order, by simp, ?_⟩
    intro a _ b hb
    simp only [List.mem_singleton] at hb
    subst hb
    intro hf
    cases hf

/-- In a start queue in order, what stands behind its leading EMERGENCY entries is of class OTHER. -/
theorem StartQueueInv.rest {q : List QueueEntry} (h : StartQueueInv q) (e : QueueEntry)
    (he : e ∈ q.dropWhile (fun e => e.emergency)) : e.emergency = false := by
  have ho := h.order
  clear h
  induction q with
  | nil => simp at he
  | cons x q ih =>
    rw [List.pairwise_cons] at ho
    cases hx : x.emergency with
    | true =>
      rw [List.dropWhile_cons_of_pos hx] at he
      exact ih he ho.2
    | false =>
      rw [List.dropWhile_cons_of_neg (by simp [hx])] at he
      rcases List.mem_cons.mp he with rfl | he
      · exact hx
      · cases hy : e.emergency with
        | false => rfl
        | true => rw [ho.1 e he hy] at hx; cases hx

theorem StartQueueInv.before {q : List QueueEntry} (h : StartQueueInv q) (l : Lane)
    (hl : q.any (fun e => decide (e.lane = l)) = false) :
    StartQueueInv (q.takeWhile (fun e => e.emergency) ++ [⟨l, true⟩] ++ q.dropWhile (fun e => e.emergency)) := by
  simp only [List.any_eq_false, decide_eq_true_eq] at hl
  have hq : q.takeWhile (fun e => e.emergency) ++ q.dropWhile (fun e => e.emergency) = q :=
    List.takeWhile_append_dropWhile
  have h1 := h.once
  rw [← hq, List.map_append, List.nodup_append] at h1
  have hmem1 : ∀ e ∈ q.takeWhile (fun e => e.emergency), e ∈ q := fun e he => (List.takeWhile_sublist _).subset he
  have hmem2 : ∀ e ∈ q.dropWhile (fun e => e.emergency), e ∈ q := fun e he => (List.dropWhile_sublist _).subset he
  constructor
  · rw [List.append_assoc, List.map_append, List.nodup_append, List.map_append, List.nodup_append]
    refine ⟨h1.1, ⟨by simp, h1.2.1, ?_⟩, ?_⟩
    · intro a ha b hb
      simp only [List.map_cons, List.map_nil, List.mem_singleton] at ha
      obtain ⟨e, he, rfl⟩ := List.mem_map.mp hb
      exact fun hab => hl e (hmem2 e he) (hab.symm.trans ha)
    · intro a ha b hb
      rcases List.mem_append.mp hb with hb | hb
      · simp only [List.map_cons, List.map_nil, List.mem_singleton] at hb
        obtain ⟨e, he, rfl⟩ := List.mem_map.mp ha
        exact fun hab => hl e (hmem1 e he) (hab.trans hb)
      · exact h1.2.2 a ha b hb
  · rw [List.append_assoc, List.pairwise_append, List.pairwise_append]
    refine ⟨h.order.sublist (List.takeWhile_sublist _), ⟨by simp, h.order.sublist (List.dropWhile_sublist _), ?_⟩, ?_⟩
    · intro a ha b _ _
      simp only [List.mem_singleton] at ha
      rw [ha]
    · intro a ha b _ _
      exact List.mem_takeWhile_imp ha

/-! ## The table -/

theorem newEntry_sound (s : State) (r : Report) (hv : r.op.valid = true) : EntrySound (newEntry s r) :=
  scored_sound s _
    { op := hv, level := clampInt_bounds (-125) (-45) _ (by decide), quality := clamp_le 0 7 _ (by decide)
      score := Nat.zero_le _, age := Nat.zero_le _, fails := Nat.zero_le _ }

theorem updateEntry_key (s : State) (r : Report) (c : Bool) (e : Entry) : (updateEntry s r c e).key = e.key := by
  unfold updateEntry; dsimp only; split <;> rfl

theorem updateEntry_sound (s : State) (r : Report) (c : Bool) (e : Entry) (h : EntrySound e) :
    EntrySound (updateEntry s r c e) := by
  unfold updateEntry; dsimp only
  split
  · exact ⟨h.op, clampInt_bounds (-125) (-45) _ (by decide), clamp_le 0 7 _ (by decide), h.score, h.age, Nat.zero_le _⟩
  · exact ⟨h.op, clampInt_bounds (-125) (-45) _ (by decide), clamp_le 0 7 _ (by decide), h.score, h.age, h.fails⟩

theorem applyToEntry_key (s : State) (o : CallOutcome) (e : Entry) : (applyToEntry s o e).key = e.key := by
  unfold applyToEntry; dsimp only; (repeat' split) <;> rfl

theorem satInc_le (m n : Nat) : satInc m n ≤ m := by unfold satInc; split <;> omega

theorem applyToEntry_sound (s : State) (o : CallOutcome) (e : Entry) (h : EntrySound e) :
    EntrySound (applyToEntry s o e) := by
  have h15 := satInc_le 15 e.fails
  unfold applyToEntry; dsimp only
  (repeat' split) <;>
    exact ⟨h.op, h.level, h.quality, h.score, h.age, by first | exact h.fails | exact h15 | exact Nat.zero_le _⟩

theorem liftBar_sound (s : State) (e : Entry) (h : EntrySound e) : EntrySound (liftBar s e) := by
  unfold liftBar; split
  · exact ⟨h.op, h.level, h.quality, h.score, h.age, h.fails⟩
  · exact h

theorem decayFail_sound (s : State) (e : Entry) (h : EntrySound e) : EntrySound (decayFail s e) := by
  unfold decayFail; split
  · exact ⟨h.op, h.level, h.quality, h.score, h.age, Nat.le_trans (Nat.sub_le _ _) h.fails⟩
  · exact h

theorem liftBar_key (s : State) (e : Entry) : (liftBar s e).key = e.key := by unfold liftBar; split <;> rfl
theorem decayFail_key (s : State) (e : Entry) : (decayFail s e).key = e.key := by unfold decayFail; split <;> rfl

variable {s0 : State}

/-! ## Ops -/

theorem modRecord_keeps (n : Cp) (f : CallRecord → CallRecord) (s : State) (h : Keeps s0 s) :
    Keeps s0 (modRecord n f s) := by
  unfold modRecord
  repeat' with_reducible
    first
    | exact h | apply putRecord_keeps | split


/-! ## Matrix -/

theorem evalMatrix_keeps (s : State) (h : Keeps s0 s) :
    Keeps s0 (evalMatrix s) := by
  unfold evalMatrix
  repeat with_reducible
    first
    | exact h | apply modMatrix_keeps | apply foldl_keeps

theorem baselineMatrix_keeps (s : State) (h : Keeps s0 s) :
    Keeps s0 (baselineMatrix s) := by
  unfold baselineMatrix
  repeat with_reducible
    first
    | exact h | apply modMatrix_keeps

theorem restartMatrix_keeps (s : State) (h : Keeps s0 s) :
    Keeps s0 (restartMatrix s) := by
  unfold restartMatrix
  repeat with_reducible
    first
    | exact h | apply modMatrix_keeps | apply baselineMatrix_keeps

theorem takeImage_keeps (c : MatrixCfg) (s : State) (h : Keeps s0 s) :
    Keeps s0 (takeImage c s) := by
  unfold takeImage
  repeat with_reducible
    first
    | exact h | apply modMatrix_keeps | apply baselineMatrix_keeps


/-! ## Flags -/

theorem raise_keeps (b : Attn) (s : State) (h : Keeps s0 s) : Keeps s0 (raise b s) := by
  unfold raise
  split
  · rename_i hr
    refine evalMatrix_keeps _ ⟨h.1, h.2, h.3, h.4, fun k hf => ?_⟩
    exact absurd (hr.symm.trans hf) (by decide)
  · exact h

theorem countStale_keeps (s : State) (h : Keeps s0 s) : Keeps s0 (countStale s) :=
  modCounters_keeps h _ (fun _ k => ⟨k.overwritten, k.dropped, k.discarded, satInc_le 65535 _, k.windowFaults, k.linkTimeouts, k.tamper⟩)

theorem countDiscarded_keeps (s : State) (h : Keeps s0 s) : Keeps s0 (countDiscarded s) :=
  modCounters_keeps h _ (fun _ k => ⟨k.overwritten, k.dropped, satInc_le 65535 _, k.stale, k.windowFaults, k.linkTimeouts, k.tamper⟩)

theorem countDropped_keeps (s : State) (h : Keeps s0 s) : Keeps s0 (countDropped s) :=
  modCounters_keeps h _ (fun _ k => ⟨k.overwritten, satInc_le 65535 _, k.discarded, k.stale, k.windowFaults, k.linkTimeouts, k.tamper⟩)

theorem countOverwritten_keeps (s : State) (h : Keeps s0 s) : Keeps s0 (countOverwritten s) :=
  modCounters_keeps h _ (fun _ k => ⟨satInc_le 65535 _, k.dropped, k.discarded, k.stale, k.windowFaults, k.linkTimeouts, k.tamper⟩)

theorem countTimeout_keeps (s : State) (h : Keeps s0 s) : Keeps s0 (countTimeout s) :=
  modCounters_keeps h _ (fun _ k => ⟨k.overwritten, k.dropped, k.discarded, k.stale, k.windowFaults, satInc_le 65535 _, k.tamper⟩)

theorem countTamper_keeps (s : State) (h : Keeps s0 s) : Keeps s0 (countTamper s) :=
  modCounters_keeps h _ (fun _ k => ⟨k.overwritten, k.dropped, k.discarded, k.stale, k.windowFaults, k.linkTimeouts, satInc_le 65535 _⟩)

theorem countWindow_keeps (s : State) (h : Keeps s0 s) : Keeps s0 (countWindow s) :=
  modCounters_keeps h _ (fun _ k => ⟨k.overwritten, k.dropped, k.discarded, k.stale, satInc_le 65535 _, k.linkTimeouts, k.tamper⟩)

theorem rewriteStatus_keeps (s : State) (h : Keeps s0 s) : Keeps s0 (rewriteStatus s) :=
  place_keeps h _ _ _ (by decide)

theorem rewriteStatuses_keeps (k : Nat) (s : State) (h : Keeps s0 s) : Keeps s0 (rewriteStatuses k s) := by
  induction k generalizing s with
  | zero => exact h
  | succ k ih => rw [rewriteStatuses]; exact ih _ (rewriteStatus_keeps s h)

theorem flushStatus_keeps (s : State) (h : Keeps s0 s) : Keeps s0 (flushStatus s) := by
  unfold flushStatus
  split
  · split
    · exact rewriteStatus_keeps s h
    · exact h
  · exact rewriteStatuses_keeps _ _ (modMatrix_keeps h _)

theorem writeLane_keeps (l : Lane) (s : State) (h : Keeps s0 s) : Keeps s0 (writeLane l s) :=
  place_keeps h _ _ _ (by cases l <;> decide)

theorem showLane_keeps (l : Lane) (s : State) (h : Keeps s0 s) : Keeps s0 (showLane l s) :=
  raise_keeps _ _ (writeLane_keeps l s h)

theorem rewriteLane_keeps (l : Lane) (s : State) (h : Keeps s0 s) : Keeps s0 (rewriteLane l s) := by
  unfold rewriteLane; dsimp only
  split
  · exact raise_keeps _ _ (writeLane_keeps l s h)
  · exact writeLane_keeps l s h

theorem flushLane_keeps (l : Lane) (s : State) (h : Keeps s0 s) :
    Keeps s0 (flushLane l s) := by
  unfold flushLane
  repeat' with_reducible
    first
    | exact h | apply rewriteLane_keeps | split

theorem publishBlocks_keeps (s : State) (h : Keeps s0 s) :
    Keeps s0 (publishBlocks s) := by
  unfold publishBlocks
  repeat with_reducible
    first
    | exact h | apply flushLane_keeps | apply flushStatus_keeps


/-! ## Table -/

/-- A published table keeps the table's invariant when its entries are what a table may hold. -/
theorem publishTable_keeps (t : List Entry) (s : State) (ht : TableInv s.table → TableContent t) (h : Keeps s0 s) :
    Keeps s0 (publishTable t s) :=
  raise_keeps _ _ (place_keeps (withTable_keeps h (ordered t) (fun k => (ht k).ordered)) _ _ _ (by decide))

theorem changeEntry_keeps (k : CandKey) (f : Entry → Entry) (s : State) (hk : ∀ e, (f e).key = e.key)
    (hf : ∀ e, EntrySound e → EntrySound (f e)) (h : Keeps s0 s) : Keeps s0 (changeEntry k f s) := by
  unfold changeEntry
  split
  · refine publishTable_keeps _ s (fun ht => (TableInv.content ht).map _ (fun e => ?_) (fun e he => ?_)) h
    · split
      · exact hk e
      · rfl
    · split
      · exact scored_sound s _ (hf e he)
      · exact he
  · exact h

theorem offer_keeps (r : Report) (clearFails : Bool) (s : State) (h : Keeps s0 s) :
    Keeps s0 (offer r clearFails s) := by
  have hnew : (s.entry r.key).isSome = false → ∀ x ∈ s.table, x.key ≠ (newEntry s r).key := by
    intro hn x hx he
    have : s.entry r.key = none := by cases e : s.entry r.key <;> simp [e] at hn ⊢
    unfold State.entry at this
    rw [List.find?_eq_none] at this
    exact this x hx (decide_eq_true (show x.key = r.key from he))
  unfold offer
  split
  · exact countDiscarded_keeps s h
  · rename_i hv
    have hv' : r.op.valid = true := by simpa using hv
    split
    · exact countDiscarded_keeps s h
    · split
      · exact changeEntry_keeps _ _ s (updateEntry_key s r clearFails) (updateEntry_sound s r clearFails) h
      · rename_i hn
        have hn' : (s.entry r.key).isSome = false := by simpa using hn
        split
        · rename_i hl
          exact publishTable_keeps _ s (fun ht => (TableInv.content ht).cons _ hl (hnew hn')
            (newEntry_sound s r hv')) h
        · split
          · exact h
          · rename_i lowest hlast
            split
            · refine publishTable_keeps _ s (fun ht => ?_) h
              have hc := TableInv.content ht
              have hne : s.table ≠ [] := by intro hnil; rw [hnil] at hlast; cases hlast
              have hpos := List.length_pos_iff.mpr hne
              exact (hc.sublist (List.dropLast_sublist _)).cons _
                (by rw [List.length_dropLast]; have := hc.size; omega)
                (fun x hx => hnew hn' x ((List.dropLast_sublist _).subset hx)) (newEntry_sound s r hv')
            · exact countDropped_keeps s h

theorem levelReport_keeps (l : Lane) (level : Int) (s : State) (h : Keeps s0 s) :
    Keeps s0 (levelReport l level s) := by
  unfold levelReport
  split
  · exact h
  · exact changeEntry_keeps _ _ s (fun e => rfl) (fun e he =>
      ⟨he.op, clampInt_bounds (-125) (-45) _ (by decide), he.quality, he.score, he.age, he.fails⟩) h

theorem outcomeToTable_keeps (k : Option CandKey) (o : CallOutcome) (s : State) (h : Keeps s0 s) :
    Keeps s0 (outcomeToTable k o s) := by
  unfold outcomeToTable
  split
  · exact h
  · split
    · exact h
    · exact changeEntry_keeps _ _ s (applyToEntry_key s o) (applyToEntry_sound s o) h

theorem removeLanes_keeps (named : Lane → Bool) (s : State) (h : Keeps s0 s) : Keeps s0 (removeLanes named s) := by
  unfold removeLanes
  split
  · exact publishTable_keeps _ s (fun ht => (TableInv.content ht).sublist List.filter_sublist) h
  · exact h

theorem removeLane_keeps (l : Lane) (s : State) (h : Keeps s0 s) :
    Keeps s0 (removeLane l s) := by
  unfold removeLane
  repeat with_reducible
    first
    | exact h | apply modLane_keeps | apply removeLanes_keeps

theorem rescoreLane_keeps (l : Lane) (s : State) (h : Keeps s0 s) : Keeps s0 (rescoreLane l s) := by
  unfold rescoreLane
  split
  · refine publishTable_keeps _ s (fun ht => (TableInv.content ht).map _ (fun e => ?_) (fun e he => ?_)) h
    · split <;> rfl
    · split
      · exact scored_sound s _ he
      · exact he
  · exact h

theorem setNoResp_keeps (l : Lane) (n : Nat) (s : State) (h : Keeps s0 s) :
    Keeps s0 (setNoResp l n s) := by
  unfold setNoResp
  repeat' with_reducible
    first
    | exact h | apply rescoreLane_keeps | apply modLane_keeps | split


/-! ## Records -/

theorem rewriteRecord_keeps (i : Fin 12) (s : State) (h : Keeps s0 s) : Keeps s0 (rewriteRecord i s) :=
  place_keeps h _ _ _ (by
    unfold recordAddr; have : Config.recordBase + 256 * 11 + recordSize ≤ Config.memSize := by decide
    have := i.isLt; omega)

theorem flushRecord_keeps (n : Cp) (s : State) (h : Keeps s0 s) :
    Keeps s0 (flushRecord n s) := by
  unfold flushRecord
  dsimp only
  repeat' with_reducible
    first
    | exact h | apply putRecord_keeps | apply rewriteRecord_keeps | split

theorem rewriteOwn_keeps (n : Cp) (s : State) (h : Keeps s0 s) :
    Keeps s0 (rewriteOwn n s) := by
  unfold rewriteOwn
  repeat' with_reducible
    first
    | exact h | apply rewriteRecord_keeps | split

theorem showRecord_keeps (n : Cp) (s : State) (h : Keeps s0 s) :
    Keeps s0 (showRecord n s) := by
  unfold showRecord
  repeat' with_reducible
    first
    | exact h | apply rewriteRecord_keeps | apply putRecord_keeps | split

theorem publish_keeps (s : State) (h : Keeps s0 s) :
    Keeps s0 (publish s) := by
  unfold publish
  repeat with_reducible
    first
    | exact h | apply publishBlocks_keeps | apply flushRecord_keeps

theorem openRecord_keeps (n : Cp) (kind : CallKind) (source : CallSource) (s : State) (h : Keeps s0 s) :
    Keeps s0 (openRecord n kind source s) := by
  unfold openRecord
  repeat' with_reducible
    first
    | exact h | apply countOverwritten_keeps | apply withRecs_keeps | apply putRecord_keeps | apply modCtx_keeps
    | apply raise_keeps | apply rewriteRecord_keeps | split

theorem beginAttempt_keeps (n : Cp) (l : Lane) (net : Option Network) (score : Nat) (s : State) (h : Keeps s0 s) :
    Keeps s0 (beginAttempt n l net score s) := by
  unfold beginAttempt
  repeat with_reducible
    first
    | exact h | apply modCtx_keeps | apply modRecord_keeps

theorem endAttempt_keeps (n : Cp) (o : CallOutcome) (s : State) (h : Keeps s0 s) :
    Keeps s0 (endAttempt n o s) := by
  unfold endAttempt
  repeat' with_reducible
    first
    | exact h | apply modRecord_keeps | apply modCtx_keeps | split

theorem fillAttempt_keeps (n : Cp) (net : Network) (score : Nat) (s : State) (h : Keeps s0 s) :
    Keeps s0 (fillAttempt n net score s) := by
  unfold fillAttempt
  repeat with_reducible
    first
    | exact h | apply modRecord_keeps

theorem setLast_keeps (n : Cp) (o : CallOutcome) (s : State) (h : Keeps s0 s) :
    Keeps s0 (setLast n o s) := by
  unfold setLast
  repeat with_reducible
    first
    | exact h | apply modRecord_keeps

theorem setLocation_keeps (n : Cp) (v : LocStatus) (s : State) (h : Keeps s0 s) :
    Keeps s0 (setLocation n v s) := by
  unfold setLocation
  repeat with_reducible
    first
    | exact h | apply modRecord_keeps

theorem closeRecord_keeps (n : Cp) (final : Option CallOutcome) (s : State) (h : Keeps s0 s) :
    Keeps s0 (closeRecord n final s) := by
  unfold closeRecord
  dsimp only
  repeat' with_reducible
    first
    | exact h | apply endAttempt_keeps | apply putRecord_keeps | apply withRecs_keeps | apply modCtx_keeps
    | apply raise_keeps | apply rewriteRecord_keeps | split

theorem releaseRecord_keeps (i : Fin 12) (s : State) (h : Keeps s0 s) :
    Keeps s0 (releaseRecord i s) := by
  unfold releaseRecord
  repeat with_reducible
    first
    | exact h | apply withRecs_keeps | apply rewriteRecord_keeps | apply putRecord_keeps

theorem countPress_keeps (n : Cp) (s : State) (h : Keeps s0 s) :
    Keeps s0 (countPress n s) := by
  unfold countPress
  repeat with_reducible
    first
    | exact h | apply modRecord_keeps

theorem countDrop_keeps (n : Cp) (s : State) (h : Keeps s0 s) :
    Keeps s0 (countDrop n s) := by
  unfold countDrop
  repeat with_reducible
    first
    | exact h | apply modRecord_keeps


/-! ## Voice -/

theorem setState_keeps (n : Cp) (st : CtxState) (s : State) (h : Keeps s0 s) :
    Keeps s0 (setState n st s) := by
  unfold setState
  repeat with_reducible
    first
    | exact h | apply evalMatrix_keeps | apply modCtx_keeps | apply withLamps_keeps

theorem modBurst_keeps (n : Cp) (f : Burst → Burst) (s : State) (h : Keeps s0 s) :
    Keeps s0 (modBurst n f s) := by
  unfold modBurst
  repeat with_reducible
    first
    | exact h | apply withVoice_keeps

theorem setMute_keeps (n : Cp) (v : Bool) (s : State) (h : Keeps s0 s) :
    Keeps s0 (setMute n v s) := by
  unfold setMute
  repeat with_reducible
    first
    | exact h | apply withVoice_keeps

theorem joinPath_keeps (n : Cp) (l : Lane) (s : State) (h : Keeps s0 s) :
    Keeps s0 (joinPath n l s) := by
  unfold joinPath
  repeat with_reducible
    first
    | exact h | apply setMute_keeps | apply withVoice_keeps

theorem abortBurst_keeps (n : Cp) (s : State) (h : Keeps s0 s) :
    Keeps s0 (abortBurst n s) := by
  unfold abortBurst
  repeat' with_reducible
    first
    | exact h | apply setLocation_keeps | apply setMute_keeps | apply modBurst_keeps | split

theorem breakPath_keeps (n : Cp) (s : State) (h : Keeps s0 s) :
    Keeps s0 (breakPath n s) := by
  unfold breakPath
  repeat with_reducible
    first
    | exact h | apply abortBurst_keeps | apply setMute_keeps | apply withVoice_keeps


/-! ## Link -/

theorem giveUp_keeps (p : Transaction → Bool) (s : State) (h : Keeps s0 s) :
    Keeps s0 (giveUp p s) := by
  unfold giveUp
  repeat with_reducible
    first
    | exact h | apply modLink_keeps

theorem giveUpCtx_keeps (n : Cp) (s : State) (h : Keeps s0 s) :
    Keeps s0 (giveUpCtx n s) := by
  unfold giveUpCtx
  repeat with_reducible
    first
    | exact h | apply giveUp_keeps

theorem giveUpSurvey_keeps (l : Lane) (s : State) (h : Keeps s0 s) :
    Keeps s0 (giveUpSurvey l s) := by
  unfold giveUpSurvey
  repeat with_reducible
    first
    | exact h | apply giveUp_keeps

theorem giveUpLane_keeps (l : Lane) (s : State) (h : Keeps s0 s) :
    Keeps s0 (giveUpLane l s) := by
  unfold giveUpLane
  repeat with_reducible
    first
    | exact h | apply giveUp_keeps

theorem setRequest_keeps (n : Cp) (q : Option CtxRequest) (s : State) (h : Keeps s0 s) :
    Keeps s0 (setRequest n q s) := by
  unfold setRequest
  repeat with_reducible
    first
    | exact h | apply modLink_keeps

theorem ctxRequest_keeps (n : Cp) (kind : OpKind) (args : List Byte) (s : State) (h : Keeps s0 s) :
    Keeps s0 (ctxRequest n kind args s) := by
  unfold ctxRequest
  repeat' with_reducible
    first
    | exact h | apply setRequest_keeps | apply giveUpCtx_keeps | split

theorem dropRequest_keeps (n : Cp) (s : State) (h : Keeps s0 s) :
    Keeps s0 (dropRequest n s) := by
  unfold dropRequest
  repeat with_reducible
    first
    | exact h | apply setRequest_keeps | apply giveUpCtx_keeps

theorem addMaint_keeps (l : Lane) (k : MaintKind) (s : State) (h : Keeps s0 s) :
    Keeps s0 (addMaint l k s) := by
  unfold addMaint
  repeat' with_reducible
    first
    | exact h | apply modLink_keeps | split

theorem dropMaint_keeps (l : Lane) (k : MaintKind) (s : State) (h : Keeps s0 s) :
    Keeps s0 (dropMaint l k s) := by
  unfold dropMaint
  repeat with_reducible
    first
    | exact h | apply modLink_keeps

theorem queueScan_keeps (l : Lane) (tx : ScanTx) (s : State) (h : Keeps s0 s) :
    Keeps s0 (queueScan l tx s) := by
  unfold queueScan
  repeat with_reducible
    first
    | exact h | apply withSurvey_keeps

theorem settleWait_keeps (s : State) (h : Keeps s0 s) :
    Keeps s0 (settleWait s) := by
  unfold settleWait
  repeat' with_reducible
    first
    | exact h | apply modLink_keeps | split

theorem dropScan_keeps (l : Lane) (s : State) (h : Keeps s0 s) :
    Keeps s0 (dropScan l s) := by
  unfold dropScan
  repeat with_reducible
    first
    | exact h | apply settleWait_keeps | apply withSurvey_keeps

theorem withdrawLane_keeps (l : Lane) (s : State) (h : Keeps s0 s) :
    Keeps s0 (withdrawLane l s) := by
  unfold withdrawLane
  repeat with_reducible
    first
    | exact h | apply giveUpLane_keeps | apply dropScan_keeps | apply modLink_keeps

theorem sendRequest_keeps (l : Lane) (code : ReqCode) (who : Requester) (args : List Byte) (holder : Option Owner) (s : State) (h : Keeps s0 s) :
    Keeps s0 (sendRequest l code who args holder s) := by
  unfold sendRequest
  repeat with_reducible
    first
    | exact h | apply modLink_keeps | apply modLane_keeps

theorem countWait_keeps (s : State) (h : Keeps s0 s) :
    Keeps s0 (countWait s) := by
  unfold countWait
  repeat' with_reducible
    first
    | exact h | apply modLink_keeps | split

theorem performGrant_keeps (g : Grant) (s : State) (h : Keeps s0 s) :
    Keeps s0 (performGrant g s) := by
  unfold performGrant
  repeat' with_reducible
    first
    | exact h | apply sendRequest_keeps | apply modLink_keeps | apply countWait_keeps | apply withSurvey_keeps
    | apply modScan_keeps | apply modCtx_keeps | split

theorem grantLink_keeps (s : State) (h : Keeps s0 s) :
    Keeps s0 (grantLink s) := by
  unfold grantLink
  repeat' with_reducible
    first
    | exact h | apply performGrant_keeps | split


/-! ## Lanes -/

theorem markLane_keeps (l : Lane) (s : State) (h : Keeps s0 s) :
    Keeps s0 (markLane l s) := by
  unfold markLane
  repeat with_reducible
    first
    | exact h | apply modScan_keeps

theorem markAll_keeps (s : State) (h : Keeps s0 s) :
    Keeps s0 (markAll s) := by
  unfold markAll
  repeat' with_reducible
    first
    | assumption | apply foldl_keeps | apply markLane_keeps | intro _ _ _

theorem markNeed_keeps (s : State) (h : Keeps s0 s) :
    Keeps s0 (markNeed s) := by
  unfold markNeed
  repeat with_reducible
    first
    | exact h | apply withNeedDue_keeps

theorem joinList_keeps (l : Lane) (s : State) (h : Keeps s0 s) :
    Keeps s0 (joinList l s) := by
  unfold joinList
  repeat' with_reducible
    first
    | exact h | apply markLane_keeps | apply withSurvey_keeps | split

theorem leaveList_keeps (l : Lane) (s : State) (h : Keeps s0 s) :
    Keeps s0 (leaveList l s) := by
  unfold leaveList
  repeat with_reducible
    first
    | exact h | apply withSurvey_keeps

theorem dueOnRequest_keeps (l : Lane) (s : State) (h : Keeps s0 s) :
    Keeps s0 (dueOnRequest l s) := by
  unfold dueOnRequest
  repeat with_reducible
    first
    | exact h | apply joinList_keeps | apply modScan_keeps

theorem dueNow_keeps (l : Lane) (s : State) (h : Keeps s0 s) :
    Keeps s0 (dueNow l s) := dueOnRequest_keeps _ _ (leaveList_keeps _ _ h)

theorem dueLater_keeps (l : Lane) (s : State) (h : Keeps s0 s) :
    Keeps s0 (dueLater l s) := by
  unfold dueLater
  repeat with_reducible
    first
    | exact h | apply modScan_keeps

theorem dueNever_keeps (l : Lane) (s : State) (h : Keeps s0 s) :
    Keeps s0 (dueNever l s) := by
  unfold dueNever
  repeat with_reducible
    first
    | exact h | apply leaveList_keeps | apply modScan_keeps

theorem tellRequests_keeps (l : Lane) (v : ReqStatus) (s : State) (h : Keeps s0 s) :
    Keeps s0 (tellRequests l v s) := by
  unfold tellRequests
  repeat with_reducible
    first
    | exact h | apply withSurvey_keeps

theorem staleTag_keeps (l : Lane) (s : State) (h : Keeps s0 s) :
    Keeps s0 (staleTag l s) := by
  unfold staleTag
  repeat with_reducible
    first
    | exact h | apply modLane_keeps

theorem endScan_keeps (l : Lane) (completed : Bool) (s : State) (h : Keeps s0 s) :
    Keeps s0 (endScan l completed s) := by
  unfold endScan
  repeat with_reducible
    first
    | exact h | apply modLane_keeps | apply modScan_keeps | apply tellRequests_keeps | apply dueLater_keeps

theorem scanLost_keeps (l : Lane) (s : State) (h : Keeps s0 s) :
    Keeps s0 (scanLost l s) := by
  unfold scanLost
  repeat' with_reducible
    first
    | exact h | apply endScan_keeps | apply modScan_keeps | apply giveUpSurvey_keeps | apply dropScan_keeps
    | split

theorem considerRing_keeps (l : Lane) (s : State) (h : Keeps s0 s) :
    Keeps s0 (considerRing l s) := by
  unfold considerRing
  repeat' with_reducible
    first
    | exact h | apply addMaint_keeps | split

theorem startProbe_keeps (l : Lane) (s : State) (h : Keeps s0 s) :
    Keeps s0 (startProbe l s) := by
  unfold startProbe
  repeat' with_reducible
    first
    | exact h | apply modLane_keeps | split

theorem stopProbe_keeps (l : Lane) (s : State) (h : Keeps s0 s) :
    Keeps s0 (stopProbe l s) := by
  unfold stopProbe
  repeat with_reducible
    first
    | exact h | apply dropMaint_keeps | apply modLane_keeps

theorem setOwner_keeps (l : Lane) (o : Owner) (s : State) (h : Keeps s0 s) :
    Keeps s0 (setOwner l o s) := by
  unfold setOwner
  repeat' with_reducible
    first
    | exact h | apply modLane_keeps | apply markNeed_keeps | apply markLane_keeps | apply considerRing_keeps
    | apply startProbe_keeps | apply stopProbe_keeps | split

theorem releaseSurvey_keeps (l : Lane) (s : State) (h : Keeps s0 s) :
    Keeps s0 (releaseSurvey l s) := by
  unfold releaseSurvey
  repeat' with_reducible
    first
    | exact h | apply setOwner_keeps | apply staleTag_keeps | split

theorem cutPower_keeps (l : Lane) (s : State) (h : Keeps s0 s) :
    Keeps s0 (cutPower l s) := by
  unfold cutPower
  repeat with_reducible
    first
    | exact h | apply modLane_keeps | apply setNoResp_keeps | apply withdrawLane_keeps

theorem powerOff_keeps (l : Lane) (s : State) (h : Keeps s0 s) : Keeps s0 (powerOff l s) :=
  cutPower_keeps _ _ (scanLost_keeps _ _ h)

theorem setLaneState_keeps (l : Lane) (st : LaneState) (s : State) (h : Keeps s0 s) :
    Keeps s0 (setLaneState l st s) := markNeed_keeps _ (markLane_keeps _ _ (modLane_keeps h _ _))

theorem dequeue_keeps (l : Lane) (s : State) (h : Keeps s0 s) : Keeps s0 (dequeue l s) :=
  withStartq_keeps h _ (fun hq => StartQueueInv.filter hq _)

theorem becomeReady_keeps (l : Lane) (s : State) (h : Keeps s0 s) :
    Keeps s0 (becomeReady l s) := by
  unfold becomeReady
  dsimp only
  repeat' with_reducible
    first
    | assumption | apply setLaneState_keeps | apply modLane_keeps | apply considerRing_keeps
    | apply startProbe_keeps | apply setNoResp_keeps | apply dueNow_keeps | apply foldl_keeps | intro _ _ _
    | split

theorem enqueue_keeps (l : Lane) (s : State) (hl : s.queued l = false) (h : Keeps s0 s) : Keeps s0 (enqueue l s) := by
  unfold enqueue
  split
  · exact withStartq_keeps h _ (fun hq => StartQueueInv.before hq l hl)
  · exact withStartq_keeps h _ (fun hq => StartQueueInv.behind hq l hl)

theorem requeue_keeps (l : Lane) (s : State) (h : Keeps s0 s) : Keeps s0 (requeue l s) := by
  unfold requeue
  split
  · refine enqueue_keeps l _ ?_ (dequeue_keeps l s h)
    simp [State.queued, dequeue]
  · exact h

theorem giveNeed_keeps (l : Lane) (s : State) (h : Keeps s0 s) : Keeps s0 (giveNeed l s) := by
  unfold giveNeed
  split
  · split
    · exact becomeReady_keeps l _ (dropMaint_keeps l _ s h)
    · split
      · exact requeue_keeps l s h
      · rename_i hq
        exact enqueue_keeps l s (by simpa using hq) h
  · exact h
  · exact h
  · exact h
  · exact h

theorem dropNeed_keeps (l : Lane) (s : State) (h : Keeps s0 s) :
    Keeps s0 (dropNeed l s) := by
  unfold dropNeed
  dsimp only
  repeat' with_reducible
    first
    | exact h | apply dequeue_keeps | apply powerOff_keeps | apply setLaneState_keeps | apply releaseSurvey_keeps
    | apply scanLost_keeps | apply modLane_keeps | apply stopProbe_keeps | apply addMaint_keeps | split

theorem needLane_keeps (s : State) (l : Lane) (h : Keeps s0 s) :
    Keeps s0 (needLane s l) := by
  unfold needLane
  repeat' with_reducible
    first
    | exact h | apply giveNeed_keeps | apply dropNeed_keeps | split

theorem needPass_keeps (s : State) (h : Keeps s0 s) :
    Keeps s0 (needPass s) := by
  unfold needPass
  repeat' with_reducible
    first
    | exact h | apply foldl_keeps | apply needLane_keeps | apply publishBlocks_keeps | apply withNeedDue_keeps
    | split

theorem startLane_keeps (l : Lane) (s : State) (h : Keeps s0 s) :
    Keeps s0 (startLane l s) := by
  unfold startLane
  repeat with_reducible
    first
    | exact h | apply setLaneState_keeps | apply modLane_keeps | apply dequeue_keeps

theorem startNext_keeps (s : State) (h : Keeps s0 s) :
    Keeps s0 (startNext s) := by
  unfold startNext
  repeat' with_reducible
    first
    | exact h | apply startLane_keeps | apply publishBlocks_keeps | split

theorem startRestart_keeps (l : Lane) (s : State) (h : Keeps s0 s) :
    Keeps s0 (startRestart l s) := by
  unfold startRestart
  repeat' with_reducible
    first
    | exact h | apply modLane_keeps | split

theorem shutFaulted_keeps (l : Lane) (cause : FaultCause) (s : State) (h : Keeps s0 s) :
    Keeps s0 (shutFaulted l cause s) := by
  unfold shutFaulted
  repeat with_reducible
    first
    | exact h | apply modLane_keeps | apply dequeue_keeps | apply setLaneState_keeps | apply cutPower_keeps
    | apply setOwner_keeps | apply removeLane_keeps


/-! ## Survey -/

theorem startScan_keeps (l : Lane) (s : State) (h : Keeps s0 s) :
    Keeps s0 (startScan l s) := by
  unfold startScan
  repeat with_reducible
    first
    | exact h | apply queueScan_keeps | apply modScan_keeps | apply setOwner_keeps

theorem skipLane_keeps (l : Lane) (s : State) (h : Keeps s0 s) :
    Keeps s0 (skipLane l s) := by
  unfold skipLane
  repeat with_reducible
    first
    | exact h | apply dueLater_keeps | apply modScan_keeps | apply leaveList_keeps

theorem considerLane_keeps (s : State) (l : Lane) (h : Keeps s0 s) :
    Keeps s0 (considerLane s l) := by
  unfold considerLane
  dsimp only
  repeat' with_reducible
    first
    | exact h | apply modScan_keeps | apply dueNever_keeps | apply skipLane_keeps | apply startScan_keeps
    | apply leaveList_keeps | split

theorem considerAll_keeps (s : State) (h : Keeps s0 s) :
    Keeps s0 (considerAll s) := by
  unfold considerAll
  repeat' with_reducible
    first
    | exact h | apply publishBlocks_keeps | apply foldl_keeps | apply considerLane_keeps | split

theorem abandonStage_keeps (l : Lane) (s : State) (h : Keeps s0 s) :
    Keeps s0 (abandonStage l s) := by
  unfold abandonStage
  repeat' with_reducible
    first
    | exact h | apply queueScan_keeps | apply modScan_keeps | apply dropScan_keeps | apply giveUpSurvey_keeps
    | split

theorem abandonScan_keeps (l : Lane) (s : State) (h : Keeps s0 s) :
    Keeps s0 (abandonScan l s) := by
  unfold abandonScan
  repeat' with_reducible
    first
    | exact h | apply abandonStage_keeps | apply endScan_keeps | split

theorem finishScan_keeps (l : Lane) (completed : Bool) (s : State) (h : Keeps s0 s) :
    Keeps s0 (finishScan l completed s) := by
  unfold finishScan
  repeat with_reducible
    first
    | exact h | apply releaseSurvey_keeps | apply modScan_keeps | apply endScan_keeps

theorem surveyStop_keeps (s : State) (h : Keeps s0 s) :
    Keeps s0 (surveyStop s) := by
  unfold surveyStop
  repeat' with_reducible
    first
    | assumption | apply foldl_keeps | apply releaseSurvey_keeps | apply scanLost_keeps | apply foldl_keeps
    | intro _ _ _ | split

theorem requestDue_keeps (q : SurveyReq) (s : State) (l : Lane) (h : Keeps s0 s) :
    Keeps s0 (requestDue q s l) := by
  unfold requestDue
  repeat' with_reducible
    first
    | exact h | apply dueOnRequest_keeps | split

theorem requestDues_keeps (q : SurveyReq) (s : State) (h : Keeps s0 s) :
    Keeps s0 (requestDues q s) := by
  unfold requestDues
  repeat with_reducible
    first
    | exact h | apply foldl_keeps | apply requestDue_keeps

theorem makeCtxRequest_keeps (n : Cp) (named : Lane → Bool) (s : State) (h : Keeps s0 s) :
    Keeps s0 (makeCtxRequest n named s) := by
  unfold makeCtxRequest
  repeat with_reducible
    first
    | exact h | apply requestDues_keeps | apply withSurvey_keeps

theorem makeOrderRequest_keeps (slot : Fin 8) (named : Lane → Bool) (s : State) (h : Keeps s0 s) :
    Keeps s0 (makeOrderRequest slot named s) := by
  unfold makeOrderRequest
  repeat with_reducible
    first
    | exact h | apply requestDues_keeps | apply withSurvey_keeps

theorem dropRescan_keeps (n : Cp) (s : State) (h : Keeps s0 s) :
    Keeps s0 (dropRescan n s) := by
  unfold dropRescan
  repeat with_reducible
    first
    | exact h | apply withSurvey_keeps

theorem dropOrderRequest_keeps (slot : Fin 8) (s : State) (h : Keeps s0 s) :
    Keeps s0 (dropOrderRequest slot s) := by
  unfold dropOrderRequest
  repeat with_reducible
    first
    | exact h | apply withSurvey_keeps

theorem sweepLane_keeps (s : State) (l : Lane) (h : Keeps s0 s) :
    Keeps s0 (sweepLane s l) := by
  unfold sweepLane
  repeat' with_reducible
    first
    | exact h | apply tellRequests_keeps | split

theorem skipSweep_keeps (s : State) (h : Keeps s0 s) :
    Keeps s0 (skipSweep s) := by
  unfold skipSweep
  repeat with_reducible
    first
    | exact h | apply foldl_keeps | apply sweepLane_keeps


/-! ## Calls -/

theorem releaseClaim_keeps (n : Cp) (s : State) (h : Keeps s0 s) :
    Keeps s0 (releaseClaim n s) := by
  unfold releaseClaim
  dsimp only
  repeat' with_reducible
    first
    | exact h | apply modCtx_keeps | apply staleTag_keeps | apply dropRequest_keeps | apply setOwner_keeps
    | split

theorem takeLane_keeps (n : Cp) (l : Lane) (s : State) (h : Keeps s0 s) :
    Keeps s0 (takeLane n l s) := by
  unfold takeLane
  repeat' with_reducible
    first
    | exact h | apply abandonScan_keeps | apply releaseClaim_keeps | apply setOwner_keeps | apply modCtx_keeps
    | split

theorem clearPendingClaim_keeps (n : Cp) (s : State) (h : Keeps s0 s) :
    Keeps s0 (clearPendingClaim n s) := by
  unfold clearPendingClaim
  repeat' with_reducible
    first
    | exact h | apply markNeed_keeps | apply modCtx_keeps | split

theorem staleClaim_keeps (n : Cp) (s : State) (h : Keeps s0 s) :
    Keeps s0 (staleClaim n s) := by
  unfold staleClaim
  repeat' with_reducible
    first
    | exact h | apply staleTag_keeps | split

theorem setCamp_keeps (l : Lane) (v : Option Network) (s : State) (h : Keeps s0 s) :
    Keeps s0 (setCamp l v s) := by
  unfold setCamp
  repeat with_reducible
    first
    | exact h | apply modLane_keeps

theorem clearCamp_keeps (n : Cp) (s : State) (h : Keeps s0 s) :
    Keeps s0 (clearCamp n s) := by
  unfold clearCamp
  repeat' with_reducible
    first
    | exact h | apply setCamp_keeps | split

theorem stopStep_keeps (n : Cp) (s : State) (h : Keeps s0 s) :
    Keeps s0 (stopStep n s) := by
  unfold stopStep
  repeat with_reducible
    first
    | exact h | apply modCtx_keeps

theorem startStep_keeps (n : Cp) (d : Nat) (s : State) (h : Keeps s0 s) :
    Keeps s0 (startStep n d s) := by
  unfold startStep
  repeat with_reducible
    first
    | exact h | apply modCtx_keeps

theorem stepMove_keeps (n : Cp) (target : Option Nat) (s : State) (h : Keeps s0 s) :
    Keeps s0 (stepMove n target s) := by
  unfold stepMove
  repeat with_reducible
    first
    | exact h | apply modCtx_keeps

theorem joinTried_keeps (n : Cp) (s : State) (h : Keeps s0 s) :
    Keeps s0 (joinTried n s) := by
  unfold joinTried
  repeat with_reducible
    first
    | exact h | apply modCtx_keeps

theorem classStep_keeps (n : Cp) (o : CallOutcome) (s : State) (h : Keeps s0 s) :
    Keeps s0 (classStep n o s) := by
  unfold classStep
  dsimp only
  repeat' with_reducible
    first
    | exact h | apply modCtx_keeps | apply stepMove_keeps | apply joinTried_keeps | split

theorem leaveConnected_keeps (n : Cp) (s : State) (h : Keeps s0 s) :
    Keeps s0 (leaveConnected n s) := by
  unfold leaveConnected
  repeat' with_reducible
    first
    | exact h | apply modCtx_keeps | apply endAttempt_keeps | apply breakPath_keeps | split

theorem enterClearing_keeps (n : Cp) (pend : Option CallOutcome) (s : State) (h : Keeps s0 s) :
    Keeps s0 (enterClearing n pend s) := by
  unfold enterClearing
  repeat with_reducible
    first
    | exact h | apply stopStep_keeps | apply leaveConnected_keeps | apply modCtx_keeps | apply ctxRequest_keeps
    | apply setState_keeps

theorem replacePending_keeps (n : Cp) (o : CallOutcome) (s : State) (h : Keeps s0 s) :
    Keeps s0 (replacePending n o s) := by
  unfold replacePending
  repeat' with_reducible
    first
    | exact h | apply modCtx_keeps | split

theorem stopTimers_keeps (n : Cp) (s : State) (h : Keeps s0 s) :
    Keeps s0 (stopTimers n s) := by
  unfold stopTimers
  repeat with_reducible
    first
    | exact h | apply modCtx_keeps

theorem toIdle_keeps (n : Cp) (final : Option CallOutcome) (s : State) (h : Keeps s0 s) :
    Keeps s0 (toIdle n final s) := by
  unfold toIdle
  repeat with_reducible
    first
    | exact h | apply setState_keeps | apply closeRecord_keeps | apply releaseClaim_keeps
    | apply stopTimers_keeps

theorem endWatch_keeps (n : Cp) (s : State) (h : Keeps s0 s) :
    Keeps s0 (endWatch n s) := by
  unfold endWatch
  repeat with_reducible
    first
    | exact h | apply toIdle_keeps

theorem endCall_keeps (n : Cp) (o : CallOutcome) (s : State) (h : Keeps s0 s) :
    Keeps s0 (endCall n o s) := by
  unfold endCall
  dsimp only
  repeat' with_reducible
    first
    | exact h | apply endAttempt_keeps | apply setLast_keeps | apply dropRescan_keeps | apply dropRequest_keeps
    | apply toIdle_keeps | apply modCtx_keeps | apply setState_keeps | apply stopTimers_keeps
    | apply clearPendingClaim_keeps | split

theorem restartWatch_keeps (n : Cp) (s : State) (h : Keeps s0 s) :
    Keeps s0 (restartWatch n s) := by
  unfold restartWatch
  dsimp only
  repeat' with_reducible
    first
    | exact h | apply dropRequest_keeps | apply endWatch_keeps | apply modCtx_keeps | apply setState_keeps
    | split

theorem startCall_keeps (n : Cp) (kind : CallKind) (source : CallSource) (number : Option (Fin 4)) (hold : Bool) (s : State) (h : Keeps s0 s) :
    Keeps s0 (startCall n kind source number hold s) := by
  unfold startCall
  repeat with_reducible
    first
    | exact h | apply openRecord_keeps | apply modCtx_keeps | apply setState_keeps

theorem takeRequest_keeps (n : Cp) (kind : CallKind) (source : CallSource) (number : Option (Fin 4)) (hold : Bool) (s : State) (h : Keeps s0 s) :
    Keeps s0 (takeRequest n kind source number hold s) := by
  unfold takeRequest
  repeat' with_reducible
    first
    | exact h | apply closeRecord_keeps | apply modCtx_keeps | apply startCall_keeps | split

theorem startEmergency_keeps (n : Cp) (s : State) (h : Keeps s0 s) :
    Keeps s0 (startEmergency n s) := by
  unfold startEmergency
  repeat with_reducible
    first
    | exact h | apply startCall_keeps | apply modCtx_keeps

theorem finishTeardown_keeps (n : Cp) (o : CallOutcome) (s : State) (h : Keeps s0 s) :
    Keeps s0 (finishTeardown n o s) := by
  unfold finishTeardown
  repeat' with_reducible
    first
    | exact h | apply clearPendingClaim_keeps | apply dropRescan_keeps | apply dropRequest_keeps
    | apply startEmergency_keeps | apply closeRecord_keeps | apply releaseClaim_keeps | apply stopTimers_keeps
    | apply endCall_keeps | split

theorem teardown_keeps (n : Cp) (o : CallOutcome) (s : State) (h : Keeps s0 s) :
    Keeps s0 (teardown n o s) := by
  unfold teardown
  repeat' with_reducible
    first
    | exact h | apply enterClearing_keeps | apply replacePending_keeps | apply finishTeardown_keeps
    | apply staleClaim_keeps | split

theorem preemptOwn_keeps (n : Cp) (s : State) (h : Keeps s0 s) :
    Keeps s0 (preemptOwn n s) := by
  unfold preemptOwn
  repeat' with_reducible
    first
    | exact h | apply teardown_keeps | apply modCtx_keeps | split

theorem refuseSupply_keeps (n : Cp) (s : State) (h : Keeps s0 s) :
    Keeps s0 (refuseSupply n s) := by
  unfold refuseSupply
  repeat' with_reducible
    first
    | exact h | apply teardown_keeps | split

theorem settleOutcome_keeps (n : Cp) (o : CallOutcome) (s : State) (h : Keeps s0 s) :
    Keeps s0 (settleOutcome n o s) := by
  unfold settleOutcome
  repeat with_reducible
    first
    | exact h | apply classStep_keeps | apply endAttempt_keeps | apply setLast_keeps | apply setState_keeps

theorem applyOutcome_keeps (n : Cp) (o : CallOutcome) (s : State) (h : Keeps s0 s) :
    Keeps s0 (applyOutcome n o s) := by
  unfold applyOutcome
  repeat with_reducible
    first
    | exact h | apply settleOutcome_keeps | apply outcomeToTable_keeps | apply stopStep_keeps
    | apply dropRequest_keeps

theorem clearingOutcome_keeps (n : Cp) (o : CallOutcome) (s : State) (h : Keeps s0 s) :
    Keeps s0 (clearingOutcome n o s) := by
  unfold clearingOutcome
  repeat with_reducible
    first
    | exact h | apply enterClearing_keeps | apply endAttempt_keeps | apply outcomeToTable_keeps

theorem leaveClearing_keeps (n : Cp) (s : State) (h : Keeps s0 s) :
    Keeps s0 (leaveClearing n s) := by
  unfold leaveClearing
  dsimp only
  repeat' with_reducible
    first
    | exact h | apply modCtx_keeps | apply dropRequest_keeps | apply startEmergency_keeps
    | apply closeRecord_keeps | apply releaseClaim_keeps | apply stopTimers_keeps | apply endWatch_keeps
    | apply endCall_keeps | apply settleOutcome_keeps | split

theorem dequeueClaim_keeps (n : Cp) (s : State) (h : Keeps s0 s) :
    Keeps s0 (dequeueClaim n s) := by
  unfold dequeueClaim
  repeat' with_reducible
    first
    | exact h | apply dequeue_keeps | split

theorem cancel_keeps (n : Cp) (byOrder : Bool) (s : State) (h : Keeps s0 s) :
    Keeps s0 (cancel n byOrder s) := by
  unfold cancel
  repeat' with_reducible
    first
    | exact h | apply endCall_keeps | apply clearPendingClaim_keeps | apply dequeueClaim_keeps
    | apply releaseClaim_keeps | apply staleClaim_keeps | apply enterClearing_keeps | apply replacePending_keeps
    | apply endWatch_keeps | split

theorem endPauseStep_keeps (n : Cp) (s : State) (h : Keeps s0 s) :
    Keeps s0 (endPauseStep n s) := by
  unfold endPauseStep
  repeat with_reducible
    first
    | exact h | apply setState_keeps | apply stepMove_keeps | apply stopStep_keeps

theorem endRetryPause_keeps (n : Cp) (s : State) (h : Keeps s0 s) :
    Keeps s0 (endRetryPause n s) := by
  unfold endRetryPause
  repeat with_reducible
    first
    | exact h | apply modRecord_keeps | apply stopStep_keeps | apply setState_keeps | apply modCtx_keeps
    | apply stepMove_keeps

theorem endPause_keeps (n : Cp) (s : State) (h : Keeps s0 s) :
    Keeps s0 (endPause n s) := by
  unfold endPause
  repeat' with_reducible
    first
    | exact h | apply endRetryPause_keeps | apply endPauseStep_keeps | split

theorem endSurveyWait_keeps (n : Cp) (s : State) (h : Keeps s0 s) :
    Keeps s0 (endSurveyWait n s) := by
  unfold endSurveyWait
  repeat with_reducible
    first
    | exact h | apply endPauseStep_keeps | apply dropRescan_keeps

theorem startDial_keeps (n : Cp) (s : State) (h : Keeps s0 s) :
    Keeps s0 (startDial n s) := by
  unfold startDial
  repeat with_reducible
    first
    | exact h | apply startStep_keeps | apply setState_keeps | apply ctxRequest_keeps

theorem startAttach_keeps (n : Cp) (op : OpCode) (mask : BitVec 4) (s : State) (h : Keeps s0 s) :
    Keeps s0 (startAttach n op mask s) := by
  unfold startAttach
  repeat with_reducible
    first
    | exact h | apply startStep_keeps | apply setState_keeps | apply ctxRequest_keeps

theorem proceedOnReady_keeps (n : Cp) (l : Lane) (s : State) (h : Keeps s0 s) :
    Keeps s0 (proceedOnReady n l s) := by
  unfold proceedOnReady
  repeat' with_reducible
    first
    | exact h | apply startDial_keeps | apply startAttach_keeps | split

theorem sendGroup_keeps (n : Cp) (s : State) (h : Keeps s0 s) :
    Keeps s0 (sendGroup n s) := by
  unfold sendGroup
  repeat with_reducible
    first
    | exact h | apply ctxRequest_keeps | apply modBurst_keeps

theorem beginBurst_keeps (n : Cp) (s : State) (h : Keeps s0 s) :
    Keeps s0 (beginBurst n s) := by
  unfold beginBurst
  dsimp only
  repeat' with_reducible
    first
    | exact h | apply setLocation_keeps | apply sendGroup_keeps | apply setMute_keeps | apply modBurst_keeps
    | split

theorem endBurst_keeps (n : Cp) (s : State) (h : Keeps s0 s) :
    Keeps s0 (endBurst n s) := by
  unfold endBurst
  repeat with_reducible
    first
    | exact h | apply rewriteOwn_keeps | apply setLocation_keeps | apply setMute_keeps | apply modBurst_keeps

theorem recordConnect_keeps (n : Cp) (s : State) (h : Keeps s0 s) :
    Keeps s0 (recordConnect n s) := by
  unfold recordConnect
  dsimp only
  repeat' with_reducible
    first
    | exact h | apply modRecord_keeps | apply raise_keeps | apply flushRecord_keeps | split

theorem connect_keeps (n : Cp) (s : State) (h : Keeps s0 s) :
    Keeps s0 (connect n s) := by
  unfold connect
  dsimp only
  repeat' with_reducible
    first
    | exact h | apply outcomeToTable_keeps | apply stopStep_keeps | apply modCtx_keeps | apply joinPath_keeps
    | apply setState_keeps | apply setLast_keeps | apply recordConnect_keeps | apply beginBurst_keeps | split

theorem connectCallback_keeps (n : Cp) (s : State) (h : Keeps s0 s) :
    Keeps s0 (connectCallback n s) := by
  unfold connectCallback
  repeat' with_reducible
    first
    | exact h | apply modCtx_keeps | apply joinPath_keeps | apply setState_keeps | apply recordConnect_keeps
    | apply modRecord_keeps | split

theorem redial_keeps (n : Cp) (l : Lane) (s : State) (h : Keeps s0 s) :
    Keeps s0 (redial n l s) := by
  unfold redial
  repeat with_reducible
    first
    | exact h | apply startDial_keeps | apply beginAttempt_keeps

theorem lostPlaced_keeps (n : Cp) (s : State) (h : Keeps s0 s) :
    Keeps s0 (lostPlaced n s) := by
  unfold lostPlaced
  dsimp only
  repeat' with_reducible
    first
    | exact h | apply countDrop_keeps | apply leaveConnected_keeps | apply dropRequest_keeps
    | apply endAttempt_keeps | apply setLast_keeps | apply outcomeToTable_keeps | apply modCtx_keeps
    | apply setState_keeps | apply redial_keeps | split

theorem lostCallback_keeps (n : Cp) (s : State) (h : Keeps s0 s) :
    Keeps s0 (lostCallback n s) := by
  unfold lostCallback
  repeat with_reducible
    first
    | exact h | apply restartWatch_keeps | apply setLast_keeps | apply countDrop_keeps
    | apply leaveConnected_keeps

theorem remoteCleared_keeps (n : Cp) (s : State) (h : Keeps s0 s) :
    Keeps s0 (remoteCleared n s) := by
  unfold remoteCleared
  repeat' with_reducible
    first
    | exact h | apply leaveConnected_keeps | apply endCall_keeps | apply restartWatch_keeps | apply setLast_keeps
    | split

theorem callLost_keeps (n : Cp) (s : State) (h : Keeps s0 s) :
    Keeps s0 (callLost n s) := by
  unfold callLost
  repeat' with_reducible
    first
    | exact h | apply applyOutcome_keeps | apply lostPlaced_keeps | apply lostCallback_keeps | split

theorem ring_keeps (n : Cp) (s : State) (h : Keeps s0 s) :
    Keeps s0 (ring n s) := by
  unfold ring
  repeat' with_reducible
    first
    | exact h | apply setState_keeps | apply modRecord_keeps | apply modCtx_keeps | split

theorem answerRing_keeps (n : Cp) (s : State) (h : Keeps s0 s) :
    Keeps s0 (answerRing n s) := by
  unfold answerRing
  repeat' with_reducible
    first
    | exact h | apply countPress_keeps | apply ctxRequest_keeps | split

theorem ringEnds_keeps (n : Cp) (s : State) (h : Keeps s0 s) :
    Keeps s0 (ringEnds n s) := by
  unfold ringEnds
  repeat' with_reducible
    first
    | exact h | apply restartWatch_keeps | apply staleClaim_keeps | split

theorem serviceLost_keeps (n : Cp) (s : State) (h : Keeps s0 s) :
    Keeps s0 (serviceLost n s) := by
  unfold serviceLost
  repeat' with_reducible
    first
    | exact h | apply applyOutcome_keeps | apply staleClaim_keeps | apply lostPlaced_keeps
    | apply lostCallback_keeps | apply ringEnds_keeps | split

theorem clearedRemote_keeps (n : Cp) (s : State) (h : Keeps s0 s) :
    Keeps s0 (clearedRemote n s) := by
  unfold clearedRemote
  repeat' with_reducible
    first
    | exact h | apply applyOutcome_keeps | apply remoteCleared_keeps | apply ringEnds_keeps | split

theorem faultByState_keeps (n : Cp) (s : State) (h : Keeps s0 s) :
    Keeps s0 (faultByState n s) := by
  unfold faultByState
  repeat' with_reducible
    first
    | exact h | apply applyOutcome_keeps | apply leaveConnected_keeps | apply countDrop_keeps
    | apply toIdle_keeps | apply leaveClearing_keeps | apply endWatch_keeps | split

theorem tellFault_keeps (n : Cp) (l : Lane) (s : State) (h : Keeps s0 s) :
    Keeps s0 (tellFault n l s) := by
  unfold tellFault
  dsimp only
  repeat' with_reducible
    first
    | exact h | apply faultByState_keeps | apply modCtx_keeps | apply applyOutcome_keeps
    | apply clearPendingClaim_keeps | split

theorem faultLane_keeps (l : Lane) (cause : FaultCause) (s : State) (h : Keeps s0 s) :
    Keeps s0 (faultLane l cause s) := by
  unfold faultLane
  repeat with_reducible
    first
    | exact h | apply startRestart_keeps | apply tellFault_keeps | apply scanLost_keeps | apply showLane_keeps | apply shutFaulted_keeps


/-! ## Evaluate -/

theorem startAttempt_keeps (n : Cp) (p : Pick) (s : State) (h : Keeps s0 s) :
    Keeps s0 (startAttempt n p s) := by
  unfold startAttempt
  repeat with_reducible
    first
    | exact h | apply modCtx_keeps | apply beginAttempt_keeps

theorem waitForPreempted_keeps (n : Cp) (p : Pick) (s : State) (h : Keeps s0 s) :
    Keeps s0 (waitForPreempted n p s) := by
  unfold waitForPreempted
  repeat with_reducible
    first
    | exact h | apply releaseClaim_keeps | apply startAttempt_keeps | apply markNeed_keeps | apply modCtx_keeps
    | apply teardown_keeps | apply setState_keeps

theorem claimAndGo_keeps (n : Cp) (p : Pick) (s : State) (h : Keeps s0 s) :
    Keeps s0 (claimAndGo n p s) := by
  unfold claimAndGo
  dsimp only
  repeat' with_reducible
    first
    | exact h | apply takeLane_keeps | apply startAttempt_keeps | apply proceedOnReady_keeps
    | apply setState_keeps | split

theorem enterPause_keeps (n : Cp) (wait : Nat) (s : State) (h : Keeps s0 s) :
    Keeps s0 (enterPause n wait s) := by
  unfold enterPause
  repeat with_reducible
    first
    | exact h | apply modCtx_keeps | apply endPause_keeps | apply startStep_keeps | apply releaseClaim_keeps
    | apply setState_keeps

theorem reachEnd_keeps (n : Cp) (s : State) (h : Keeps s0 s) :
    Keeps s0 (reachEnd n s) := by
  unfold reachEnd
  dsimp only
  repeat' with_reducible
    first
    | exact h | apply releaseClaim_keeps | apply modCtx_keeps | apply endPause_keeps | apply startStep_keeps
    | apply setState_keeps | apply endCall_keeps | split

theorem refuseNumber_keeps (n : Cp) (a : AttemptStep) (p : Pick) (s : State) (h : Keeps s0 s) :
    Keeps s0 (refuseNumber n a p s).state := by
  have h' := setLast_keeps n .numberRefused _ (endAttempt_keeps n .numberRefused _ (startAttempt_keeps n p s h))
  unfold refuseNumber; dsimp only
  split
  · exact setState_keeps _ _ _ (stepMove_keeps _ _ _ h')
  · exact h'

theorem actOn_keeps (n : Cp) (a : AttemptStep) (num : NumberEntry) (p : Option Pick) (s : State) (h : Keeps s0 s) :
    Keeps s0 (actOn n a num p s).state := by
  unfold actOn
  cases p with
  | none => exact h
  | some p =>
    dsimp only
    split
    · exact refuseNumber_keeps n a p s h
    · split
      · exact waitForPreempted_keeps n p s h
      · exact claimAndGo_keeps n p s h

theorem enterRescan_keeps (n : Cp) (wait : Nat) (s : State) (h : Keeps s0 s) :
    Keeps s0 (enterRescan n wait s).state := by
  have h' := startNext_keeps _ (needPass_keeps _ (releaseClaim_keeps n s h))
  unfold enterRescan; dsimp only
  split
  · exact setState_keeps _ _ _ (startStep_keeps _ _ _ (makeCtxRequest_keeps _ _ _ h'))
  · exact h'

theorem evalStep_keeps (n : Cp) (s : State) (h : Keeps s0 s) : Keeps s0 (evalStep n s).state := by
  unfold evalStep
  dsimp only
  split
  · exact reachEnd_keeps n s h
  · split
    · exact reachEnd_keeps n s h
    · exact reachEnd_keeps n s h
    · exact enterPause_keeps n _ s h
    · exact enterRescan_keeps n _ s h
    · exact actOn_keeps n _ _ _ _ (modCtx_keeps h _ _)
    · exact actOn_keeps n _ _ _ _ (modCtx_keeps h _ _)

theorem evalLoop_keeps (n : Cp) (k : Nat) (s : State) (h : Keeps s0 s) : Keeps s0 (evalLoop n k s) := by
  induction k generalizing s with
  | zero =>
    have h' := evalStep_keeps n s h
    unfold evalLoop
    cases e : evalStep n s with
    | done t => rw [e] at h'; exact h'
    | move t g => rw [e] at h'; exact reachEnd_keeps _ _ (publish_keeps _ (showRecord_keeps _ _ (stepMove_keeps _ _ _ h')))
  | succ k ih =>
    have h' := evalStep_keeps n s h
    unfold evalLoop
    cases e : evalStep n s with
    | done t => rw [e] at h'; exact h'
    | move t g => rw [e] at h'; exact ih _ (publish_keeps _ (showRecord_keeps _ _ (stepMove_keeps _ _ _ h')))

theorem evaluate_keeps (n : Cp) (s : State) (h : Keeps s0 s) : Keeps s0 (evaluate n s) := by
  unfold evaluate; split
  · exact evalLoop_keeps _ _ _ (publish_keeps _ h)
  · exact h


/-! ## Operands -/

theorem setSlotState_keeps (i : Fin 8) (b : Byte) (s : State) (h : Keeps s0 s) :
    Keeps s0 (setSlotState i b s) :=
  place_keeps h _ _ _ (by
    unfold slotAddr; have : Config.slotBase + 256 ≤ Config.memSize := by decide
    have := i.isLt; omega)

theorem completeOrder_keeps (i : Fin 8) (r : ResultCode) (detail : List Byte) (s : State) (h : Keeps s0 s) :
    Keeps s0 (completeOrder i r detail s) := by
  have h' : Keeps s0 (s.withMem (s.mem.place (slotAddr i + 16) 16 ([r.code, 0] ++ detail))) :=
    place_keeps h _ _ _ (by
      unfold slotAddr; have : Config.slotBase + 256 ≤ Config.memSize := by decide
      have := i.isLt; omega)
  unfold completeOrder; dsimp only
  exact raise_keeps _ _ (withOrders_keeps (setSlotState_keeps _ _ _ h') _)

theorem takeOrder_keeps (i : Fin 8) (s : State) (h : Keeps s0 s) :
    Keeps s0 (takeOrder i s) := by
  unfold takeOrder
  repeat with_reducible
    first
    | exact h | apply setSlotState_keeps | apply withOrders_keeps

theorem waitOrder_keeps (i : Fin 8) (w : Wait) (s : State) (h : Keeps s0 s) :
    Keeps s0 (waitOrder i w s) := by
  unfold waitOrder
  repeat with_reducible
    first
    | exact h | apply withOrders_keeps


/-! ## Settle -/

theorem proceed_keeps (n : Cp) (s : State) (h : Keeps s0 s) :
    Keeps s0 (proceed n s) := by
  unfold proceed
  repeat' with_reducible
    first
    | exact h | apply proceedOnReady_keeps | apply publish_keeps | split

theorem leaveSurveyWait_keeps (n : Cp) (s : State) (h : Keeps s0 s) :
    Keeps s0 (leaveSurveyWait n s) := by
  unfold leaveSurveyWait
  repeat' with_reducible
    first
    | exact h | apply endSurveyWait_keeps | apply publish_keeps | split

theorem completeSurvey_keeps (s : State) (x : Fin 8 × SurveyReq) (h : Keeps s0 s) :
    Keeps s0 (completeSurvey s x) := by
  unfold completeSurvey
  repeat with_reducible
    first
    | exact h | apply completeOrder_keeps | apply dropOrderRequest_keeps

theorem completeSurveys_keeps (s : State) (h : Keeps s0 s) :
    Keeps s0 (completeSurveys s) := by
  unfold completeSurveys
  repeat with_reducible
    first
    | exact h | apply foldl_keeps | apply completeSurvey_keeps

theorem activatePlan_keeps (s : State) (h : Keeps s0 s) :
    Keeps s0 (activatePlan s) := by
  unfold activatePlan
  repeat' with_reducible
    first
    | exact h | apply withPlan_keeps | apply completeOrder_keeps | split

theorem round_keeps (s : State) (h : Keeps s0 s) :
    Keeps s0 (round s) := by
  unfold round
  repeat with_reducible
    first
    | exact h | apply evaluate_keeps | apply needPass_keeps | apply startNext_keeps | apply proceed_keeps
    | apply skipSweep_keeps | apply considerAll_keeps | apply leaveSurveyWait_keeps | apply completeSurveys_keeps
    | apply activatePlan_keeps

theorem settleRounds_keeps (k : Nat) (s : State) (h : Keeps s0 s) : Keeps s0 (settleRounds k s) := by
  induction k generalizing s with
  | zero => exact h
  | succ k ih =>
    unfold settleRounds
    split
    · exact ih _ (round_keeps s h)
    · exact h

theorem settle_keeps (s : State) (h : Keeps s0 s) : Keeps s0 (settle s) := settleRounds_keeps _ s h

theorem finish_keeps (s : State) (h : Keeps s0 s) :
    Keeps s0 (finish s) := by
  unfold finish
  repeat with_reducible
    first
    | exact h | apply publish_keeps | apply grantLink_keeps | apply settle_keeps


/-! ## Supply -/

theorem takeReadings_keeps (plain : Bool) (battery temperature : BitVec 16) (s : State) (h : Keeps s0 s) :
    Keeps s0 (takeReadings plain battery temperature s) := by
  unfold takeReadings
  repeat with_reducible
    first
    | exact h | apply modSupply_keeps

theorem rereadStandby_keeps (s : State) (l : Lane) (h : Keeps s0 s) :
    Keeps s0 (rereadStandby s l) := by
  unfold rereadStandby
  repeat' with_reducible
    first
    | exact h | apply modLane_keeps | split

theorem levelChanged_keeps (wasStopped : Bool) (s : State) (h : Keeps s0 s) :
    Keeps s0 (levelChanged wasStopped s) := by
  unfold levelChanged
  repeat' with_reducible
    first
    | exact h | apply evalMatrix_keeps | apply surveyStop_keeps | apply markAll_keeps | apply refuseSupply_keeps
    | apply raise_keeps | apply markNeed_keeps | split

theorem measure_keeps (battery temperature : BitVec 16) (s : State) (h : Keeps s0 s) :
    Keeps s0 (measure battery temperature s) := by
  unfold measure
  dsimp only
  repeat' with_reducible
    first
    | exact h | apply rewriteStatus_keeps | apply takeReadings_keeps | apply markNeed_keeps | apply foldl_keeps
    | apply rereadStandby_keeps | apply levelChanged_keeps | split

theorem changePower_keeps (p : PowerState) (s : State) (h : Keeps s0 s) :
    Keeps s0 (changePower p s) := by
  unfold changePower
  repeat' with_reducible
    first
    | exact h | apply rewriteStatus_keeps | apply modSupply_keeps | apply surveyStop_keeps | apply markAll_keeps
    | apply raise_keeps | apply markNeed_keeps | split

theorem enterDormant_keeps (s : State) (h : Keeps s0 s) :
    Keeps s0 (enterDormant s) := by
  unfold enterDormant
  repeat with_reducible
    first
    | exact h | apply changePower_keeps | apply modSupply_keeps

theorem leaveDormant_keeps (s : State) (h : Keeps s0 s) :
    Keeps s0 (leaveDormant s) := by
  unfold leaveDormant
  repeat' with_reducible
    first
    | exact h | apply measure_keeps | apply changePower_keeps | split

theorem wake_keeps (s : State) (h : Keeps s0 s) :
    Keeps s0 (wake s) := by
  unfold wake
  repeat' with_reducible
    first
    | exact h | apply finish_keeps | apply leaveDormant_keeps | split

theorem callByState_keeps (n : Cp) (s : State) (h : Keeps s0 s) :
    Keeps s0 (callByState n s) := by
  unfold callByState
  dsimp only
  repeat' with_reducible
    first
    | exact h | apply preemptOwn_keeps | apply countPress_keeps | apply takeRequest_keeps
    | apply answerRing_keeps | apply endPause_keeps | split

theorem callTaken_keeps (n : Cp) (s : State) (h : Keeps s0 s) :
    Keeps s0 (callTaken n s) := by
  unfold callTaken
  repeat with_reducible
    first
    | exact h | apply raise_keeps | apply callByState_keeps | apply wake_keeps

theorem unraise_keeps (f : TrigFn) (s : State) (h : Keeps s0 s) :
    Keeps s0 (unraise f s) := by
  unfold unraise
  repeat with_reducible
    first
    | exact h | apply modMatrix_keeps

theorem hold_keeps (f : TrigFn) (s : State) (h : Keeps s0 s) :
    Keeps s0 (hold f s) := by
  unfold hold
  repeat' with_reducible
    first
    | exact h | apply modMatrix_keeps | split


/-! ## HostPort -/

theorem setPtr_keeps (w : Window) (v : BitVec 13) (s : State) (h : Keeps s0 s) : Keeps s0 (setPtr w v s) := by
  unfold setPtr; split <;> exact modPort_keeps h _ (fun _ k => k)

theorem advance_keeps (w : Window) (s : State) (h : Keeps s0 s) :
    Keeps s0 (advance w s) := by
  unfold advance
  repeat with_reducible
    first
    | exact h | apply setPtr_keeps

theorem setCap_keeps (w : Window) (v : Option Byte) (s : State) (h : Keeps s0 s) : Keeps s0 (setCap w v s) := by
  unfold setCap; split <;> exact modPort_keeps h _ (fun _ k => k)

theorem dropWrite_keeps (s : State) (h : Keeps s0 s) :
    Keeps s0 (dropWrite s) := by
  unfold dropWrite
  repeat with_reducible
    first
    | exact h | apply flushStatus_keeps | apply raise_keeps | apply countWindow_keeps

theorem writeSlotState_keeps (i : Fin 8) (b : Byte) (s : State) (h : Keeps s0 s) :
    Keeps s0 (writeSlotState i b s) := by
  unfold writeSlotState
  repeat' with_reducible
    first
    | exact h | apply setSlotState_keeps | apply wake_keeps | apply withOrders_keeps | apply dropWrite_keeps
    | split

theorem writeSlotBody_keeps (i : Fin 8) (a : Nat) (b : Byte) (s : State) (ha : a < Config.memSize) (h : Keeps s0 s) :
    Keeps s0 (writeSlotBody i a b s) := by
  unfold writeSlotBody
  split
  · exact withMem_keeps h _ (fun hm => Memory.wf_write s.mem a b hm ha)
  · exact dropWrite_keeps s h

theorem writeRecordState_keeps (i : Fin 12) (b : Byte) (s : State) (h : Keeps s0 s) :
    Keeps s0 (writeRecordState i b s) := by
  unfold writeRecordState
  repeat' with_reducible
    first
    | exact h | apply releaseRecord_keeps | apply dropWrite_keeps | split

theorem mediate_keeps (a : Nat) (b : Byte) (s : State) (ha : a < Config.memSize) (h : Keeps s0 s) :
    Keeps s0 (mediate a b s) := by
  unfold mediate
  split
  · exact withMem_keeps h _ (fun hm => Memory.wf_write s.mem a b hm ha)
  · exact dropWrite_keeps s h
  · exact writeSlotState_keeps _ b s h
  · exact writeSlotBody_keeps _ a b s ha h
  · exact writeRecordState_keeps _ b s h

theorem hostWrite_keeps (a : Nat) (b : Byte) (s : State) (ha : a < Config.memSize) (h : Keeps s0 s) :
    Keeps s0 (hostWrite a b s) := by
  unfold hostWrite
  split
  · exact mediate_keeps a b s ha h
  · exact h

theorem resetPort_keeps (s : State) (h : Keeps s0 s) : Keeps s0 (resetPort s) :=
  modPort_keeps h _ (fun _ _ _ => rfl)

theorem openTxn_keeps (b : Byte) (s : State) (h : Keeps s0 s) : Keeps s0 (openTxn b s) := by
  unfold openTxn
  refine withSnap_keeps (modPort_keeps h _ ?_) _
  exact fun _ k => k

theorem takePtrByte_keeps (w : Window) (t : HostTxn) (b : Byte) (s : State) (h : Keeps s0 s) :
    Keeps s0 (takePtrByte w t b s) := by
  unfold takePtrByte
  split
  · exact modPort_keeps h _ (fun _ k => k)
  · split
    · exact setPtr_keeps _ _ _ (modPort_keeps h _ (fun _ k => k))
    · exact h


/-! ## Resets -/

theorem evenAll_keeps (s : State) (h : Keeps s0 s) : Keeps s0 (evenAll s) := by
  have fold : ∀ (ls : List Lane) (m : Memory), m.wf = true →
      (ls.foldl (fun m l => m.makeEven (laneAddr l)) m).wf = true := by
    intro ls
    induction ls with
    | nil => exact fun m hm => hm
    | cons l ls ih => exact fun m hm => ih _ (Memory.wf_makeEven m (laneAddr l) hm (by cases l <;> decide))
  unfold evenAll
  exact withMem_keeps h _ (fun hm => fold lanes _ (Memory.wf_makeEven _ Config.mirrorBase
    (Memory.wf_makeEven s.mem Config.statusBase hm (by decide)) (by decide)))

theorem evenRecord_keeps (i : Fin 12) (s : State) (h : Keeps s0 s) : Keeps s0 (evenRecord i s) := by
  refine withMem_keeps h _ (fun hm => Memory.wf_makeEven s.mem _ hm ?_)
  unfold recordAddr; have : Config.recordBase + 256 * 12 ≤ Config.memSize := by decide
  have := i.isLt; omega

theorem mendRecord_keeps (s : State) (i : Fin 12) (h : Keeps s0 s) : Keeps s0 (mendRecord s i) := by
  unfold mendRecord
  split
  · exact rewriteRecord_keeps i _ (evenRecord_keeps i s h)
  · exact h

theorem evenOwn_keeps (n : Cp) (s : State) (h : Keeps s0 s) : Keeps s0 (evenOwn n s) := by
  unfold evenOwn
  split
  · exact h
  · exact evenRecord_keeps _ s h

theorem closeForReset_keeps (n : Cp) (s : State) (h : Keeps s0 s) :
    Keeps s0 (closeForReset n s) := by
  unfold closeForReset
  repeat with_reducible
    first
    | exact h | apply closeRecord_keeps | apply evenOwn_keeps | apply breakPath_keeps

theorem resetContexts_keeps (s : State) (h : Keeps s0 s) :
    Keeps s0 (resetContexts s) := by
  unfold resetContexts
  repeat' with_reducible
    first
    | assumption | apply foldl_keeps | apply closeForReset_keeps | apply withCtxs_keeps | intro _ _ _

theorem abortSlot_keeps (s : State) (i : Fin 8) (h : Keeps s0 s) :
    Keeps s0 (abortSlot s i) := by
  unfold abortSlot
  repeat' with_reducible
    first
    | exact h | apply completeOrder_keeps | split

theorem resetOrders_keeps (s : State) (h : Keeps s0 s) :
    Keeps s0 (resetOrders s) := by
  unfold resetOrders
  repeat with_reducible
    first
    | exact h | apply foldl_keeps | apply abortSlot_keeps | apply withOrders_keeps

theorem resetBlocks_keeps (s : State) (h : Keeps s0 s) : Keeps s0 (resetBlocks s) := by
  unfold resetBlocks
  refine withNeedDue_keeps (withLamps_keeps (withVoice_keeps (withStartq_keeps ?_ _ (fun _ => ⟨by simp, by simp⟩)) _) _) _
  exact withSurvey_keeps (withLanes_keeps h _) _

theorem resetSupply_keeps (s : State) (h : Keeps s0 s) :
    Keeps s0 (resetSupply s) := by
  unfold resetSupply
  repeat with_reducible
    first
    | exact h | apply modSupply_keeps | apply takeReadings_keeps

theorem resetMatrix_keeps (s : State) (h : Keeps s0 s) :
    Keeps s0 (resetMatrix s) := by
  unfold resetMatrix
  repeat with_reducible
    first
    | exact h | apply restartMatrix_keeps | apply withRst_keeps

theorem beginReset_keeps (cause : ResetCause) (needRise : Bool) (s : State) (h : Keeps s0 s) :
    Keeps s0 (beginReset cause needRise s) :=
  withRst_keeps (modPort_keeps h _ (fun _ _ _ => rfl)) _

theorem partReset_keeps (cause : ResetCause) (needRise : Bool) (s : State) (h : Keeps s0 s) :
    Keeps s0 (partReset cause needRise s) := by
  unfold partReset
  dsimp only
  refine rewriteStatus_keeps _ (resetMatrix_keeps _ (resetSupply_keeps _ (resetOrders_keeps _
    (foldl_keeps _ (fun s l => rewriteLane_keeps l s) _ _ (withLink_keeps (resetBlocks_keeps _
      (publishTable_keeps _ _ (fun _ => TableContent.nil) ?_)) _)))))
  exact withPlan_keeps (foldl_keeps _ mendRecord_keeps _ _ (resetContexts_keeps _
    (evenAll_keeps _ (beginReset_keeps _ _ s h)))) _

theorem powerOn_keeps (s : State) (h : Keeps s0 s) : Keeps s0 (powerOn s) := by
  have hm : Memory.powerOn.wf = true := by decide +kernel
  have ht : TableInv [] := ⟨by simp, by simp, by simp, by simp⟩
  have hc : CountersInv Counters.zero := by constructor <;> decide
  unfold powerOn
  dsimp only
  refine rewriteStatus_keeps _ (resetMatrix_keeps _ (resetSupply_keeps _ (modMatrix_keeps (withOrders_keeps (withRecs_keeps
    (withLink_keeps (resetBlocks_keeps _ (withTable_keeps (withPlan_keeps (withCtxs_keeps (withRst_keeps ?_ _) _) _) _
      (fun _ => ht))) _) _) _) _)))
  refine modSupply_keeps (withCounters_keeps (modPort_keeps ?_ _ ?_) _ (fun _ => hc)) _
  · exact withSnap_keeps (withTickDue_keeps (withTime_keeps (withMem_keeps (beginReset_keeps _ _ s h) _ (fun _ => hm)) _) _) _
  · exact fun _ k => k

theorem takeFound_keeps (s : State) (n : Cp) (h : Keeps s0 s) :
    Keeps s0 (takeFound s n) := by
  unfold takeFound
  repeat' with_reducible
    first
    | exact h | apply callTaken_keeps | apply publish_keeps | split

theorem completeReset_keeps (s : State) (h : Keeps s0 s) : Keeps s0 (completeReset s) := by
  have hc : CountersInv Counters.zero := by constructor <;> decide
  unfold completeReset
  split
  · refine withRst_keeps (takeFound_keeps _ _ (takeFound_keeps _ _ (evalMatrix_keeps _ (modPort_keeps ?_ _ ?_)))) _
    · exact rewriteStatus_keeps _ (withRst_keeps (withCounters_keeps h _ (fun _ => hc)) _)
    · intro p _ hf
      cases hf
  · exact h

theorem portReset_keeps (s : State) (h : Keeps s0 s) :
    Keeps s0 (portReset s) := by
  unfold portReset
  repeat with_reducible
    first
    | exact h | apply flushStatus_keeps | apply evalMatrix_keeps | apply resetPort_keeps

theorem controlByte_keeps (b : Byte) (s : State) (h : Keeps s0 s) :
    Keeps s0 (controlByte b s) := by
  unfold controlByte
  repeat' with_reducible
    first
    | exact h | apply portReset_keeps | apply partReset_keeps | split


/-! ## Orders -/

theorem takeRow_keeps (row : OrderRow) (act : Fin 8 → State → State) (s : State)
    (hp : ∀ i s, Keeps s0 s → Keeps s0 (act i s)) (h : Keeps s0 s) :
    Keeps s0 (takeRow row act s) := by
  unfold takeRow
  split
  · exact h
  · split
    · refine finish_keeps _ ?_
      split
      · exact completeOrder_keeps _ _ _ _ (takeOrder_keeps _ s h)
      · exact hp _ _ (takeOrder_keeps _ s h)
    · exact h

theorem orderOk_keeps (i : Fin 8) (s : State) (h : Keeps s0 s) :
    Keeps s0 (orderOk i s) := by
  unfold orderOk
  repeat with_reducible
    first
    | exact h | apply completeOrder_keeps

theorem orderBusy_keeps (i : Fin 8) (s : State) (h : Keeps s0 s) :
    Keeps s0 (orderBusy i s) := by
  unfold orderBusy
  repeat with_reducible
    first
    | exact h | apply completeOrder_keeps

theorem placeCall_keeps (i : Fin 8) (s : State) (h : Keeps s0 s) :
    Keeps s0 (placeCall i s) := by
  unfold placeCall
  dsimp only
  repeat' with_reducible
    first
    | exact h | apply orderBusy_keeps | apply completeOrder_keeps | apply hold_keeps | apply orderOk_keeps
    | apply takeRequest_keeps | apply wake_keeps | split

theorem cancelCall_keeps (i : Fin 8) (s : State) (h : Keeps s0 s) :
    Keeps s0 (cancelCall i s) := by
  unfold cancelCall
  dsimp only
  repeat' with_reducible
    first
    | exact h | apply orderBusy_keeps | apply orderOk_keeps | apply cancel_keeps | split

theorem continueCall_keeps (i : Fin 8) (s : State) (h : Keeps s0 s) :
    Keeps s0 (continueCall i s) := by
  unfold continueCall
  dsimp only
  repeat' with_reducible
    first
    | exact h | apply orderOk_keeps | apply setState_keeps | apply orderBusy_keeps | split

theorem loadPlan_keeps (i : Fin 8) (s : State) (h : Keeps s0 s) :
    Keeps s0 (loadPlan i s) := by
  unfold loadPlan
  repeat' with_reducible
    first
    | exact h | apply completeOrder_keeps | apply activatePlan_keeps | apply waitOrder_keeps
    | apply withPlan_keeps | split

theorem takeAtLoad_keeps (calls : Duo Bool) (s : State) (n : Cp) (h : Keeps s0 s) :
    Keeps s0 (takeAtLoad calls s n) := by
  unfold takeAtLoad
  repeat' with_reducible
    first
    | exact h | apply callTaken_keeps | apply publish_keeps | split

theorem loadMatrix_keeps (i : Fin 8) (s : State) (h : Keeps s0 s) :
    Keeps s0 (loadMatrix i s) := by
  unfold loadMatrix
  repeat' with_reducible
    first
    | exact h | apply completeOrder_keeps | apply takeImage_keeps | apply orderOk_keeps | apply takeAtLoad_keeps
    | split

theorem surveyNow_keeps (i : Fin 8) (s : State) (h : Keeps s0 s) :
    Keeps s0 (surveyNow i s) := by
  unfold surveyNow
  repeat with_reducible
    first
    | exact h | apply completeSurveys_keeps | apply makeOrderRequest_keeps | apply waitOrder_keeps

theorem forgetCandidates_keeps (i : Fin 8) (s : State) (h : Keeps s0 s) :
    Keeps s0 (forgetCandidates i s) := by
  unfold forgetCandidates
  repeat with_reducible
    first
    | exact h | apply orderOk_keeps | apply removeLanes_keeps

theorem beginIdent_keeps (l : Lane) (s : State) (h : Keeps s0 s) :
    Keeps s0 (beginIdent l s) := by
  unfold beginIdent
  repeat with_reducible
    first
    | exact h | apply setLaneState_keeps | apply modLane_keeps

theorem takeFromSurvey_keeps (l : Lane) (s : State) (h : Keeps s0 s) :
    Keeps s0 (takeFromSurvey l s) := by
  unfold takeFromSurvey
  repeat' with_reducible
    first
    | exact h | apply releaseSurvey_keeps | apply scanLost_keeps | split

theorem laneReset_keeps (i : Fin 8) (s : State) (h : Keeps s0 s) :
    Keeps s0 (laneReset i s) := by
  unfold laneReset
  dsimp only
  repeat' with_reducible
    first
    | exact h | apply orderBusy_keeps | apply removeLane_keeps | apply powerOff_keeps | apply dequeue_keeps
    | apply takeFromSurvey_keeps | apply modLane_keeps | apply waitOrder_keeps | apply beginIdent_keeps
    | apply dueNever_keeps | split

theorem laneForceOff_keeps (i : Fin 8) (s : State) (h : Keeps s0 s) :
    Keeps s0 (laneForceOff i s) := by
  unfold laneForceOff
  dsimp only
  repeat' with_reducible
    first
    | exact h | apply orderBusy_keeps | apply orderOk_keeps | apply markNeed_keeps | apply markLane_keeps
    | apply modLane_keeps | apply removeLane_keeps | apply takeFromSurvey_keeps | apply dequeue_keeps | split

theorem laneAuto_keeps (i : Fin 8) (s : State) (h : Keeps s0 s) :
    Keeps s0 (laneAuto i s) := by
  unfold laneAuto
  dsimp only
  repeat' with_reducible
    first
    | exact h | apply markNeed_keeps | apply markLane_keeps | apply modLane_keeps | apply orderOk_keeps
    | apply startRestart_keeps | split

theorem setTime_keeps (i : Fin 8) (s : State) (h : Keeps s0 s) :
    Keeps s0 (setTime i s) := by
  unfold setTime
  repeat with_reducible
    first
    | exact h | apply orderOk_keeps | apply rewriteStatus_keeps | apply withTime_keeps

theorem setPower_keeps (i : Fin 8) (s : State) (h : Keeps s0 s) :
    Keeps s0 (setPower i s) := by
  unfold setPower
  repeat' with_reducible
    first
    | exact h | apply orderOk_keeps | apply changePower_keeps | split

theorem setPowerDormant_keeps (i : Fin 8) (s : State) (h : Keeps s0 s) :
    Keeps s0 (setPowerDormant i s) := by
  unfold setPowerDormant
  repeat' with_reducible
    first
    | exact h | apply orderBusy_keeps | apply orderOk_keeps | apply enterDormant_keeps | split

theorem clearCounts_keeps (i : Fin 8) (s : State) (h : Keeps s0 s) : Keeps s0 (clearCounts i s) := by
  have hc : CountersInv Counters.zero := by constructor <;> decide
  exact orderOk_keeps i _ (rewriteStatus_keeps _ (withCounters_keeps h _ (fun _ => hc)))

theorem giveUpWait_keeps (i : Fin 8) (s : State) (h : Keeps s0 s) :
    Keeps s0 (giveUpWait i s) := by
  unfold giveUpWait
  repeat' with_reducible
    first
    | exact h | apply withPlan_keeps | apply dropOrderRequest_keeps | split


/-! ## Triggers -/

theorem setDebounce_keeps (i : Fin 12) (t : Option Nat) (s : State) (h : Keeps s0 s) :
    Keeps s0 (setDebounce i t s) := by
  unfold setDebounce
  repeat with_reducible
    first
    | exact h | apply modMatrix_keeps

theorem takeLevel_keeps (i : Fin 12) (s : State) (h : Keeps s0 s) :
    Keeps s0 (takeLevel i s) := by
  unfold takeLevel
  repeat with_reducible
    first
    | exact h | apply modMatrix_keeps

theorem setPin_keeps (i : Fin 12) (level : Bool) (s : State) (h : Keeps s0 s) :
    Keeps s0 (setPin i level s) := by
  unfold setPin
  repeat with_reducible
    first
    | exact h | apply withEnv_keeps

theorem pinChanged_keeps (i : Fin 12) (s : State) (h : Keeps s0 s) :
    Keeps s0 (pinChanged i s) := by
  unfold pinChanged
  repeat' with_reducible
    first
    | exact h | apply setDebounce_keeps | apply takeLevel_keeps | split

theorem takeEvent_keeps (f : TrigFn) (act : State → State) (s : State)
    (hp : ∀ s, Keeps s0 s → Keeps s0 (act s)) (h : Keeps s0 s) :
    Keeps s0 (takeEvent f act s) := by
  unfold takeEvent; split
  · exact hp _ (unraise_keeps f s h)
  · exact hold_keeps f s h


/-! ## CallTimers -/

theorem onEvent_keeps (occurs : Bool) (act : State → State) (s : State)
    (hp : ∀ s, Keeps s0 s → Keeps s0 (act s)) (h : Keeps s0 s) :
    Keeps s0 (onEvent occurs act s) := by
  unfold onEvent; split
  · exact finish_keeps _ (hp s h)
  · exact h

theorem onChange_keeps (occurs : Bool) (act : State → State) (s : State)
    (hp : ∀ s, Keeps s0 s → Keeps s0 (act s)) (h : Keeps s0 s) :
    Keeps s0 (onChange occurs act s) := by
  unfold onChange; split
  · exact flushStatus_keeps _ (hp s h)
  · exact h

theorem modLamps_keeps (n : Cp) (f : Lamps → Lamps) (s : State) (h : Keeps s0 s) :
    Keeps s0 (modLamps n f s) := by
  unfold modLamps
  repeat with_reducible
    first
    | exact h | apply evalMatrix_keeps | apply withLamps_keeps


/-! ## LaneEvents -/

theorem dialFailed_keeps (n : Cp) (cause : Nat) (s : State) (h : Keeps s0 s) :
    Keeps s0 (dialFailed n cause s) := by
  unfold dialFailed
  repeat' with_reducible
    first
    | exact h | apply applyOutcome_keeps | apply clearCamp_keeps | split

theorem directAttached_keeps (n : Cp) (l : Lane) (a : AttemptStep) (r : Report) (s : State) (h : Keeps s0 s) :
    Keeps s0 (directAttached n l a r s) := by
  unfold directAttached
  dsimp only
  repeat' with_reducible
    first
    | exact h | apply offer_keeps | apply setCamp_keeps | apply modCtx_keeps | apply fillAttempt_keeps
    | apply startDial_keeps | apply applyOutcome_keeps | split

theorem attachBad_keeps (n : Cp) (l : Lane) (o : CallOutcome) (s : State) (h : Keeps s0 s) :
    Keeps s0 (attachBad n l o s) := by
  unfold attachBad
  repeat with_reducible
    first
    | exact h | apply applyOutcome_keeps | apply setCamp_keeps | apply countDiscarded_keeps

theorem candAttached_keeps (n : Cp) (l : Lane) (k : CandKey) (level : Int) (r : AttachReport) (s : State) (h : Keeps s0 s) :
    Keeps s0 (candAttached n l k level r s) := by
  unfold candAttached
  repeat' with_reducible
    first
    | exact h | apply attachBad_keeps | apply offer_keeps | apply setCamp_keeps | apply startDial_keeps
    | apply applyOutcome_keeps | split

theorem laneAttached_keeps (n : Cp) (l : Lane) (a : AttemptStep) (level : Int) (r : AttachReport) (s : State) (h : Keeps s0 s) :
    Keeps s0 (laneAttached n l a level r s) := by
  unfold laneAttached
  repeat' with_reducible
    first
    | exact h | apply attachBad_keeps | apply directAttached_keeps | split

theorem attachFailed_keeps (n : Cp) (o : CallOutcome) (s : State) (h : Keeps s0 s) :
    Keeps s0 (attachFailed n o s) := by
  unfold attachFailed
  repeat with_reducible
    first
    | exact h | apply applyOutcome_keeps | apply clearCamp_keeps

theorem attachDone_keeps (n : Cp) (l : Lane) (result : Nat) (level : Int) (report : Option AttachReport) (s : State) (h : Keeps s0 s) :
    Keeps s0 (attachDone n l result level report s) := by
  unfold attachDone
  repeat' with_reducible
    first
    | exact h | apply candAttached_keeps | apply laneAttached_keeps | apply attachFailed_keeps | split

theorem alerting_keeps (n : Cp) (s : State) (h : Keeps s0 s) :
    Keeps s0 (alerting n s) := by
  unfold alerting
  repeat' with_reducible
    first
    | exact h | apply startStep_keeps | apply ring_keeps | apply setState_keeps | split

theorem connectedWord_keeps (n : Cp) (s : State) (h : Keeps s0 s) :
    Keeps s0 (connectedWord n s) := by
  unfold connectedWord
  repeat' with_reducible
    first
    | exact h | apply connect_keeps | split

theorem callFailed_keeps (n : Cp) (cause : Nat) (s : State) (h : Keeps s0 s) :
    Keeps s0 (callFailed n cause s) := by
  unfold callFailed
  repeat' with_reducible
    first
    | exact h | apply dialFailed_keeps | split

theorem mergeEntry_keeps (l : Lane) (s : State) (w : ScanNetwork) (h : Keeps s0 s) :
    Keeps s0 (mergeEntry l s w) := by
  unfold mergeEntry
  repeat' with_reducible
    first
    | exact h | apply countDiscarded_keeps | apply offer_keeps | split

theorem mergeNext_keeps (l : Lane) (s : State) (w : ScanNetwork) (h : Keeps s0 s) :
    Keeps s0 (mergeNext l s w) := mergeEntry_keeps _ _ _ (flushStatus_keeps _ h)

theorem mergeReport_keeps (l : Lane) (count : Nat) (data : List Byte) (s : State) (h : Keeps s0 s) :
    Keeps s0 (mergeReport l count data s) := by
  unfold mergeReport
  repeat with_reducible
    first
    | exact h | apply foldl_keeps | apply mergeNext_keeps

theorem scanReport_keeps (l : Lane) (data : List Byte) (s : State) (h : Keeps s0 s) :
    Keeps s0 (scanReport l data s) := by
  unfold scanReport
  dsimp only
  repeat' with_reducible
    first
    | exact h | apply finishScan_keeps | apply countDiscarded_keeps | apply modScan_keeps
    | apply mergeReport_keeps | split

theorem scanDone_keeps (l : Lane) (tag result : Nat) (s : State) (h : Keeps s0 s) :
    Keeps s0 (scanDone l tag result s) := by
  unfold scanDone
  repeat' with_reducible
    first
    | exact h | apply queueScan_keeps | apply modScan_keeps | apply finishScan_keeps | split

theorem surveyResult_keeps (l : Lane) (code : ReqCode) (r : TxResult) (s : State) (h : Keeps s0 s) :
    Keeps s0 (surveyResult l code r s) := by
  unfold surveyResult
  repeat' with_reducible
    first
    | exact h | apply modScan_keeps | apply finishScan_keeps | apply scanReport_keeps | apply markLane_keeps
    | apply releaseSurvey_keeps | split

theorem attachResult_keeps (n : Cp) (r : TxResult) (s : State) (h : Keeps s0 s) :
    Keeps s0 (attachResult n r s) := by
  unfold attachResult
  repeat' with_reducible
    first
    | exact h | apply attachFailed_keeps | apply applyOutcome_keeps | split

theorem dialResult_keeps (n : Cp) (r : TxResult) (s : State) (h : Keeps s0 s) :
    Keeps s0 (dialResult n r s) := by
  unfold dialResult
  repeat' with_reducible
    first
    | exact h | apply dialFailed_keeps | apply applyOutcome_keeps | split

theorem answerResult_keeps (n : Cp) (r : TxResult) (s : State) (h : Keeps s0 s) :
    Keeps s0 (answerResult n r s) := by
  unfold answerResult
  repeat' with_reducible
    first
    | exact h | apply connectCallback_keeps | apply restartWatch_keeps | split

theorem hangupResult_keeps (n : Cp) (s : State) (h : Keeps s0 s) :
    Keeps s0 (hangupResult n s) := by
  unfold hangupResult
  repeat' with_reducible
    first
    | exact h | apply leaveClearing_keeps | split

theorem tonesResult_keeps (n : Cp) (r : TxResult) (s : State) (h : Keeps s0 s) :
    Keeps s0 (tonesResult n r s) := by
  unfold tonesResult
  dsimp only
  repeat' with_reducible
    first
    | exact h | apply modBurst_keeps | apply rewriteOwn_keeps | apply abortBurst_keeps | split

theorem ctxResult_keeps (n : Cp) (code : ReqCode) (r : TxResult) (s : State) (h : Keeps s0 s) :
    Keeps s0 (ctxResult n code r s) := by
  unfold ctxResult
  repeat' with_reducible
    first
    | exact h | apply attachResult_keeps | apply dialResult_keeps | apply answerResult_keeps
    | apply hangupResult_keeps | apply tonesResult_keeps | split

theorem incomingRing_keeps (l : Lane) (s : State) (h : Keeps s0 s) :
    Keeps s0 (incomingRing l s) := by
  unfold incomingRing
  repeat' with_reducible
    first
    | exact h | apply ring_keeps | apply considerRing_keeps | apply modLane_keeps | split

theorem serviceLostWord_keeps (l : Lane) (s : State) (h : Keeps s0 s) :
    Keeps s0 (serviceLostWord l s) := by
  unfold serviceLostWord
  repeat' with_reducible
    first
    | exact h | apply setCamp_keeps | apply serviceLost_keeps | split

theorem ringWithdrawn_keeps (l : Lane) (s : State) (h : Keeps s0 s) :
    Keeps s0 (ringWithdrawn l s) := by
  unfold ringWithdrawn
  repeat' with_reducible
    first
    | exact h | apply dropMaint_keeps | apply modLane_keeps | apply clearedRemote_keeps | split

theorem readyWord_keeps (l : Lane) (s : State) (h : Keeps s0 s) :
    Keeps s0 (readyWord l s) := by
  unfold readyWord
  repeat' with_reducible
    first
    | exact h | apply becomeReady_keeps | apply faultLane_keeps | split

theorem taggedWord_keeps (l : Lane) (kind : WordKind) (w : BitVec 32) (report : Option AttachReport) (holder : Owner) (s : State) (h : Keeps s0 s) :
    Keeps s0 (taggedWord l kind w report holder s) := by
  unfold taggedWord
  repeat' with_reducible
    first
    | exact h | apply scanDone_keeps | apply attachDone_keeps | apply alerting_keeps | apply connectedWord_keeps
    | apply callFailed_keeps | apply callLost_keeps | apply clearedRemote_keeps | apply incomingRing_keeps
    | apply serviceLost_keeps | apply levelReport_keeps | split

theorem matchTag_keeps (l : Lane) (kind : WordKind) (w : BitVec 32) (report : Option AttachReport) (s : State) (h : Keeps s0 s) :
    Keeps s0 (matchTag l kind w report s) := by
  unfold matchTag
  repeat' with_reducible
    first
    | exact h | apply countStale_keeps | apply taggedWord_keeps | split

theorem takeWord_keeps (l : Lane) (w : BitVec 32) (report : Option AttachReport) (s : State) (h : Keeps s0 s) :
    Keeps s0 (takeWord l w report s) := by
  unfold takeWord
  repeat' with_reducible
    first
    | exact h | apply countStale_keeps | apply readyWord_keeps | apply incomingRing_keeps
    | apply serviceLost_keeps | apply serviceLostWord_keeps | apply levelReport_keeps | apply faultLane_keeps
    | apply clearedRemote_keeps | apply ringWithdrawn_keeps | apply matchTag_keeps | apply scanDone_keeps
    | apply attachDone_keeps | apply alerting_keeps | apply callFailed_keeps | apply callLost_keeps | split

theorem fetchResult_keeps (l : Lane) (r : TxResult) (s : State) (h : Keeps s0 s) :
    Keeps s0 (fetchResult l r s) := by
  unfold fetchResult
  repeat' with_reducible
    first
    | exact h | apply takeWord_keeps | apply modLane_keeps | split

theorem managerResult_keeps (l : Lane) (code : ReqCode) (r : TxResult) (s : State) (h : Keeps s0 s) :
    Keeps s0 (managerResult l code r s) := by
  unfold managerResult
  repeat' with_reducible
    first
    | exact h | apply fetchResult_keeps | apply powerOff_keeps | apply dropMaint_keeps | apply modLane_keeps
    | split

theorem deliver_keeps (t : Transaction) (r : TxResult) (s : State) (h : Keeps s0 s) :
    Keeps s0 (deliver t r s) := by
  unfold deliver
  repeat' with_reducible
    first
    | exact h | apply managerResult_keeps | apply ctxResult_keeps | apply surveyResult_keeps | split

theorem discardResult_keeps (t : Transaction) (r : TxResult) (s : State) (h : Keeps s0 s) :
    Keeps s0 (discardResult t r s) := by
  unfold discardResult
  repeat' with_reducible
    first
    | exact h | apply countStale_keeps | split

theorem freeLink_keeps (s : State) (h : Keeps s0 s) :
    Keeps s0 (freeLink s) := by
  unfold freeLink
  repeat with_reducible
    first
    | exact h | apply modLink_keeps

theorem afterProbe_keeps (t : Transaction) (s : State) (h : Keeps s0 s) :
    Keeps s0 (afterProbe t s) := by
  unfold afterProbe
  repeat' with_reducible
    first
    | exact h | apply startProbe_keeps | split

theorem settleResult_keeps (t : Transaction) (r : TxResult) (s : State) (h : Keeps s0 s) :
    Keeps s0 (settleResult t r s) := by
  unfold settleResult
  repeat' with_reducible
    first
    | exact h | apply afterProbe_keeps | apply deliver_keeps | apply discardResult_keeps | split

theorem endAnswered_keeps (t : Transaction) (r : TxResult) (s : State) (h : Keeps s0 s) :
    Keeps s0 (endAnswered t r s) := by
  unfold endAnswered
  repeat with_reducible
    first
    | exact h | apply settleResult_keeps | apply setNoResp_keeps | apply freeLink_keeps

theorem endUnanswered_keeps (t : Transaction) (s : State) (h : Keeps s0 s) :
    Keeps s0 (endUnanswered t s) := by
  unfold endUnanswered
  dsimp only
  repeat' with_reducible
    first
    | exact h | apply countTimeout_keeps | apply freeLink_keeps | apply faultLane_keeps
    | apply settleResult_keeps | apply setNoResp_keeps | split

theorem completeIdents_keeps (l : Lane) (s : State) (h : Keeps s0 s) :
    Keeps s0 (completeIdents l s) := by
  unfold completeIdents
  repeat' with_reducible
    first
    | assumption | apply foldl_keeps | apply completeOrder_keeps | intro _ _ _

theorem identified_keeps (l : Lane) (id : BitVec 16) (s : State) (h : Keeps s0 s) :
    Keeps s0 (identified l id s) := by
  unfold identified
  repeat' with_reducible
    first
    | exact h | apply modLane_keeps | apply dueNever_keeps | apply removeLane_keeps | apply setLaneState_keeps
    | apply dueNow_keeps | split

theorem publishIdentity_keeps (l : Lane) (s : State) (h : Keeps s0 s) :
    Keeps s0 (publishIdentity l s) := by
  unfold publishIdentity
  repeat' with_reducible
    first
    | exact h | apply rewriteLane_keeps | split

theorem takeRead_keeps (l : Lane) (i : Ident) (sense : BitVec 4) (s : State) (h : Keeps s0 s) :
    Keeps s0 (takeRead l i sense s) := by
  unfold takeRead
  repeat' with_reducible
    first
    | exact h | apply modLane_keeps | apply completeReset_keeps | apply publishIdentity_keeps
    | apply completeIdents_keeps | apply identified_keeps | split


/-! ## SurveyEvents -/


/-! ## TableEvents -/

theorem tick_keeps (s : State) (h : Keeps s0 s) : Keeps s0 (tick s) := by
  unfold tick; dsimp only
  split
  · exact withTickDue_keeps h _
  · refine publishTable_keeps _ _ (fun ht => ((TableInv.content ht).sublist List.filter_sublist).map _ (fun e => ?_)
      (fun e he => ?_)) (withTickDue_keeps h _)
    · unfold tickEntry; rw [scored_key, decayFail_key, liftBar_key]
    · exact scored_sound _ _ (decayFail_sound _ _ (liftBar_sound _ e he))

theorem changeEntries_keeps (p : Entry → Bool) (f : Entry → Entry) (s : State) (hk : ∀ e, (f e).key = e.key)
    (hf : ∀ e, EntrySound e → EntrySound (f e)) (h : Keeps s0 s) : Keeps s0 (changeEntries p f s) := by
  unfold changeEntries
  split
  · refine publishTable_keeps _ s (fun ht => (TableInv.content ht).map _ (fun e => ?_) (fun e he => ?_)) h
    · split
      · exact hk e
      · rfl
    · split
      · exact scored_sound s _ (hf e he)
      · exact he
  · exact h


/-! ## SupplyEvents -/

theorem setCodes_keeps (battery temperature : BitVec 16) (s : State) (h : Keeps s0 s) :
    Keeps s0 (setCodes battery temperature s) := by
  unfold setCodes
  repeat with_reducible
    first
    | exact h | apply withEnv_keeps

theorem sampleEvt_keeps (s : State) (l : Lane) (h : Keeps s0 s) :
    Keeps s0 (sampleEvt s l) := by
  unfold sampleEvt
  repeat' with_reducible
    first
    | exact h | apply modLane_keeps | split

theorem sampleEvts_keeps (s : State) (h : Keeps s0 s) :
    Keeps s0 (sampleEvts s) := by
  unfold sampleEvts
  repeat with_reducible
    first
    | exact h | apply foldl_keeps | apply sampleEvt_keeps

theorem riseSecond_keeps (s : State) (h : Keeps s0 s) :
    Keeps s0 (riseSecond s) := by
  unfold riseSecond
  repeat with_reducible
    first
    | exact h | apply withTime_keeps | apply withTickDue_keeps


end Sys2Proof.Machine
end

