-- ==== Sys2Proof/Laws/Pins.lean ====
section
/-! SUPPORT. What the lanes' outputs and HSDO do, each case said once. -/

namespace Sys2Proof.Machine

/-- With the link gate open the lane is joined to the link and its power enabled; closed, both lines are held in the lane's
standby line state (R94). -/
theorem laneLines_cases (s : State) (l : Lane) :
    (s.linkGateOpen l = true ∧ s.linkSide l = .joined ∧ s.powerEnable l = .enabled)
      ∨ (s.linkGateOpen l = false ∧ s.linkSide l = .standby (s.lane l).standby.drive
        ∧ s.powerEnable l = .standby (s.lane l).standby.drive) := by
  unfold State.linkSide State.powerEnable State.standbyDrive
  cases s.linkGateOpen l <;> simp

/-- Starting a lane opens its link gate (R92). -/
theorem startLane_linkGateOpen (l : Lane) (s : State) : (startLane l s).linkGateOpen l = true := by
  have h : ((startLane l s).lane l).state = .starting := by
    cases l <;> rfl
  simp [State.linkGateOpen, inStandby, h]

/-- In a read of the identification the select lines carry the levels of that read (R87). -/
theorem selectPins_of_ident (s : State) (l : Lane) (i : Ident) (h : (s.lane l).ident = some i) :
    s.selectPins l = .read (selectLines i.read).1 (selectLines i.read).2 := by
  simp [State.selectPins, h]

/-- HSDO is high impedance with no transaction open and while RESETn is low (R148). -/
theorem hsdoPin_released (s : State) (k : Nat) (h : s.port.txn = none ∨ s.env.resetLow = true) :
    s.hsdoPin k = .highImpedance := by
  unfold State.hsdoPin
  rcases h with h | h <;> simp [h]

/-- In a read of a DATA register HSDO carries the byte that DATA_READ takes (R148, R149). -/
theorem hsdoPin_dataRead (s : State) (k : Nat) (w : Window) (hr : s.env.resetLow = false) (h : s.readWindow = some w) :
    s.hsdoPin k = .driven (some (dataValue w s)) := by
  unfold State.readWindow at h
  cases ht : s.port.txn with
  | none => simp [ht] at h
  | some t =>
    obtain ⟨reg, read, count, low⟩ := t
    simp only [ht, Option.bind_some] at h
    cases read with
    | false => simp at h
    | true =>
      cases reg <;> simp [PortReg.dataWindow] at h <;> subst h <;> simp [State.hsdoPin, hr, ht, registerValue]

end Sys2Proof.Machine
end

