-- ==== Sys2Proof/Laws/Publish.lean ====
section
/-! SUPPORT. What the publications, the CONTROL byte and the wake out of DORMANT can do, said once each. -/

namespace Sys2Proof.Machine

/-- The part status block is left alone, rewritten once, or rewritten once for each evaluation not yet shown (R159). -/
theorem flushStatus_cases (s : State) :
    (s.matrix.unshown = 0 ∧ s.mem.shown Config.statusBase statusSize (statusContent s) = s.mem ∧ flushStatus s = s)
      ∨ (s.matrix.unshown = 0 ∧ s.mem.shown Config.statusBase statusSize (statusContent s) ≠ s.mem
        ∧ flushStatus s = rewriteStatus s)
      ∨ (s.matrix.unshown ≠ 0
        ∧ flushStatus s = rewriteStatuses s.matrix.unshown (modMatrix (fun m => { m with unshown := 0 }) s)) := by
  unfold flushStatus
  by_cases h : s.matrix.unshown = 0
  · by_cases h' : s.mem.shown Config.statusBase statusSize (statusContent s) = s.mem
    · exact .inl ⟨h, h', by rw [if_pos h, if_neg (not_not_intro h')]⟩
    · exact .inr (.inl ⟨h, h', by rw [if_pos h, if_pos h']⟩)
  · exact .inr (.inr ⟨h, if_neg h⟩)

/-- A context without a record shows nothing; with one, its record is rewritten as its context now is. -/
theorem showRecord_cases (n : Cp) (s : State) :
    ((s.ctx n).record = none ∧ showRecord n s = s)
      ∨ ∃ i, (s.ctx n).record = some i
        ∧ showRecord n s = rewriteRecord i (putRecord i (shownIn (s.ctx n) (s.record i)) s) := by
  unfold showRecord
  cases h : (s.ctx n).record with
  | none => exact .inl ⟨rfl, rfl⟩
  | some i => exact .inr ⟨i, rfl, rfl⟩

/-- An event that writes a field of a record without changing it rewrites the record of the context, if it has one (R140). -/
theorem rewriteOwn_cases (n : Cp) (s : State) :
    ((s.ctx n).record = none ∧ rewriteOwn n s = s)
      ∨ ∃ i, (s.ctx n).record = some i ∧ rewriteOwn n s = rewriteRecord i s := by
  unfold rewriteOwn
  cases h : (s.ctx n).record with
  | none => exact .inl ⟨rfl, rfl⟩
  | some i => exact .inr ⟨i, rfl, rfl⟩

/-- A byte in no write of CONTROL, or with neither action bit, changes nothing (R149, 12.2). -/
theorem controlByte_idle (b : Byte) (s : State)
    (h : s.writing .control = false ∨ (b &&& portResetBit = 0 ∧ b &&& partResetBit = 0)) : controlByte b s = s := by
  unfold controlByte
  rcases h with h | ⟨h1, h2⟩
  · simp [h]
  · simp [h1, h2]

/-- Outside DORMANT there is nothing to wake (R184). -/
theorem wake_idle (s : State) (h : s.supply.power ≠ .dormant) : wake s = s := if_neg h

end Sys2Proof.Machine
end

