-- ==== Sys2Proof/Tests/Slice0.lean ====
section
/-! SUPPORT. The model's own tests: the spec's worked examples, a few steps, and for every statement with hypotheses a
state that meets them, clause by clause. Every expected value comes from the spec's text. -/

set_option Elab.async false

namespace Sys2Proof.Tests

open Sys2Proof Sys2Proof.Machine

/-! ## States to start from -/

/-- A lane of identity 0x4C47 in a state, with power where the state has it. -/
def lane (st : LaneState) : LaneRec :=
  { LaneRec.reset .float with
    state := st, identity := 0x4C47, power := st == .starting || st == .ready, readySince := some 0 }

/-- The key of lane l's candidate: operator 12345, G4. -/
def key (l : Lane) : CandKey := ⟨l, 0xF54321, .g4⟩

/-- A candidate. -/
def entry (l : Lane) (level : Int) : Entry :=
  { key := key l, level := level, quality := 5, age := 0, fails := 2, barred := none, last := none, seen := .scan,
    score := 200, updated := 0, failChange := 0 }

/-- The part up: ready, two lanes READY, one OFF, one ABSENT, two candidates, uptime 704. -/
def up : State :=
  { State.reset with
    port := { State.reset.port with ready := true }
    lanes := ⟨lane .ready, lane .ready, lane .off, lane .absent⟩
    time := { uptime := 704, clock := 900, ms := 704000 }
    table := [entry .l0 (-60), entry .l1 (-70)] }

/-- A transaction open. -/
def opened (reg : PortReg) (read : Bool) (s : State) : State :=
  modPort (fun p => { p with txn := some { reg := reg, read := read, count := 0, low := 0 } }) s

/-- Window A open for writing at an address. -/
def writingAt (a : Nat) (s : State) : State :=
  modPort (fun p => { p with ptrA := BitVec.ofNat 13 a }) (opened .dataA false s)

/-- An order posted in slot 0. -/
def ordered0 (code : Byte) (args : List Byte) (s : State) : State :=
  { s with
    mem := s.mem.place 0x100 16 ([1, code, 0, 0] ++ args)
    orders := { s.orders with posted := [0] } }

/-- Context 0 in a state, on a lane, with its first attempt on lane 0's candidate and record 0 open. -/
def inCall (kind : CallKind) (st : CtxState) (l : Option Lane) (s : State) : State :=
  putRecord 0 { CallRecord.blank with state := .opened, seq := 1 }
    (modCtx .p0 (fun c =>
      { c with
        state := st, kind := kind, record := some 0, lane := l, current := some (key .l0), choice := some (.cand (key .l0)),
        tries := 1, attempt := some ⟨690, st == .connected⟩, stepTimer := some 700, cbTimer := some 700,
        locTimer := some 700 }) s)

/-- Lane 0 changed. -/
def lane0 (f : LaneRec → LaneRec) (s : State) : State := modLane .l0 f s

/-- A transaction of lane 0 with tag 7, its time at 704000 ms. -/
def txOf (code : ReqCode) (who : Requester) (wanted : Bool) : Transaction :=
  { lane := .l0, code := code, requester := who, tag := 7, args := [], wanted := wanted, deadline := 704000 }

/-- That transaction in flight. -/
def inFlight (code : ReqCode) (who : Requester) (wanted : Bool) (s : State) : State :=
  modLink (fun k => { k with inFlight := some (txOf code who wanted) }) s

/-- The response frame of lane 0 with tag 7. -/
def frame (status cause : Byte) (data : List Byte) : ResponseFrame :=
  { lane := 0, tag := 7, status := status, cause := cause, data := data }

/-- The next state of a command has a property. -/
def after (c : Instr) (s : State) (p : State → Bool) : Bool :=
  match exec c s with
  | .next t => p t
  | .fault _ => false
  | .refused _ => false

/-! ## Well-formedness -/

theorem test_wellFormed_refuses_long_frame :
    (Instr.responseFrame { lane := 0, tag := 1, status := 0, cause := 0, data := List.replicate 256 0 }).wellFormed
      = false := by decide +kernel

theorem test_wellFormed_takes_longest_frame :
    (Instr.responseFrame { lane := 0, tag := 1, status := 0, cause := 0, data := List.replicate 255 0 }).wellFormed
      = true := by decide +kernel

/-! ## Worked examples of the spec -/

/-- 3.4: level -97, quality 5, G4 weight 30, 70 s old, one fail: 140; the limits: 453 and 0. -/
theorem test_score_examples :
    scoreValue (-97) 5 30 70 1 0 false = 140 ∧ scoreValue (storedLevel (-30)) (storedQuality 9) 63 0 0 0 false = 453
      ∧ scoreValue (storedLevel (-140)) 0 40 0 5 0 false = 0 := by decide +kernel

/-- 3.3: 23410 stands before 234101. -/
theorem test_operator_order : OpCode.less 0xF01432 0x101432 = true ∧ OpCode.less 0x101432 0xF01432 = false := by
  decide +kernel

/-- 6.2: the check digits of 034712852, 137 and 55 are 4, 3 and 0. -/
theorem test_check_digits :
    checkDigit [0, 3, 4, 7, 1, 2, 8, 5, 2] = 4 ∧ checkDigit [1, 3, 7] = 3 ∧ checkDigit [5, 5] = 0 := by decide +kernel

/-- 5.2: identity 0x4C47 has family 4, the mask of G4 and G5, start class 4 for 20 s, revision 7. -/
theorem test_identity_example :
    idFamily 0x4C47 = 4 ∧ idMask 0x4C47 = 0b1100 ∧ startTimeoutOf 0x4C47 = 20 ∧ idRevision 0x4C47 = 7 := by
  decide +kernel

/-- 11.3: one measurement at -15 °C. -/
theorem test_supply_example :
    t10Of 29120 = -150 ∧ reserveThreshold 11600 (-150) = 11900 ∧ batteryMv 39322 = 12288
      ∧ nextLevel .healthy 12288 11900 = .low ∧ nextLevel .low 12288 11900 = .low
      ∧ nextLevel .critical 12288 11900 = .low := by decide +kernel

/-- R178: the corners of the two conversions. -/
theorem test_conversion_corners :
    batteryMv 65535 = 20479 ∧ t10Of 31199 = 249 ∧ t10Of 10399 = -400 ∧ t10Of 46801 = 850 := by decide +kernel

/-- 9.7: the fourth byte of a walk from 0x09FE lands at 0x0A01; the pointer wraps from 0x1FFF to 0. -/
theorem test_window_walk :
    after (.dataWrite 5) (writingAt 0x09FF up) (fun t => t.port.ptrA == 0x0A00 && t.counters.windowFaults == 1) = true
      ∧ after (.dataWrite 5) (writingAt 0x1FFF up)
          (fun t => t.port.ptrA == 0 && t.mem.read 0x1FFF == 5 && t.counters.windowFaults == 0) = true := by
  decide +kernel

/-- 7.9: a latch whose reset input reads an OUTPUT line of its own output is a cycle at cell 6; with CC0_ACTIVE it is
none. -/
theorem test_loop_example :
    firstCycle { builtInMatrix with
        lines := builtInMatrix.lines.set 5 (.output (.cell 6))
        cells := (builtInMatrix.cells.set 6 ⟨.line 0, false, .line 5, false⟩).set 3 ⟨.cell 6, false, .line 1, false⟩ }
      = some 6
    ∧ firstCycle { builtInMatrix with
        lines := builtInMatrix.lines.set 5 (.output (.cell 6))
        cells := (builtInMatrix.cells.set 6 ⟨.line 0, false, .ctxActive .p0, false⟩).set 3
          ⟨.cell 6, false, .line 1, false⟩ } = none := by decide +kernel

/-- R162, R177: power-on leaves the state after reset. -/
theorem test_power_on_is_reset :
    after .powerOn { up with pending := [] } (fun t => decide (t = State.reset)) = true := by decide +kernel

/-- 7.8: a button press on FL0 under the built-in configuration starts its 20 ms timer, and its expiry raises CALL_CP0. -/
theorem test_button_press :
    after (.fieldLineChange 0 false) up (fun t => t.matrix.timers[0] == some 704020 && t.matrix.raised == []) = true
      ∧ after (.debounceExpiry 0)
          { up with env := { up.env with pins := 0xFFE },
                    matrix := { up.matrix with timers := up.matrix.timers.set 0 (some 704000) } }
          (fun t => t.matrix.raised == [.call .p0] && t.matrix.fns.getLsbD 0) = true := by
  decide +kernel

/-- 10.5: a SURVEY_NOW of lanes 1 and 2 and a LOAD_PLAN take their waits; a withdrawal completes with WITHDRAWN. -/
theorem test_order_waits :
    after .surveyNow (ordered0 7 [6] (modLane .l2 (fun _ => lane .ready) up))
      (fun t => t.slotState 0 == 2 && t.orders.waits == [(0, .survey)]) = true
    ∧ after (.orderWithdrawal 0)
        { up with mem := up.mem.write 0x100 4, orders := { posted := [], waits := [(0, .survey)] } }
        (fun t => t.slotState 0 == 3 && t.mem.read 0x110 == 8 && t.orders.waits == []) = true := by decide +kernel

/-- R159, 12.3: uptime and clock stand at offsets 20 and 24 of the part status block after a second. -/
theorem test_second_published :
    after .uptimeSecond up (fun t => t.mem.num 20 4 == 705 && t.mem.num 24 4 == 901 && t.time.ms == 705000) = true := by
  decide +kernel

/-- R5, R47: a CALL event starts an EMERGENCY call, which claims the READY lane of the best candidate and attaches. -/
theorem test_call_attaches :
    after (.callCpn .p0) up
      (fun t => (t.ctx .p0).state == .attaching && (t.ctx .p0).lane == some .l0 && (t.lane .l0).owner == .ctx .p0
        && (t.record 0).attempts == 1 && t.port.attention.getLsbD 5) = true := by
  decide +kernel

/-- R126: CC0_ACTIVE and the CONNECTING lamp change together at the start of a call, and are two evaluations: the XOR of
CC0_ACTIVE and FL6 rises in the first and falls in the second, so TAMPER has risen. -/
theorem test_changes_together_are_evaluated_apart :
    after (.callCpn .p0)
      { up with matrix := { up.matrix with fns := 0b001100, config := { up.matrix.config with
          cells := up.matrix.config.cells.set 5 ⟨.ctxActive .p0, false, .line 6, false⟩
          binds := up.matrix.config.binds.set 4 (.cell 5) } } }
      (fun t => decide (TrigFn.tamper ∈ t.matrix.raised) && !t.matrix.fns.getLsbD 4) = true := by decide +kernel

/-- R33, R136, R137: a PAUSE step that a step move leads back to: the record is rewritten at the pause's end, at the move in
SELECTING, and at the entry into PAUSED again, although it then shows what it showed before. -/
theorem test_record_shows_each_move :
    (let s := { up with
        table := [], lanes := Quad.all (lane .absent)
        plan := { up.plan with active := [.pause 60, .attempt (builtInAttempt 1 (some 0) (some 0)), .finish] } }
     let c := modCtx .p0 (fun c => { c with state := .paused, record := some 0, stepTimer := some 704 }) s
     after (.pauseExpiry .p0) (publish (putRecord 0 { CallRecord.blank with state := .opened, seq := 1 } c))
       (fun t => (t.ctx .p0).state == .paused && (t.record 0).step == 0 && t.mem.num 0x1000 2 == 8)) = true := by
  decide +kernel

/-- 12.2, R161: a byte of CONTROL with both action bits makes the port reset and the part reset. -/
theorem test_control_byte :
    after (.ignoredRegisterWrite 3) (opened .control false (modPort (fun p => { p with mask := 0 }) up))
      (fun t => t.port.mask == 0xFF && !t.port.ready && t.rst.next == .control) = true := by decide +kernel

/-! ## Witnesses: states that meet the hypotheses of the statements -/

/-- A byte read from a state's memory is this one. -/
def putByte (a : Nat) (b : Byte) (s : State) : State := { s with mem := s.mem.write a b }

theorem witness_StepRunsTheFrontCommand :
    (up.withPending [.dataRead, .powerOn]).pending = .dataRead :: [.powerOn] := rfl

theorem witness_PowerOnLeavesNothingOfTheOldState : up.env = Env.reset := rfl

theorem witness_PartResetClearsTheBlocks :
    (opened .control false up).writing .control = true ∧ up.env.resetLow = false
      ∧ ({ up with env := { up.env with resetLow := true } } : State).env.resetLow = true
      ∧ (inCall .emergency .dialling (some .l0) up).slotState 0 = 0 ∧ (putByte 0x100 4 up).slotState 0 = 4
      ∧ ((inCall .emergency .dialling (some .l0) up).ctx .p0).record = some 0 := by decide +kernel

theorem witness_ResetnRiseResetsThePortAndCompletes :
    (∀ s ∈ [{ up with env := { up.env with resetLow := true }, port := { up.port with ready := false } },
        { State.reset with env := { State.reset.env with resetLow := true } }],
      s.env.resetLow = true ∧ s.port.ready = false)
    ∧ (∀ l, (up.lane l).ident = none) ∧ ∃ l, (State.reset.lane l).ident ≠ none :=
  ⟨by decide +kernel, fun l => by cases l <;> rfl, .l0, by decide +kernel⟩

theorem witness_HostTransactionsOpenAndEnd :
    up.port.txn = none ∧ up.env.resetLow = false
      ∧ [PortReg.ptrA, .dataA, .ptrB, .dataB, .attention, .attnMask, .partState, .control][(0x87 : Byte).toNat % 8]?
          = some .control
      ∧ (opened .dataA true up).port.txn.isSome = true := by decide +kernel

theorem witness_PtrWriteTakesTwoBytes :
    (opened .ptrB false up).port.txn = some { reg := .ptrB, read := false, count := 0, low := 0 }
      ∧ (modPort (fun p => { p with txn := some { reg := .ptrA, read := false, count := 1, low := 3 } }) up).port.txn
        = some { reg := .ptrA, read := false, count := 1, low := 3 } := by decide +kernel

theorem witness_DataReadReturnsTheMemoryByte :
    (opened .dataA true up).readWindow = some .a ∧ (opened .dataB true State.reset).readWindow = some .b
      ∧ (opened .dataB true State.reset).port.ready = false
      ∧ (modPort (fun p => { p with capA := some 9 }) (opened .dataA true up)).port.cap .a = some 9 := by
  decide +kernel

theorem witness_DataWriteIntoHostRegionsIsTaken :
    ∀ a ∈ [0x200, 0x5FF, 0xA00, 0xFFF, 0x1C00, 0x1FFF, 0x101, 0x10F, 0x1EF],
      (writingAt a up).writeWindow = some .a ∧ (writingAt a up).port.ready = true
        ∧ ((writingAt a up).port.ptr .a).toNat = a
        ∧ (0x200 ≤ a ∧ a < 0x600 ∨ 0xA00 ≤ a ∧ a < 0x1000 ∨ 0x1C00 ≤ a
          ∨ (0x100 ≤ a ∧ a < 0x200 ∧ 1 ≤ a % 32 ∧ a % 32 < 16
              ∧ ((writingAt a up).mem.read (a - a % 32) = 0 ∨ (writingAt a up).mem.read (a - a % 32) = 3))) := by
  decide +kernel

theorem witness_DataWriteElsewhereIsDropped :
    (∀ a ∈ [0, 0xFF, 0x600, 0x9FF, 0x1000, 0x1001, 0x1003, 0x1BFF, 0x110, 0x1FF, 0x101, 0x10F],
      ((writingAt a (putByte 0x100 1 up)).port.ptr .a).toNat = a
        ∧ (a < 0x100 ∨ 0x600 ≤ a ∧ a < 0xA00 ∨ (0x1000 ≤ a ∧ a < 0x1C00 ∧ a % 256 ≠ 2)
          ∨ (0x100 ≤ a ∧ a < 0x200 ∧ 16 ≤ a % 32)
          ∨ (0x100 ≤ a ∧ a < 0x200 ∧ 1 ≤ a % 32 ∧ (writingAt a (putByte 0x100 1 up)).mem.read (a - a % 32) ≠ 0
              ∧ (writingAt a (putByte 0x100 1 up)).mem.read (a - a % 32) ≠ 3)))
    ∧ (writingAt 0x300 State.reset).writeWindow = some .a ∧ (writingAt 0x300 State.reset).port.ready = false := by
  decide +kernel

theorem witness_SlotStateWritesFollowTheTable :
    ((writingAt 0x1E0 up).port.ptr .a).toNat = 0x100 + 32 * (7 : Fin 8).val ∧ (writingAt 0x1E0 up).slotState 7 = 0
      ∧ (writingAt 0x1E0 up).writeWindow = some .a ∧ up.port.ready = true
      ∧ (modPort (fun p => { p with ready := false }) (writingAt 0x1E0 up)).port.ready = false ∧ up.supply.power ≠ .dormant
      ∧ ({ up with supply := { up.supply with power := .dormant } } : State).supply.power = .dormant
      ∧ (putByte 0x100 3 up).slotState 0 = 3 ∧ (putByte 0x100 2 up).slotState 0 = 2
      ∧ ¬((putByte 0x100 4 up).slotState 0 = 0 ∧ (1 : Byte) = 1) ∧ ¬((putByte 0x100 4 up).slotState 0 = 3 ∧ (1 : Byte) = 0)
      ∧ ¬((putByte 0x100 4 up).slotState 0 = 2 ∧ (1 : Byte) = 4) := by decide +kernel

theorem witness_RecordStateWritesReleaseClosedRecords :
    ((writingAt 0x1B02 up).port.ptr .a).toNat = 0x1000 + 256 * (11 : Fin 12).val + 2
      ∧ ((putRecord 11 { CallRecord.blank with state := .closed } (writingAt 0x1B02 up)).record 11).state = .closed
      ∧ (writingAt 0x1B02 up).writeWindow = some .a ∧ (up.record 11).state ≠ .closed := by decide +kernel

theorem witness_PortRegisterWrites :
    (opened .attention false up).writing .attention = true ∧ (opened .attnMask false up).writing .attnMask = true
      ∧ (opened .control false up).writing .control = true ∧ up.writing .control = false
      ∧ ((0xFC : Byte).getLsbD 0 = false ∧ (0xFC : Byte).getLsbD 1 = false)
      ∧ ((1 : Byte).getLsbD 0 = true ∧ (1 : Byte).getLsbD 1 = false)
      ∧ ((2 : Byte).getLsbD 0 = false ∧ (2 : Byte).getLsbD 1 = true)
      ∧ ((3 : Byte).getLsbD 0 = true ∧ (3 : Byte).getLsbD 1 = true) := by decide +kernel

theorem witness_OrdersAreCheckedBeforeTheyAct :
    FrontOrder (ordered0 12 [] up) 0 12 [] ∧ FrontOrder (ordered0 0 [] up) 0 0 []
      ∧ FrontOrder (ordered0 2 [2] up) 0 2 [2] ∧ FrontOrder (ordered0 2 [1, 2] up) 0 2 [1, 2]
      ∧ FrontOrder (ordered0 2 [1, 1, 4] up) 0 2 [1, 1, 4] ∧ FrontOrder (ordered0 2 [1, 1, 3, 2] up) 0 2 [1, 1, 3, 2]
      ∧ FrontOrder (ordered0 3 [2] up) 0 3 [2] ∧ FrontOrder (ordered0 4 [2] up) 0 4 [2]
      ∧ FrontOrder (ordered0 7 [16] up) 0 7 [16] ∧ FrontOrder (ordered0 8 [16] up) 0 8 [16]
      ∧ FrontOrder (ordered0 9 [4, 1] up) 0 9 [4, 1] ∧ FrontOrder (ordered0 9 [3, 3] up) 0 9 [3, 3]
      ∧ FrontOrder (ordered0 10 [3] up) 0 10 [3] := by
  unfold FrontOrder; decide +kernel

theorem witness_OrdersThatFindTheirUnitBusyOrDone :
    FrontOrder (ordered0 2 [0, 1, 3, 1] (inCall .test .held none up)) 0 2 [BitVec.ofNat 8 Cp.p0.num, 1, 3, 1]
      ∧ ((ordered0 2 [0, 1, 3, 1] (inCall .test .held none up)).ctx .p0).state = .held
      ∧ FrontOrder (ordered0 2 [1, 1, 0, 0] up) 0 2 [BitVec.ofNat 8 Cp.p1.num, 1, 0, 0]
      ∧ (up.ctx .p1).state = .idle
      ∧ ({ up with supply := { up.supply with level := .critical } } : State).supply.level = .critical
      ∧ FrontOrder (ordered0 3 [0] up) 0 3 [BitVec.ofNat 8 Cp.p0.num] ∧ (up.ctx .p0).state = .idle
      ∧ FrontOrder (ordered0 4 [0] up) 0 4 [BitVec.ofNat 8 Cp.p0.num]
      ∧ FrontOrder (ordered0 9 [0, 0] up) 0 9 [BitVec.ofNat 8 Lane.l0.num, 0]
      ∧ FrontOrder (ordered0 9 [3, 1] up) 0 9 [BitVec.ofNat 8 Lane.l3.num, 1]
      ∧ ((lane0 (fun r => { r with owner := .ctx .p1 }) up).lane .l0).owner = .ctx .p1
      ∧ FrontOrder (ordered0 10 [2] up) 0 10 [2] ∧ ((inCall .test .held none up).ctx .p0).state ≠ .idle
      ∧ ((lane0 (fun r => { r with forcedOff := true }) up).lane .l0).forcedOff = true
      ∧ FrontOrder (ordered0 9 [0, 2] up) 0 9 [BitVec.ofNat 8 Lane.l0.num, 2] ∧ (up.lane .l0).forcedOff = false
      ∧ FrontOrder (ordered0 10 [0] up) 0 10 [0] ∧ up.supply.power = .active
      ∧ FrontOrder (ordered0 10 [1] up) 0 10 [1]
      ∧ up.matrix.fns.getLsbD 0 = false ∧ up.matrix.fns.getLsbD 1 = false ∧ up.matrix.fns.getLsbD 5 = false := by
  unfold FrontOrder; decide +kernel

theorem witness_SetTimeAndClearCountsRewriteTheStatusBlock :
    FrontOrder (ordered0 1 [1, 2, 3, 0xFF] up) 0 1 [1, 2, 3, 0xFF] ∧ FrontOrder (ordered0 11 [] up) 0 11 [] := by
  unfold FrontOrder; decide +kernel

/-- Context 0 in a state with a call that has connected on READY lane 0, the callback window at its default. -/
def hadConnected (kind : CallKind) (st : CtxState) : State :=
  modCtx .p0 (fun c => { c with connectedOnce := true }) (inCall kind st (some .l0) (lane0 (fun r =>
    { r with owner := .ctx .p0 }) { up with mem := State.reset.mem }))

/-- What CANCEL_CALL and CANCEL_CPN ask for the entry into CALLBACK_WATCH. -/
theorem witness_calls_that_end_into_the_watch :
    ∀ st ∈ [CtxState.selecting, .waitingLane, .paused, .surveyWait, .held],
      ((hadConnected .test st).ctx .p0).state = st ∧ ((hadConnected .test st).ctx .p0).connectedOnce = true
        ∧ callbackWindowOf (hadConnected .test st) ≠ 0 ∧ ((hadConnected .test st).ctx .p0).lane = some .l0
        ∧ ((hadConnected .test st).lane .l0).state = .ready
        ∧ ((hadConnected .test st).ctx Cp.p0.other).pendingClaim ≠ some .l0 ∧ (hadConnected .test st).port.ready = true
        ∧ FrontOrder (ordered0 3 [0] (hadConnected .test st)) 0 3 [BitVec.ofNat 8 Cp.p0.num]
        ∧ ((inCall .test st none up).ctx .p0).lane = none := by
  unfold FrontOrder; decide +kernel

/-- What PLACE_CALL and CALL_CPN ask of a call taken in CALLBACK_WATCH. -/
theorem witness_call_taken_in_the_watch :
    FrontOrder (ordered0 2 [0, 0, 0, 0] (hadConnected .test .callbackWatch)) 0 2 [BitVec.ofNat 8 Cp.p0.num, 0, 0, 0]
      ∧ FrontOrder (ordered0 2 [0, 1, 3, 1] (hadConnected .test .callbackWatch)) 0 2 [BitVec.ofNat 8 Cp.p0.num, 1, 3, 1]
      ∧ ((hadConnected .test .callbackWatch).ctx .p0).state = .callbackWatch
      ∧ ((hadConnected .test .callbackWatch).ctx .p0).record = some 0
      ∧ ((hadConnected .test .callbackWatch).record 0).state = .opened
      ∧ ((hadConnected .test .callbackWatch).record 1).state = .free
      ∧ (∀ k : Fin 12, k < 1 → ((hadConnected .test .callbackWatch).record k).state ≠ .free)
      ∧ (hadConnected .test .callbackWatch).supply.power ≠ .dormant
      ∧ (hadConnected .test .callbackWatch).supply.level ≠ .critical
      ∧ (hadConnected .test .callbackWatch).port.ready = true := by
  unfold FrontOrder; decide +kernel

theorem witness_PlaceCallStartsACall :
    FrontOrder (ordered0 2 [0, 0, 0, 0] up) 0 2 [BitVec.ofNat 8 Cp.p0.num, 0, 0, 0]
      ∧ FrontOrder (ordered0 2 [1, 1, 3, 1] up) 0 2 [BitVec.ofNat 8 Cp.p1.num, 1, 3, 1]
      ∧ (up.ctx .p0).state = .idle ∧ (up.ctx .p1).state = .idle ∧ up.supply.power ≠ .dormant
      ∧ up.supply.level ≠ .critical ∧ (up.record 0).state = .free
      ∧ ((inCall .test .held none up).record 1).state = .free
      ∧ (∀ k : Fin 12, k < 1 → ((inCall .test .held none up).record k).state ≠ .free)
      ∧ (∀ k : Fin 12, k < 0 → (up.record k).state ≠ .free) := by
  unfold FrontOrder; decide +kernel

theorem witness_CancelCallEndsOrClearsTheCall :
    (∀ st ∈ [CtxState.selecting, .waitingLane, .paused, .surveyWait, .held, .dialling, .alerting, .connected],
      FrontOrder (ordered0 3 [0] (inCall .emergency st (some .l0) up)) 0 3 [BitVec.ofNat 8 Cp.p0.num]
        ∧ ((ordered0 3 [0] (inCall .emergency st (some .l0) up)).ctx .p0).state = st
        ∧ ((ordered0 3 [0] (inCall .emergency st (some .l0) up)).ctx .p0).connectedOnce = false)
    ∧ ((modCtx .p0 (fun c => { c with pendingOutcome := some .noAlert }) (inCall .test .clearing (some .l0) up)).ctx
        .p0).pendingOutcome = some .noAlert := by
  unfold FrontOrder; decide +kernel

theorem witness_ContinueReleasesAHeldCall :
    FrontOrder (ordered0 4 [0] (inCall .test .held none up)) 0 4 [BitVec.ofNat 8 Cp.p0.num]
      ∧ ((ordered0 4 [0] (inCall .test .held none up)).ctx .p0).state = .held := by
  unfold FrontOrder; decide +kernel

/-- A staged plan of one END step, and a staged plan of 16 steps whose last is bad. -/
theorem witness_StagedPlanIsCheckedInIndexOrder :
    checkPlan (Memory.place [] 0x400 32 [1, 0, 0, 0, 0, 0, 0, 0, 0, 0, 0, 0, 0, 0, 0, 0, 4]) = .good [.finish]
      ∧ checkPlan ((Memory.place [] 0x400 1 [16]).place 0x410 240
          ((List.replicate 15 (4 :: List.replicate 14 (0 : Byte))).flatten ++ [5])) = .bad 15
      ∧ checkPlan [] = .bad 16 := by decide +kernel

/-- A LOAD_PLAN of one END step in slot 0, over a state. -/
def planOrder (s : State) : State :=
  ordered0 5 [] { s with mem := s.mem.place 0x400 32 [1, 0, 0, 0, 0, 0, 0, 0, 0, 0, 0, 0, 0, 0, 0, 0, 4] }

theorem witness_LoadPlanChecksWaitsOrActivates :
    FrontOrder (ordered0 5 [] up) 0 5 [] ∧ checkPlan (ordered0 5 [] up).hostMem = .bad 16
      ∧ checkPlan (planOrder up).hostMem = .good [.finish]
      ∧ ((planOrder (inCall .test .held none up)).ctx .p0).state = .held
      ∧ (planOrder up).orders.waits = []
      ∧ [((3 : Fin 8), Wait.plan)].find? (fun x => decide (x.2 = .plan)) = some (3, .plan)
      ∧ ((planOrder up).ctx .p0).state = .idle ∧ ((planOrder up).ctx .p1).state = .idle := by
  unfold FrontOrder; decide +kernel

/-- A staged matrix image: every line UNUSED, the inputs of the cells CONST_1 or, for one cell, a source; no binding. -/
def stagedMatrix (source : Byte) (s : State) : State :=
  let lines := s.mem.place 0x530 32 ((List.replicate 8 [(32 : Byte), 0, 32, 0]).flatten)
  let cells := lines.place 0x550 24 ((List.replicate 6 [(255 : Byte), 0, 0, 0]).flatten)
  ordered0 6 [] { s with mem := cells.write 0x544 source }

theorem witness_LoadMatrixChecksAndTakesTheImage :
    FrontOrder (stagedMatrix 32 up) 0 6 []
      ∧ (match checkImage (stagedMatrix 40 up).hostMem with | .bad k => decide (k = 17) | .good _ => false) = true
      ∧ (match checkImage (stagedMatrix 21 up).hostMem with | .bad _ => false | .good c => decide (firstCycle c = some 5))
        = true
      ∧ (match checkImage (stagedMatrix 32 up).hostMem with
          | .bad _ => false
          | .good c => decide (firstCycle c = none ∧ c.binds[0] = .none ∧ c.binds[1] = .none)) = true := by
  unfold FrontOrder; decide +kernel

theorem witness_SurveyNowMakesARequest :
    (FrontOrder (ordered0 7 [15] up) 0 7 [15] ∧ up.survey.orderReq = [])
      ∧ SkippedForSurvey up .l2 ∧ SkippedForSurvey up .l3 ∧ FrontOrder (ordered0 7 [12] up) 0 7 [12]
      ∧ ¬SkippedForSurvey (ordered0 7 [15] up) .l0 := by
  refine ⟨⟨by unfold FrontOrder; decide +kernel, rfl⟩, ?_, ?_, by unfold FrontOrder; decide +kernel, ?_⟩
  · exact .inr (.inr (.inr (.inr (.inr (.inr ⟨rfl, by decide +kernel⟩)))))
  · exact .inr (.inr (.inl rfl))
  · rintro (h | h | h | h | h | ⟨n, h⟩ | ⟨h, -⟩) <;> cases h

theorem witness_ForgetCandidatesRemovesTheNamedLanes :
    FrontOrder (ordered0 8 [1] up) 0 8 [1]
      ∧ (∃ e ∈ (ordered0 8 [1] up).table, (1 : Byte).getLsbD e.key.lane.num = true)
      ∧ FrontOrder (ordered0 8 [12] up) 0 8 [12]
      ∧ ∀ e ∈ (ordered0 8 [12] up).table, (12 : Byte).getLsbD e.key.lane.num = false := by
  unfold FrontOrder; decide +kernel

theorem witness_LaneResetCutsAndIdentifiesTheLane :
    FrontOrder (ordered0 9 [0, 0] up) 0 9 [BitVec.ofNat 8 Lane.l0.num, 0] ∧ (up.lane .l0).owner = .none
      ∧ ((lane0 (fun r => { r with owner := .survey }) up).lane .l0).owner = .survey := by
  unfold FrontOrder; decide +kernel

theorem witness_ForceOffAndAutoSetTheFlag :
    FrontOrder (ordered0 9 [0, 1] up) 0 9 [BitVec.ofNat 8 Lane.l0.num, 1] ∧ (up.lane .l0).owner = .none
      ∧ (up.lane .l0).forcedOff = false ∧ (up.lane .l3).state = .absent ∧ (up.lane .l0).state ≠ .absent
      ∧ FrontOrder (ordered0 9 [0, 2] (lane0 (fun r => { r with forcedOff := true, state := .faulted }) up)) 0 9
          [BitVec.ofNat 8 Lane.l0.num, 2]
      ∧ ((lane0 (fun r => { r with forcedOff := true, state := .faulted }) up).lane .l0).forcedOff = true := by
  unfold FrontOrder; decide +kernel

theorem witness_SetPowerChangesThePowerState :
    FrontOrder (ordered0 10 [1] up) 0 10 [1] ∧ up.supply.power = .active
      ∧ FrontOrder (ordered0 10 [0] { up with supply := { up.supply with power := .quiet } }) 0 10 [0]
      ∧ FrontOrder (ordered0 10 [2] up) 0 10 [2] ∧ (up.ctx .p0).state = .idle ∧ (up.ctx .p1).state = .idle
      ∧ up.matrix.fns.getLsbD 0 = false ∧ up.matrix.fns.getLsbD 1 = false ∧ up.matrix.fns.getLsbD 5 = false
      ∧ up.supply.level ≠ .critical := by
  unfold FrontOrder; decide +kernel

theorem witness_WithdrawalGivesUpTheWait :
    (putByte 0x100 4 up).slotState 0 = 4 ∧ up.slotState 0 ≠ 4
      ∧ ∀ w ∈ [Wait.plan, .survey, .ident .l0],
          [((0 : Fin 8), w)].find? (fun x => decide (x.1 = 0)) = some (0, w) := by decide +kernel

theorem witness_FieldLineChangesAreDebounced :
    up.matrix.config.lines[0] = .input 1 true ∧ up.matrix.config.lines[1] = .input 2 true
      ∧ up.matrix.config.lines[4] = .input 3 false
      ∧ ({ builtInMatrix with lines := builtInMatrix.lines.set 5 (.input 0 true) }).lines[5] = .input 0 true
      ∧ (∀ cls p, up.matrix.config.lines[6] ≠ .input cls p) ∧ up.matrix.timers[0] = none
      ∧ (false != true) ≠ up.matrix.debounced.getLsbD 0 ∧ (true != true) = up.matrix.debounced.getLsbD 0 :=
  ⟨rfl, rfl, rfl, rfl, fun _ _ h => (nomatch h), rfl, by decide +kernel, by decide +kernel⟩

theorem witness_FieldLineChangesAreDebounced_pins :
    up.env.resetLow = false
      ∧ ({ builtInMatrix with lines := builtInMatrix.lines.set 5 .unused }).lines[5] = .unused := ⟨rfl, rfl⟩

theorem witness_DebounceExpiryTakesTheLevel :
    (up.matrix.timers.set 0 (some 704000))[0] = some 704000 ∧ 704000 ≤ up.time.ms
      ∧ up.matrix.config.lines[0] = .input 1 true ∧ up.time.ms < 704001 := ⟨rfl, by decide, rfl, by decide⟩

theorem witness_EvaluationGivesEveryCellItsOutput :
    firstCycle up.matrix.config = none
      ∧ (∀ x ∈ outerSources, up.matrix.sources.value x = presentValue up up.matrix.config x)
      ∧ (∀ x ∈ outerSources,
          (let s := { up with supply := { up.supply with level := .critical } }
           s.matrix.sources.value x ≠ presentValue s s.matrix.config x) ↔ x = .critical)
      ∧ OuterSource.critical ∈ outerSources := by decide +kernel

/-- Every record CLOSED, the second a TEST call's, closed in ascending order. -/
def allClosed (kind : CallKind) : State :=
  { up with recs := { all := (Vector.replicate 12 { CallRecord.blank with state := .closed }).set 1
                        { CallRecord.blank with state := .closed, kind := kind },
                      nextSeq := 13, closeOrder := recordIndexes } }

theorem witness_CallEventsStartACall :
    up.port.ready = true ∧ (up.ctx .p0).state = .idle ∧ up.supply.power ≠ .dormant ∧ (up.record 0).state = .free
      ∧ (∀ k : Fin 12, ((allClosed .test).record k).state ≠ .free) ∧ ((allClosed .test).record 1).state = .closed
      ∧ (allClosed .test).recs.closeOrder.find? (fun k => decide (((allClosed .test).record k).kind = .test)) = some 1
      ∧ (∀ k ∈ (allClosed .emergency).recs.closeOrder, ((allClosed .emergency).record k).kind ≠ .test)
      ∧ (allClosed .emergency).recs.closeOrder.head? = some 0 ∧ State.reset.port.ready = false := by decide +kernel

theorem witness_CallEventsPressOrPreempt :
    (∀ st ∈ [CtxState.selecting, .clearing, .held, .dialling, .alerting, .connected, .paused],
      ((inCall .emergency st (some .l0) up).ctx .p0).state = st
        ∧ ((inCall .test st (some .l0) up).ctx .p0).kind = .test
        ∧ ((inCall .test st (some .l0) up).ctx .p0).emergencyStart = false
        ∧ (inCall .test st (some .l0) up).port.ready = true)
    ∧ ((modCtx .p0 (fun c => { c with emergencyStart := true }) (inCall .test .clearing none up)).ctx .p0).emergencyStart
        = true
    ∧ ((inCall .test .held none up).ctx .p0).record = some 0 ∧ ((inCall .test .held none up).record 0).state = .opened
    ∧ ((inCall .test .held none up).record 1).state = .free
    ∧ ∀ k : Fin 12, k < 1 → ((inCall .test .held none up).record k).state ≠ .free := by decide +kernel

theorem witness_CancelEventsEndOrClearTheCall :
    up.port.ready = true ∧ State.reset.port.ready = false
      ∧ ∀ st ∈ [CtxState.idle, .callbackWatch, .ringing, .selecting, .waitingLane, .paused, .surveyWait, .held, .dialling,
          .alerting, .connected],
        ((inCall .test st (some .l0) up).ctx .p0).state = st
          ∧ ((inCall .test st (some .l0) up).ctx .p0).connectedOnce = false := by decide +kernel

theorem witness_TamperCountsAndWakeLeavesDormant :
    up.port.ready = true ∧ up.supply.power ≠ .dormant ∧ up.supply.preDormant ≠ .dormant
      ∧ ({ up with supply := { up.supply with power := .dormant } } : State).supply.power = .dormant := by decide +kernel

theorem witness_AttachTimeoutEndsTheAttempt :
    ((inCall .test .attaching (some .l0) up).ctx .p0).state = .attaching
      ∧ TimeUp (inCall .test .attaching (some .l0) up) ((inCall .test .attaching (some .l0) up).ctx .p0).stepTimer
      ∧ OnStep (inCall .test .attaching (some .l0) up) .p0 (builtInAttempt 3 (some 1) (some 2))
      ∧ ¬((up.ctx .p0).state = .attaching ∧ TimeUp up (up.ctx .p0).stepTimer)
      ∧ ¬TimeUp (inCall .test .attaching (some .l0) up) (some 705) := by
  unfold TimeUp OnStep; decide +kernel

theorem witness_AlertAndRingTimeoutsClearTheCall :
    ((inCall .test .dialling (some .l0) up).ctx .p0).state = .dialling
      ∧ ((inCall .test .alerting (some .l0) up).ctx .p0).state = .alerting
      ∧ TimeUp (inCall .test .dialling (some .l0) up) ((inCall .test .dialling (some .l0) up).ctx .p0).stepTimer
      ∧ TimeUp (inCall .test .alerting (some .l0) up) ((inCall .test .alerting (some .l0) up).ctx .p0).stepTimer
      ∧ ¬TimeUp (inCall .test .alerting (some .l0) up) (some 705) := by
  unfold TimeUp; decide +kernel

theorem witness_PausesEndInSelecting :
    (∀ st ∈ [CtxState.paused, .surveyWait], ((inCall .test st none up).ctx .p0).state = st
      ∧ TimeUp (inCall .test st none up) ((inCall .test st none up).ctx .p0).stepTimer
      ∧ ((inCall .test st none up).ctx .p0).endPause = false)
    ∧ ((modCtx .p0 (fun c => { c with endPause := true }) (inCall .test .paused none up)).ctx .p0).endPause = true := by
  unfold TimeUp; decide +kernel

/-- A location of nine digits, the last of them changed. -/
def located (last : Byte) (s : State) : State :=
  { s with mem := (s.mem.write 0x230 9).place 0x232 12 [0x30, 0x74, 0x21, 0x58, last] }

/-- A burst with digits sent up to a place, pacing. -/
def pacing (next : Nat) (s : State) : State :=
  modBurst .p0 (fun _ =>
    { stage := .pacing, digits := [0, 3, 4, 7, 1, 2, 8, 5, 2, 4], next := next, timer := some 704000 }) s

theorem witness_LocationBurstRunsInGroupsOfEight :
    ((inCall .test .connected (some .l0) up).ctx .p0).lane = some .l0
      ∧ ((inCall .test .connected (some .l0) up).ctx .p0).state = .connected
      ∧ TimeUp (inCall .test .connected (some .l0) up) ((inCall .test .connected (some .l0) up).ctx .p0).locTimer
      ∧ locationDigits (inCall .test .connected (some .l0) up) = []
      ∧ locationDigits (inCall .test .connected (some .l0) (located 2 up)) = [0, 3, 4, 7, 1, 2, 8, 5, 2]
      ∧ (∃ d ∈ locationDigits (inCall .test .connected (some .l0) (located 10 up)), 9 < d)
      ∧ ((pacing 8 up).voice.burst.get .p0).stage = .pacing
      ∧ ((pacing 8 up).voice.burst.get .p0).digits.drop 8 = [2, 4]
      ∧ ((pacing 10 up).voice.burst.get .p0).digits.drop 10 = []
      ∧ (joinPath .p0 .l0 up).voice.conn.get .p0 = some .l0 ∧ (joinPath .p0 .l0 up).voice.conn.get Cp.p0.other ≠ some .l0
      ∧ ((pacing 8 up).voice.burst.get .p0).timer = some 704000 ∧ 704000 ≤ (pacing 8 up).time.ms := by
  unfold TimeUp; decide +kernel

/-- 8.10: the second burst writes SENT again, one rewrite of the record. -/
theorem test_sent_over_sent :
    (let s := flushRecord .p0 (setLocation .p0 .sent (pacing 10 (inCall .test .connected (some .l0) up)))
     after (.pacingExpiry .p0) s (fun t => (t.record 0).location == .sent
       && t.mem.num 0x1000 2 == s.mem.num 0x1000 2 + 2)) = true := by decide +kernel

/-- R137, R140: with a location delay of 0 and a digit above 9, the entry into CONNECTED is one rewrite of the record. -/
theorem test_connect_with_a_bad_digit_is_one_rewrite :
    (let s := located 10 (inCall .test .dialling (some .l0) up)
     let s := flushRecord .p0 { s with mem := s.mem.place (Config.settingsBase + 0x68) 2 [] }
     let t := flushRecord .p0 (connect .p0 s)
     (locationDelayOf s, (t.record 0).location, (t.record 0).connects, t.mem.num 0x1000 2 - s.mem.num 0x1000 2))
      = (0, .invalid, 1, 2) := by decide +kernel

theorem witness_CallbackWindowExpiryEndsTheWatch :
    ((inCall .test .callbackWatch (some .l0) up).ctx .p0).state = .callbackWatch
      ∧ TimeUp (inCall .test .callbackWatch (some .l0) up) ((inCall .test .callbackWatch (some .l0) up).ctx .p0).cbTimer
      ∧ ((inCall .test .callbackWatch (some .l0) up).ctx .p0).record = some 0
      ∧ ¬((up.ctx .p0).state = .callbackWatch ∧ TimeUp up (up.ctx .p0).cbTimer) ∧ ¬TimeUp up (some 705) := by
  unfold TimeUp; decide +kernel

theorem witness_CadencesTurnAtTheEndOfAPhase :
    ({ up with lamps := ⟨{ flash := some ⟨true, 704000⟩, ringer := some ⟨false, 704000⟩ }, Lamps.reset⟩ } : State).lamps.get
        .p0 = { flash := some ⟨true, 704000⟩, ringer := some ⟨false, 704000⟩ }
      ∧ 704000 ≤ up.time.ms ∧ up.env.resetLow = false ∧ up.matrix.config.lines[6] = .output (.connecting .p0)
      ∧ up.matrix.config.lines[10] = .output (.ringer .p0) ∧ (up.lamps.get .p0).flash = none ∧ (up.lamps.get .p0).ringer = none := by decide +kernel

theorem witness_ResponsesReachTheirRequester :
    up.link.inFlight = none
      ∧ (inFlight .probe .manager true up).link.inFlight = some (txOf .probe .manager true)
      ∧ (frame 0 0 []).lane.toNat = Lane.l0.num ∧ (frame 0 0 []).tag.toNat = 7
      ∧ ({ frame 0 0 [] with tag := 8 }).tag.toNat ≠ 7 ∧ (up.lane .l0).noResp = 0 ∧ (up.lane .l0).state = .ready
      ∧ (up.lane .l0).owner = .none
      ∧ ((inFlight .dial (.ctx .p0) true (inCall .test .dialling (some .l0) up)).ctx .p0).state = .dialling
      ∧ ((inFlight .dial (.ctx .p0) true (inCall .test .alerting (some .l0) up)).ctx .p0).state = .alerting
      ∧ OnStep (inFlight .dial (.ctx .p0) true (inCall .test .dialling (some .l0) up)) .p0
          (builtInAttempt 3 (some 1) (some 2))
      ∧ (frame 1 2 []).status = 1 ∧ (frame 1 2 []).cause.toNat ≤ 2
      ∧ ((modBurst .p0 (fun b => { b with stage := .sending }) up).voice.burst.get .p0).stage = .sending := by
  unfold OnStep; decide +kernel

theorem witness_ResponseTimeoutsCountAgainstTheLane :
    (inFlight .attach (.ctx .p0) false up).link.inFlight = some (txOf .attach (.ctx .p0) false)
      ∧ up.time.ms < 704001 ∧ 704000 ≤ up.time.ms ∧ (up.lane .l0).power = true ∧ (up.lane .l0).state ≠ .faulted
      ∧ (up.lane .l0).noResp < 2 ∧ ((lane0 (fun r => { r with noResp := 2 }) up).lane .l0).noResp = 2
      ∧ (up.ctx .p0).lane ≠ some .l0 ∧ (up.ctx .p0).pendingClaim ≠ some .l0
      ∧ (up.ctx .p1).lane ≠ some .l0 ∧ (up.ctx .p1).pendingClaim ≠ some .l0
      ∧ ((lane0 (fun r => { r with pdPending := true }) up).lane .l0).pdPending = true := by decide +kernel

theorem witness_EventWordsActOnLanesAndCalls :
    (inFlight .fetchEvent .manager true up).link.inFlight = some (txOf .fetchEvent .manager true)
      ∧ (frame 0 0 [1, 0, 0, 0]).data = [1, 0, 0, 0]
      ∧ ((lane0 (fun r => { r with state := .starting }) up).lane .l0).state = .starting
      ∧ (12 : Nat) < (13 : Byte).toNat ∧ (∀ h, (up.lane .l0).outTag ≠ some ((5 : Byte).toNat, h))
      ∧ ((lane0 (fun r => { r with owner := .ctx .p0, outTag := some (5, .ctx .p0) }) up).lane .l0).outTag
          = some ((5 : Byte).toNat, .ctx .p0)
      ∧ ((inCall .test .callbackWatch (some .l0) up).ctx .p0).state = .callbackWatch
      ∧ ((inCall .test .dialling (some .l0) up).ctx .p0).lane = some .l0
      ∧ up.voice.conn.get Cp.p0.other ≠ some .l0 ∧ 1 ≤ locationDelayOf (inCall .test .dialling (some .l0) up) :=
  ⟨rfl, rfl, rfl, by decide, fun _ h => (nomatch h), rfl, rfl, rfl, by decide, by decide +kernel⟩

/-- An EMERGENCY context that waits with a pending claim on a lane. -/
def pendingOn (l : Lane) : State :=
  modCtx .p0 (fun c => { c with pendingClaim := some l }) (inCall .emergency .waitingLane none up)

theorem witness_StartTimeoutFaultsTheLane :
    ((lane0 (fun r => { r with state := .starting, startTimer := some 700 }) up).lane .l0).state = .starting
      ∧ TimeUp up (some 700) ∧ (up.ctx .p0).lane ≠ some .l0 ∧ (up.ctx .p1).lane ≠ some .l0
      ∧ (up.ctx .p0).pendingClaim ≠ some .l0 ∧ (up.ctx .p1).pendingClaim ≠ some .l0
      ∧ ((inCall .test .waitingLane (some .l0) up).ctx .p0).lane = some .l0
      ∧ ((inCall .test .waitingLane (some .l0) up).ctx .p0).state = .waitingLane
      ∧ ((inCall .test .waitingLane (some .l0) up).ctx .p0).pendingClaim ≠ some .l0
      ∧ OnStep (inCall .test .waitingLane (some .l0) up) .p0 (builtInAttempt 3 (some 1) (some 2))
      ∧ (pendingOn .l0).ctx .p0 = { (inCall .emergency .waitingLane none up).ctx .p0 with pendingClaim := some .l0 }
      ∧ ((pendingOn .l0).ctx .p1).lane ≠ some .l0 ∧ ((pendingOn .l0).ctx .p1).pendingClaim ≠ some .l0
      ∧ OnStep (pendingOn .l0) .p0 (builtInAttempt 3 (some 1) (some 2)) := by
  unfold TimeUp OnStep; decide +kernel

/-- R97: LANE is raised before the former owner is told, so a matrix that takes the attention mirror sees the mirror rise while
the context of the lane is still active. -/
theorem test_fault_raises_lane_first :
    (let s := lane0 (fun r => { r with state := .starting, startTimer := some 700, owner := .ctx .p0 })
       (inCall .test .connected (some .l0) up)
     let u := faultLane .l0 .startTimeout s
     let v := showLane .l0 (shutFaulted .l0 .startTimeout s)
     (v.port.attention &&& 0x04, (v.ctx .p0).state, u.mem.read 0x602, u.mem.num 0x600 2 - s.mem.num 0x600 2))
      = (4, .connected, 4, 2) := by decide +kernel

/-- R97, R81: the survey engine is told after the fault's rewrite and LANE, and its fields are a rewrite of their own. -/
theorem test_fault_tells_the_survey_engine_last :
    (let s := modScan .l0 (fun v => { v with stage := .running })
       (lane0 (fun r => { r with state := .starting, startTimer := some 700, owner := .survey }) up)
     let v := showLane .l0 (shutFaulted .l0 .startTimeout s)
     let u := flushLane .l0 (faultLane .l0 .startTimeout s)
     ((v.scan .l0).stage, (u.scan .l0).stage, (u.scan .l0).lastResult, u.mem.num 0x600 2 - s.mem.num 0x600 2))
      = (.running, .none, .failed, 4) := by decide +kernel

/-- R147, R162: an OPEN record found odd at a part reset has its count advanced by one and is closed by one rewrite. -/
theorem test_reset_closes_an_odd_record_in_one_rewrite :
    (let s := inCall .test .connected (some .l0) up
     let t := partReset .control false { s with mem := s.mem.place 0x1000 2 [5, 0] }
     (t.mem.num 0x1000 2, (t.record 0).state)) = (8, .closed) := by decide +kernel

theorem witness_LaneTimersRestartAndProbe :
    ((lane0 (fun r => { r with state := .faulted, restartTimer := some 704 }) up).lane .l0).state = .faulted
      ∧ TimeUp up (some 704) ∧ (up.lane .l0).state = .ready ∧ (up.lane .l0).owner = .none
      ∧ TimeUp up ((lane0 (fun r => { r with probeTimer := some 704 }) up).lane .l0).probeTimer
      ∧ (up.lane .l0).readySince = some 0 ∧ 600 ≤ (up.time.uptime - 0).toNat ∧ (up.lane .l0).state ≠ .faulted
      ∧ (up.lane .l2).state ≠ .ready ∧ ¬TimeUp up (some 705) ∧ ¬TimeUp up none
      ∧ ¬600 ≤ (up.time.uptime - 105).toNat ∧ 600 ≤ (up.time.uptime - 104).toNat := by
  unfold TimeUp; decide +kernel

theorem witness_IdentityReadsGiveTheLaneItsState :
    (∀ r : Fin 4, ((lane0 (fun v => { v with ident := some ⟨r, 0, 704000⟩ }) up).lane .l0).ident = some ⟨r, 0, 704000⟩)
      ∧ 704000 ≤ up.time.ms ∧ up.time.ms < 704001 ∧ up.port.ready = true := by decide +kernel

theorem witness_TheLastIdentityReadCompletesTheReset :
    ((lane0 (fun v => { v with ident := some ⟨3, 0, 0⟩ }) { up with port := { up.port with ready := false } }).lane
        .l0).ident = some ⟨3, 0, 0⟩
      ∧ ({ up with port := { up.port with ready := false } } : State).port.ready = false ∧ up.rst.needRise = false
      ∧ (up.lane .l1).ident = none ∧ (up.lane .l2).ident = none ∧ (up.lane .l3).ident = none
      ∧ up.rst.callFound = ⟨false, false⟩ ∧ up.orders.waits = [] := by decide +kernel

theorem witness_SurveyTimesListAndAbort :
    TimeUp up ((modScan .l0 (fun v => { v with due := some 704 }) up).scan .l0).due ∧ (up.scan .l0).stage = .none
      ∧ Lane.l0 ∉ up.survey.list ∧ (up.scan .l0).due = none
      ∧ ((modScan .l0 (fun v => { v with stage := .running, timer := some 704 }) up).scan .l0).stage = .running
      ∧ TimeUp up ((modScan .l0 (fun v => { v with stage := .running, timer := some 704 }) up).scan .l0).timer
      ∧ ((modScan .l0 (fun v => { v with stage := .aborting, due := some 704 }) up).scan .l0).stage = .aborting
      ∧ ¬TimeUp up (up.scan .l0).due ∧ ¬TimeUp up (some 705) ∧ Lane.l0 ∈ (joinList .l0 up).survey.list
      ∧ ¬((up.scan .l0).stage = .running ∧ TimeUp up (up.scan .l0).timer) := by
  unfold TimeUp; decide +kernel

/-- R73: by due time, and lanes due together by their numbers. -/
theorem test_survey_list_order :
    (let due (l : Lane) (d : Seconds) (s : State) := modScan l (fun v => { v with due := some d }) s
     let s := due .l0 704 (due .l1 704 (due .l2 700 up))
     (joinList .l0 (joinList .l2 (joinList .l1 s))).survey.list) = [.l2, .l0, .l1] := by decide +kernel

/-- R72, R73, R82: a lane on the list takes the place of a new due time, but keeps its own for an immediate request. -/
theorem test_listed_lane_due_again :
    (let due (l : Lane) (d : Seconds) (s : State) := modScan l (fun v => { v with due := some d }) s
     let s := joinList .l1 (joinList .l0 (due .l0 700 (due .l1 702 up)))
     ((dueNow .l0 s).survey.list, (dueOnRequest .l0 s).survey.list)) = ([.l1, .l0], [.l0, .l1]) := by decide +kernel

/-- R159, R160: two entries of a scan report discarded for their operator codes are two changes of the counter. -/
theorem test_discarded_entries_are_published_apart :
    (let s := flushStatus up
     let bad : List Byte := [0xAA, 0xAA, 0xAA, 0, 0, 0, 0]
     let t := flushStatus (mergeReport .l0 2 ([2] ++ bad ++ bad) s)
     (t.counters.discarded, t.mem.num 0 2)) = (2, ((flushStatus up).mem.num 0 2 + 4)) := by decide +kernel

/-- R87, R92, R94: the select lines of read 0, the other outputs of a lane being identified, and those of a started lane. -/
theorem test_lane_outputs :
    (State.reset.selectPins .l2, State.reset.powerEnable .l2, State.reset.linkSide .l2, (startLane .l2 State.reset).powerEnable .l2)
      = (.read false true, .standby .highImpedance, .standby .highImpedance, .enabled) := by decide +kernel

/-- R148: HSDO is driven in a transaction, with the register's byte in a read, and is high impedance outside. -/
theorem test_hsdo :
    (up.hsdoPin 0, (opened .partState true up).hsdoPin 0, (opened .dataA false up).hsdoPin 0)
      = (.highImpedance, .driven (some (partState up)), .driven none) := by decide +kernel

theorem witness_ScoreTicksAgeLiftDecayAndRemove :
    ({ up with tickDue := true } : State).tickDue = true ∧ up.time.uptime.toNat % 16 = 0 ∧ up.tickDue = false
      ∧ TimeUp up (some 704) ∧ ¬TimeUp up (some 705) ∧ TimeUp up (some (0 + BitVec.ofNat 32 (failDecayOf up)))
      ∧ min (up.time.uptime - 0).toNat 65535 < lifetimeOf up
      ∧ ¬min ((2000 : Seconds) - 0).toNat 65535 < lifetimeOf up := by
  unfold TimeUp; decide +kernel

theorem witness_MeasurementsGiveReadingsAndLevel : TimeUp up (some up.supply.timer) := by unfold TimeUp; decide +kernel

theorem witness_EachCommandKeepsWhatIsNotItsOwn :
    exec .dataRead up = .next up ∧ Instr.dataRead ∉ [Instr.powerOn, .uptimeSecond, .setTime]
      ∧ Instr.dataRead ≠ .powerOn ∧ Instr.dataRead ≠ .setPowerDormant
      ∧ Instr.wake ∉ [Instr.powerOn, .resetnRise, .portReset, .dataRead] := ⟨rfl, by decide, by decide, by decide, by decide⟩

theorem witness_EveryStepKeepsTheMemoryCanonical :
    (match step State.reset with | .next _ => true | .fault _ => false | .refused _ => false) = true
      ∧ MemoryInv State.reset := by unfold MemoryInv; decide +kernel

theorem witness_EveryStepKeepsTableQueueCountersAndAttention :
    (match step State.reset with | .next _ => true | .fault _ => false | .refused _ => false) = true
      ∧ State.reset.table = [] ∧ State.reset.startq = [] ∧ State.reset.counters = ⟨0, 0, 0, 0, 0, 0, 0⟩
      ∧ AttentionInv State.reset.port := by decide +kernel

end Sys2Proof.Tests
end

section
namespace Sys2Proof

/-! ## Pairs and quadruples: what is read after a change -/

variable {α : Type}

@[simp] theorem Duo.get_set_same (d : Duo α) (n : Cp) (a : α) : (d.set n a).get n = a := by cases n <;> rfl
@[simp] theorem Duo.get_set_other (d : Duo α) (n : Cp) (a : α) : (d.set n a).get n.other = d.get n.other := by
  cases n <;> rfl
@[simp] theorem Duo.get_other_set (d : Duo α) (n : Cp) (a : α) : (d.set n.other a).get n = d.get n := by
  cases n <;> rfl
@[simp] theorem Duo.set_set (d : Duo α) (n : Cp) (a b : α) : (d.set n a).set n b = d.set n b := by cases n <;> rfl

@[simp] theorem Quad.get_set_same (q : Quad α) (l : Lane) (a : α) : (q.set l a).get l = a := by cases l <;> rfl
theorem Quad.get_set_of_ne (q : Quad α) {l m : Lane} (h : m ≠ l) (a : α) : (q.set l a).get m = q.get m := by
  cases l <;> cases m <;> simp_all [Quad.get, Quad.set]

end Sys2Proof

namespace Sys2Proof.Machine

/-! ## The matrix, the attention bits and the states of contexts -/

/-- Some evaluations lead from a matrix to another (R126): its configuration stays, and what is raised is only added to. -/
def Matrix.Grows (m m' : Matrix) : Prop :=
  m' = { m with cells := m'.cells, fns := m'.fns, sources := m'.sources, raised := m'.raised, unshown := m'.unshown }
    ∧ ∃ l, m'.raised = m.raised ++ l

theorem Matrix.Grows.refl (m : Matrix) : m.Grows m := ⟨rfl, [], by simp⟩

theorem Matrix.Grows.trans {m m' m'' : Matrix} (h : m.Grows m') (k : m'.Grows m'') : m.Grows m'' := by
  obtain ⟨h, l, hl⟩ := h
  obtain ⟨k, l', kl⟩ := k
  exact ⟨by rw [k, h], l ++ l', by rw [kl, hl, List.append_assoc]⟩

theorem Matrix.grows_evaluated (m : Matrix) (v : Sources) : m.Grows (Matrix.evaluated { m with sources := v }) := by
  unfold Matrix.evaluated Matrix.computed
  exact ⟨rfl, _, rfl⟩

theorem evalMatrix_grows (s : State) : s.matrix.Grows (evalMatrix s).matrix := by
  rw [evalMatrix_matrix]
  generalize s.matrix = m
  induction outerSources generalizing m with
  | nil => exact .refl m
  | cons c l ih =>
    rw [List.foldl_cons]
    rcases takeSource_cases s m c with ⟨-, e⟩ | ⟨-, e⟩
    · rw [e]; exact ih m
    · rw [e]; exact (m.grows_evaluated _).trans (ih _)

/-- Raising an attention bit changes the port, once the ready flag is set, and the matrix may follow (R158). -/
structure Raised (s u : State) (bits : Byte) : Prop where
  port  : u.port = raised s.port bits
  grows : s.matrix.Grows u.matrix
  frame : u = { s with port := u.port, matrix := u.matrix }

theorem raise_spec (b : Attn) (s : State) : Raised s (raise b s) b.mask := by
  unfold raise
  by_cases h : s.port.ready = true
  · rw [if_pos h]
    exact ⟨by unfold raised; rw [if_pos h]; rfl, evalMatrix_grows (modPort _ s), rfl⟩
  · rw [if_neg h]
    exact ⟨by unfold raised; rw [if_neg h], .refl _, rfl⟩

@[simp] theorem raised_raised (p : Port) (a b : Byte) : raised (raised p a) b = raised p (a ||| b) := by
  unfold raised
  split <;> simp_all [BitVec.or_assoc]

@[simp] theorem raised_zero (p : Port) : raised p 0 = p := by
  simp [raised]

/-- A context has entered a state, and its indications and the matrix have followed (R2, R118, R126). -/
structure StateEntered (s u : State) (n : Cp) (st : CtxState) : Prop where
  ctx : u.ctx n = { s.ctx n with state := st }
  otherCtx : u.ctx n.other = s.ctx n.other
  lamps : u.lamps.get n = lampsFor s.time.ms (s.ctx n).state st (s.lamps.get n)
  otherLamps : u.lamps.get n.other = s.lamps.get n.other
  grows : s.matrix.Grows u.matrix
  frame : u = { s with ctxs := u.ctxs, lamps := u.lamps, matrix := u.matrix }

theorem setState_spec (n : Cp) (st : CtxState) (s : State) : StateEntered s (setState n st s) n st where
  ctx := Duo.get_set_same _ _ _
  otherCtx := Duo.get_set_other _ _ _
  lamps := Duo.get_set_same _ _ _
  otherLamps := Duo.get_set_other _ _ _
  grows := evalMatrix_grows ((modCtx n (fun c => { c with state := st }) s).withLamps _)
  frame := rfl

@[simp] theorem modCtx_ctx (n : Cp) (f : Context → Context) (s : State) : (modCtx n f s).ctx n = f (s.ctx n) :=
  Duo.get_set_same _ _ _
@[simp] theorem modCtx_ctx_other (n : Cp) (f : Context → Context) (s : State) :
    (modCtx n f s).ctx n.other = s.ctx n.other := Duo.get_set_other _ _ _

end Sys2Proof.Machine
end

section
namespace Sys2Proof.Machine

/-! ## Memory -/

theorem Memory.num_two (m : Memory) (a : Nat) : m.num a 2 = (m.read a).toNat + 256 * (m.read (a + 1)).toNat := by
  simp [Memory.num, Memory.bytes, natOf, List.range'_succ]

/-- A rewrite advances the block's revision count by two. -/
theorem Memory.num_rewrite (m : Memory) (base size : Nat) (content : List Byte) (h : 2 ≤ size) :
    (m.rewrite base size content).num base 2 = (m.num base 2 + 2) % 65536 := by
  have h0 : base ≤ base ∧ base < base + size := by omega
  have h1 : base ≤ base + 1 ∧ base + 1 < base + size := by omega
  rw [Memory.num_two]
  simp only [Memory.rewrite, Memory.read_place, if_pos h0, if_pos h1, bytesOf, Nat.sub_self,
    Nat.add_sub_cancel_left, List.cons_append, List.getElem?_cons_zero, List.getElem?_cons_succ, Option.getD_some,
    BitVec.toNat_ofNat]
  omega

theorem Memory.num_two_congr {m m' : Memory} {a : Nat} (h : ∀ x, a ≤ x → x < a + 2 → m'.read x = m.read x) :
    m'.num a 2 = m.num a 2 := by
  rw [Memory.num_two, Memory.num_two, h a (by omega) (by omega), h (a + 1) (by omega) (by omega)]

/-- What the part reads of the host's bytes does not change where the memory does not. -/
theorem hostMem_read_congr {s t : State} {a : Nat} (hs : t.snap = s.snap) (hm : t.mem.read a = s.mem.read a) :
    t.hostMem.read a = s.hostMem.read a := by
  unfold State.hostMem
  rw [hs]
  cases s.snap <;> simp [hm]

theorem callbackWindowOf_congr {s t : State} (hs : t.snap = s.snap)
    (hm : ∀ a, 0x200 ≤ a → a < 0x400 → t.mem.read a = s.mem.read a) : callbackWindowOf t = callbackWindowOf s := by
  unfold callbackWindowOf timerSetting setting16
  have h : t.hostMem.num (Config.settingsBase + (0x60 + 2 * 3)) 2 = s.hostMem.num (Config.settingsBase + (0x60 + 2 * 3)) 2 :=
    Memory.num_two_congr (fun x h1 h2 => hostMem_read_congr hs (hm x (by simp [Config.settingsBase] at h1; omega)
      (by simp [Config.settingsBase] at h2; omega)))
  rw [h]

/-! ## Orders -/

theorem slotAddr_eq (i : Fin 8) : slotAddr i = 0x100 + 32 * i.val := rfl

/-- Taking an order touches its slot's state byte and the posted list alone. -/
theorem takeOrder_eq (i : Fin 8) (s : State) :
    takeOrder i s = (s.withOrders { s.orders with posted := s.orders.posted.filter (fun j => decide (j ≠ i)) }).withMem
      (s.mem.write (slotAddr i) slotTaken) := rfl

theorem takeOrder_read (i : Fin 8) (s : State) (a : Nat) (h : a ≠ slotAddr i) :
    (takeOrder i s).mem.read a = s.mem.read a := by
  rw [takeOrder_eq]; exact (Memory.read_write _ _ _ _).trans (if_neg h)

@[simp] theorem orderArg_takeOrder (i : Fin 8) (s : State) (n : Nat) : orderArg (takeOrder i s) i n = orderArg s i n :=
  hostMem_read_congr rfl (takeOrder_read i s _ (by omega))

@[simp] theorem argCp_takeOrder (i : Fin 8) (s : State) : argCp (takeOrder i s) i = argCp s i := by
  simp [argCp]

@[simp] theorem argLane_takeOrder (i : Fin 8) (s : State) : argLane (takeOrder i s) i = argLane s i := by
  simp [argLane]

@[simp] theorem callbackWindowOf_takeOrder (i : Fin 8) (s : State) :
    callbackWindowOf (takeOrder i s) = callbackWindowOf s :=
  callbackWindowOf_congr rfl (fun a h _ => takeOrder_read i s a (by rw [slotAddr_eq]; have := i.isLt; omega))

section
variable {s : State} {i : Fin 8} {code : Nat} {args : List Byte}

theorem orderCode_of_front (h : FrontOrder s i code args) : orderCode s i = code := h.2.1

theorem orderArg_of_front (h : FrontOrder s i code args) (k : Nat) (hk : k < args.length) :
    orderArg s i (k + 1) = (args[k]?).getD 0 := by
  obtain ⟨-, -, h⟩ := h
  rw [← h k hk]
  unfold orderArg
  rw [slotAddr_eq]
  congr 1
  omega

theorem argCp_of_front {n : Cp} (h : FrontOrder s i code (BitVec.ofNat 8 n.num :: args)) : argCp s i = n := by
  unfold argCp
  rw [orderArg_of_front h 0 (by simp)]
  cases n <;> rfl

theorem argLane_of_front {l : Lane} (h : FrontOrder s i code (BitVec.ofNat 8 l.num :: args)) : argLane s i = l := by
  unfold argLane
  rw [orderArg_of_front h 0 (by simp)]
  cases l <;> rfl

/-- The front order of a row whose arguments pass their checks is taken, and its own rule acts (R166, R170). -/
theorem takeRow_of_front {row : OrderRow} {act : Fin 8 → State → State} (h : FrontOrder s i code args)
    (hr : orderRow s i = row) (hb : badArgument s i = none) : takeRow row act s = finish (act i (takeOrder i s)) := by
  obtain ⟨hp, -⟩ := h
  unfold takeRow
  obtain ⟨rest, e⟩ : ∃ rest, s.orders.posted = i :: rest := by
    cases hq : s.orders.posted with
    | nil => rw [hq] at hp; cases hp
    | cons a rest => rw [hq] at hp; cases hp; exact ⟨rest, rfl⟩
  rw [e]
  simp only [hr, hb, if_true]

end

/-- A slot's result part and state byte as its order completes (R167). -/
def doneMem (i : Fin 8) (r : ResultCode) (d : List Byte) (m : Memory) : Memory :=
  (m.place (slotAddr i + 16) 16 ([r.code, 0] ++ d)).write (slotAddr i) slotDone

theorem doneMem_read (i : Fin 8) (r : ResultCode) (d : List Byte) (m : Memory) (a : Nat) :
    (doneMem i r d m).read a =
      if a = slotAddr i then slotDone
      else if slotAddr i + 16 ≤ a ∧ a < slotAddr i + 16 + 16 then (([r.code, 0] ++ d)[a - (slotAddr i + 16)]?).getD 0
      else m.read a := by
  unfold doneMem
  rw [Memory.read_write, Memory.read_place]

theorem orderDone_of_mem {u : State} {i : Fin 8} {r : ResultCode} {d : List Byte} {m : Memory}
    (h : u.mem = doneMem i r d m) : OrderDone u i r.code d := by
  refine ⟨?_, ?_, ?_, fun k hk => ?_⟩
  · unfold State.slotState
    rw [h, doneMem_read, if_pos rfl]
    rfl
  · rw [← slotAddr_eq, h, doneMem_read, if_neg (by omega), if_pos (by omega)]
    simp
  · rw [← slotAddr_eq, h, doneMem_read, if_neg (by omega), if_pos (by omega)]
    simp [show slotAddr i + 17 - (slotAddr i + 16) = 1 by omega]
  · rw [← slotAddr_eq, h, doneMem_read, if_neg (by omega), if_pos (by omega)]
    simp [show slotAddr i + 18 + k - (slotAddr i + 16) = k + 2 by omega]

/-- Completing an order: its slot is DONE, its wait is over, ORDER is raised, and nothing else changes (R167). -/
structure OrderEnds (w u : State) (i : Fin 8) (r : ResultCode) (d : List Byte) : Prop where
  mem : u.mem = doneMem i r d w.mem
  orders : u.orders = { w.orders with waits := w.orders.waits.filter (fun x => decide (x.1 ≠ i)) }
  port : u.port = raised w.port 0x01
  grows : w.matrix.Grows u.matrix
  frame : u = { w with mem := u.mem, orders := u.orders, port := u.port, matrix := u.matrix }

theorem completeOrder_spec (i : Fin 8) (r : ResultCode) (d : List Byte) (w : State) :
    OrderEnds w (completeOrder i r d w) i r d := by
  have h := raise_spec .order ((w.withMem (doneMem i r d w.mem)).withOrders
    { w.orders with waits := w.orders.waits.filter (fun x => decide (x.1 ≠ i)) })
  have e : completeOrder i r d w = raise .order ((w.withMem (doneMem i r d w.mem)).withOrders
    { w.orders with waits := w.orders.waits.filter (fun x => decide (x.1 ≠ i)) }) := rfl
  rw [← e] at h
  have hm : (completeOrder i r d w).mem = doneMem i r d w.mem := by rw [h.frame]; rfl
  have ho : (completeOrder i r d w).orders =
      { w.orders with waits := w.orders.waits.filter (fun x => decide (x.1 ≠ i)) } := by rw [h.frame]; rfl
  exact ⟨hm, ho, h.port, h.grows, by rw [hm, ho]; exact h.frame⟩

/-- What an order's own rule has left of the order unit, the port and the matrix decides how the order has completed (R166,
R167). -/
theorem OrderEnds.completed {s w u : State} {bits : Byte} {i : Fin 8} {r : ResultCode} {d : List Byte}
    (h : OrderEnds w u i r d) (ho : w.orders = (takeOrder i s).orders) (hp : w.port = raised s.port bits)
    (hm : s.matrix.Grows w.matrix) : OrderCompleted s u i r.code d (bits ||| 0x01) := by
  refine ⟨orderDone_of_mem h.mem, ?_, ?_, hm.trans h.grows⟩
  · rw [h.orders, ho]
    rfl
  · rw [h.port, hp, raised_raised]

/-- The bytes outside its slot are as the order's rule has left them. -/
theorem OrderEnds.read {w u : State} {i : Fin 8} {r : ResultCode} {d : List Byte} (h : OrderEnds w u i r d) {a : Nat}
    (h1 : a ≠ slotAddr i) (h2 : ¬(slotAddr i + 16 ≤ a ∧ a < slotAddr i + 32)) : u.mem.read a = w.mem.read a := by
  rw [h.mem, doneMem_read, if_neg h1, if_neg (by omega)]

/-- The bytes that a taken order's rule and its completion have left alone. -/
theorem OrderEnds.sameButSlot {s w u : State} {base n : Nat} {i : Fin 8} {r : ResultCode} {d : List Byte}
    (h : OrderEnds w u i r d) (hw : ∀ a, ¬(base ≤ a ∧ a < base + n) → w.mem.read a = (takeOrder i s).mem.read a) :
    SameButSlot s u i base n := by
  intro a h1 h2 h3
  rw [← slotAddr_eq] at h2 h3
  rw [h.read h2 h3, hw a h1, takeOrder_read i s a h2]

/-- An order that completes as soon as it is taken has no other effect. -/
theorem completeOrder_takeOrder (i : Fin 8) (r : ResultCode) (d : List Byte) (s : State) :
    OrderOnly s i r.code d (completeOrder i r d (takeOrder i s)) := by
  have h := completeOrder_spec i r d (takeOrder i s)
  exact ⟨h.completed (bits := 0) rfl (raised_zero _).symm (.refl _), h.sameButSlot (fun _ _ => rfl), h.frame⟩

end Sys2Proof.Machine
end

section
namespace Sys2Proof.Machine

/-! ## The rows of the orders, and their arguments -/

section
variable {s : State} {i : Fin 8} {n : Cp} {l : Lane}

theorem cp_num_le (n : Cp) : n.num % 256 ≤ 1 := by cases n <;> decide

theorem lane_num_le (l : Lane) : l.num % 256 ≤ 3 := by cases l <;> decide

theorem takeRow_placeCall {kind number hold : Byte} (h : FrontOrder s i 2 [BitVec.ofNat 8 n.num, kind, number, hold])
    (hk : kind = 0 ∨ (kind = 1 ∧ number.toNat ≤ 3 ∧ hold.toNat ≤ 1)) :
    exec .placeCall s = .next (finish (placeCall i (takeOrder i s))) := by
  have a1 : orderArg s i 1 = BitVec.ofNat 8 n.num := orderArg_of_front h 0 (by simp)
  have a2 : orderArg s i 2 = kind := orderArg_of_front h 1 (by simp)
  have a3 : orderArg s i 3 = number := orderArg_of_front h 2 (by simp)
  have a4 : orderArg s i 4 = hold := orderArg_of_front h 3 (by simp)
  refine congrArg Host.Outcome.next (takeRow_of_front h (by unfold orderRow; rw [orderCode_of_front h]; rfl) ?_)
  unfold badArgument
  rw [orderCode_of_front h]
  have hn := cp_num_le n
  rcases hk with rfl | ⟨rfl, h3, h4⟩
  · simp [a1, a2, badIf, hn]
  · simp [a1, a2, a3, a4, badIf, hn, h3, h4]

theorem takeRow_cancelCall (h : FrontOrder s i 3 [BitVec.ofNat 8 n.num]) :
    exec .cancelCall s = .next (finish (cancelCall i (takeOrder i s))) := by
  have a1 : orderArg s i 1 = BitVec.ofNat 8 n.num := orderArg_of_front h 0 (by simp)
  refine congrArg Host.Outcome.next (takeRow_of_front h (by unfold orderRow; rw [orderCode_of_front h]; rfl) ?_)
  unfold badArgument
  rw [orderCode_of_front h]
  simp [a1, badIf, cp_num_le n]

theorem takeRow_continueCall (h : FrontOrder s i 4 [BitVec.ofNat 8 n.num]) :
    exec .continueCall s = .next (finish (continueCall i (takeOrder i s))) := by
  have a1 : orderArg s i 1 = BitVec.ofNat 8 n.num := orderArg_of_front h 0 (by simp)
  refine congrArg Host.Outcome.next (takeRow_of_front h (by unfold orderRow; rw [orderCode_of_front h]; rfl) ?_)
  unfold badArgument
  rw [orderCode_of_front h]
  simp [a1, badIf, cp_num_le n]

/-- The arguments of a LANE_CONTROL on a lane are good when its action is one of the three. -/
theorem badArgument_laneControl {action : Byte} (h : FrontOrder s i 9 [BitVec.ofNat 8 l.num, action])
    (ha : action.toNat ≤ 2) : badArgument s i = none := by
  have a1 : orderArg s i 1 = BitVec.ofNat 8 l.num := orderArg_of_front h 0 (by simp)
  have a2 : orderArg s i 2 = action := orderArg_of_front h 1 (by simp)
  unfold badArgument
  rw [orderCode_of_front h]
  simp [a1, a2, badIf, lane_num_le l, ha]

theorem orderRow_laneControl {action : Byte} (h : FrontOrder s i 9 [BitVec.ofNat 8 l.num, action]) :
    orderRow s i = if action = 1 then .laneForceOff else if action = 2 then .laneAuto else .laneReset := by
  have a2 : orderArg s i 2 = action := orderArg_of_front h 1 (by simp)
  unfold orderRow
  rw [orderCode_of_front h, a2]
  rfl

theorem takeRow_laneReset (h : FrontOrder s i 9 [BitVec.ofNat 8 l.num, 0]) :
    exec .laneControlReset s = .next (finish (laneReset i (takeOrder i s))) :=
  congrArg Host.Outcome.next
    (takeRow_of_front h ((orderRow_laneControl h).trans (by decide)) (badArgument_laneControl h (by decide)))

theorem takeRow_laneForceOff (h : FrontOrder s i 9 [BitVec.ofNat 8 l.num, 1]) :
    exec .laneControlForceOff s = .next (finish (laneForceOff i (takeOrder i s))) :=
  congrArg Host.Outcome.next
    (takeRow_of_front h ((orderRow_laneControl h).trans (by decide)) (badArgument_laneControl h (by decide)))

theorem takeRow_laneAuto (h : FrontOrder s i 9 [BitVec.ofNat 8 l.num, 2]) :
    exec .laneControlAuto s = .next (finish (laneAuto i (takeOrder i s))) :=
  congrArg Host.Outcome.next
    (takeRow_of_front h ((orderRow_laneControl h).trans (by decide)) (badArgument_laneControl h (by decide)))

theorem badArgument_setPower {p : Byte} (h : FrontOrder s i 10 [p]) (hp : p.toNat ≤ 2) : badArgument s i = none := by
  have a1 : orderArg s i 1 = p := orderArg_of_front h 0 (by simp)
  unfold badArgument
  rw [orderCode_of_front h]
  simp [a1, badIf, hp]

theorem orderRow_setPower {p : Byte} (h : FrontOrder s i 10 [p]) :
    orderRow s i = if p = 2 then .setPowerDormant else .setPower := by
  have a1 : orderArg s i 1 = p := orderArg_of_front h 0 (by simp)
  unfold orderRow
  rw [orderCode_of_front h, a1]
  rfl

theorem takeRow_setPower {p : Byte} (h : FrontOrder s i 10 [p]) (hp : p.toNat < 2) :
    exec .setPower s = .next (finish (setPower i (takeOrder i s))) := by
  refine congrArg Host.Outcome.next
    (takeRow_of_front h ((orderRow_setPower h).trans (if_neg ?_)) (badArgument_setPower h (by omega)))
  rintro rfl
  exact absurd hp (by decide)

theorem takeRow_setPowerDormant (h : FrontOrder s i 10 [2]) :
    exec .setPowerDormant s = .next (finish (setPowerDormant i (takeOrder i s))) :=
  congrArg Host.Outcome.next
    (takeRow_of_front h ((orderRow_setPower h).trans (if_pos rfl)) (badArgument_setPower h (by decide)))

/-- An order whose rule completes it as soon as it is taken has no other effect. -/
theorem completesThrough_orderOnly {c : Instr} {act : Fin 8 → State → State} {r : ResultCode} {d : List Byte}
    (he : exec c s = .next (finish (act i (takeOrder i s))))
    (ha : act i (takeOrder i s) = completeOrder i r d (takeOrder i s)) :
    CompletesThrough c s (OrderOnly s i r.code d) :=
  ⟨_, he, ha ▸ completeOrder_takeOrder i r d s⟩

/-- Something stands against DORMANT when a context is not IDLE, or CALL_CP0, CALL_CP1 or WAKE is at 1 (R183). -/
theorem dormantBusy_iff (s : State) :
    dormantBusy s = true ↔ (∃ n, (s.ctx n).state ≠ .idle) ∨ s.matrix.fns.getLsbD 0 = true
      ∨ s.matrix.fns.getLsbD 1 = true ∨ s.matrix.fns.getLsbD 5 = true := by
  have hn : (∃ n, (s.ctx n).state ≠ .idle) ↔ (s.ctx .p0).state ≠ .idle ∨ (s.ctx .p1).state ≠ .idle :=
    ⟨fun ⟨n, h⟩ => by cases n; exacts [.inl h, .inr h], fun h => h.elim (⟨_, ·⟩) (⟨_, ·⟩)⟩
  rw [hn]
  simp only [dormantBusy, Bool.or_eq_true, decide_eq_true_eq, or_assoc]

/-- A context takes a call request in IDLE and in CALLBACK_WATCH alone (R2, R5). -/
theorem takesCalls_iff (s : State) (n : Cp) :
    takesCalls s n = true ↔ (s.ctx n).state = .idle ∨ (s.ctx n).state = .callbackWatch := by
  unfold takesCalls CtxState.isActive
  cases (s.ctx n).state <;> decide

end

/-- PLACE_CALL as its arguments are read (R6, R171). -/
theorem placeCall_of_front {s : State} {i : Fin 8} {n : Cp} {kind number hold : Byte}
    (h : FrontOrder s i 2 [BitVec.ofNat 8 n.num, kind, number, hold]) :
    placeCall i (takeOrder i s) =
      (let t := takeOrder i s
       if takesCalls t n = false then orderBusy i t
       else if kind = 1 ∧ s.supply.level = .critical then completeOrder i .refusedSupply [] t
       else orderOk i (takeRequest n (if kind = 1 then .test else .emergency) .order
         (if kind = 1 then finOf 4 number.toNat else none) (decide (kind = 1 ∧ hold = 1)) (wake t))) := by
  have a2 : orderArg s i 2 = kind := orderArg_of_front h 1 (by simp)
  have a3 : orderArg s i 3 = number := orderArg_of_front h 2 (by simp)
  have a4 : orderArg s i 4 = hold := orderArg_of_front h 3 (by simp)
  have hl : (takeOrder i s).supply = s.supply := rfl
  unfold placeCall
  simp [argCp_of_front h, a2, a3, a4, hl]

/-- CANCEL_CALL as its argument is read (R171). -/
theorem cancelCall_of_front {s : State} {i : Fin 8} {n : Cp} (h : FrontOrder s i 3 [BitVec.ofNat 8 n.num]) :
    cancelCall i (takeOrder i s) =
      if (s.ctx n).state = .idle then orderBusy i (takeOrder i s) else orderOk i (cancel n true (takeOrder i s)) := by
  unfold cancelCall
  rw [argCp_takeOrder, argCp_of_front h]
  rfl

/-- CONTINUE as its argument is read (R17, R171). -/
theorem continueCall_of_front {s : State} {i : Fin 8} {n : Cp} (h : FrontOrder s i 4 [BitVec.ofNat 8 n.num]) :
    continueCall i (takeOrder i s) =
      if (s.ctx n).state = .held then orderOk i (setState n .selecting (takeOrder i s))
      else orderBusy i (takeOrder i s) := by
  unfold continueCall
  rw [argCp_takeOrder, argCp_of_front h]
  rfl

/-- LANE_CONTROL finds its unit busy while a context owns the lane (R99). -/
theorem laneReset_busy {s : State} {i : Fin 8} {l : Lane} {n : Cp} (h : FrontOrder s i 9 [BitVec.ofNat 8 l.num, 0])
    (ho : (s.lane l).owner = .ctx n) : laneReset i (takeOrder i s) = orderBusy i (takeOrder i s) := by
  unfold laneReset
  rw [argLane_takeOrder, argLane_of_front h]
  have e : ((takeOrder i s).lane l).owner = .ctx n := ho
  simp [e, Owner.isCtx]

theorem laneForceOff_busy {s : State} {i : Fin 8} {l : Lane} {n : Cp} (h : FrontOrder s i 9 [BitVec.ofNat 8 l.num, 1])
    (ho : (s.lane l).owner = .ctx n) : laneForceOff i (takeOrder i s) = orderBusy i (takeOrder i s) := by
  unfold laneForceOff
  rw [argLane_takeOrder, argLane_of_front h]
  have e : ((takeOrder i s).lane l).owner = .ctx n := ho
  simp [e, Owner.isCtx]

theorem laneForceOff_done {s : State} {i : Fin 8} {l : Lane} (h : FrontOrder s i 9 [BitVec.ofNat 8 l.num, 1])
    (ho : ∀ n, (s.lane l).owner ≠ .ctx n) (hf : (s.lane l).forcedOff = true) :
    laneForceOff i (takeOrder i s) = orderOk i (takeOrder i s) := by
  unfold laneForceOff
  rw [argLane_takeOrder, argLane_of_front h]
  have e : ((takeOrder i s).lane l).owner.isCtx = false := by
    show (s.lane l).owner.isCtx = false
    cases ho' : (s.lane l).owner with
    | none => rfl
    | survey => rfl
    | ctx n => exact absurd ho' (ho n)
  have f : ((takeOrder i s).lane l).forcedOff = true := hf
  simp [e, f]

theorem laneAuto_done {s : State} {i : Fin 8} {l : Lane} (h : FrontOrder s i 9 [BitVec.ofNat 8 l.num, 2])
    (hf : (s.lane l).forcedOff = false) : laneAuto i (takeOrder i s) = orderOk i (takeOrder i s) := by
  unfold laneAuto
  rw [argLane_takeOrder, argLane_of_front h]
  have f : ((takeOrder i s).lane l).forcedOff = false := hf
  simp [f]

theorem setPower_done {s : State} {i : Fin 8} {p : Byte} (h : FrontOrder s i 10 [p])
    (hp : s.supply.power = if p = 1 then .quiet else .active) :
    setPower i (takeOrder i s) = orderOk i (takeOrder i s) := by
  have a1 : orderArg s i 1 = p := orderArg_of_front h 0 (by simp)
  have e : (takeOrder i s).supply.power = if p = 1 then .quiet else .active := hp
  unfold setPower
  rw [orderArg_takeOrder, a1]
  simp [e]

end Sys2Proof.Machine

namespace Sys2Proof.Proofs
open Sys2Proof.Machine

/-- Settles O16, order by order: each finds its rule completing at once, and so has no other effect. -/
theorem ordersThatFindTheirUnitBusyOrDone : Obligations.OrdersThatFindTheirUnitBusyOrDone := by
  intro s i n l kind number hold
  refine ⟨fun h hk => ⟨fun h1 h2 => ?_, fun hst hkind hc => ?_⟩, fun h hst => ?_, fun h hst => ?_, fun h ho => ?_,
    fun h ho => ?_, fun h hb => ?_, fun h ho hf => ?_, fun h hf => ?_, fun h hp => ?_, fun h hp => ?_,
    fun h hp hi h0 h1 h5 => ?_⟩
  · refine completesThrough_orderOnly (r := .busy) (takeRow_placeCall h hk) ?_
    have ht : takesCalls (takeOrder i s) n = false :=
      Bool.eq_false_iff.mpr (fun e => ((takesCalls_iff _ n).mp e).elim h1 h2)
    rw [placeCall_of_front h]
    exact if_pos ht
  · refine completesThrough_orderOnly (r := .refusedSupply) (takeRow_placeCall h hk) ?_
    have ht : takesCalls (takeOrder i s) n = true := (takesCalls_iff _ n).mpr hst
    rw [placeCall_of_front h]
    simp [ht, hkind, hc]
  · refine completesThrough_orderOnly (r := .busy) (takeRow_cancelCall h) ?_
    rw [cancelCall_of_front h, if_pos hst, orderBusy]
  · refine completesThrough_orderOnly (r := .busy) (takeRow_continueCall h) ?_
    rw [continueCall_of_front h, if_neg hst, orderBusy]
  · exact completesThrough_orderOnly (r := .busy) (takeRow_laneReset h) (laneReset_busy h ho)
  · exact completesThrough_orderOnly (r := .busy) (takeRow_laneForceOff h) (laneForceOff_busy h ho)
  · refine completesThrough_orderOnly (r := .busy) (takeRow_setPowerDormant h) ?_
    have e : dormantBusy (takeOrder i s) = true := (dormantBusy_iff _).mpr (hb.imp (⟨n, ·⟩) id)
    rw [setPowerDormant, if_pos e, orderBusy]
  · exact completesThrough_orderOnly (r := .ok) (takeRow_laneForceOff h) (laneForceOff_done h ho hf)
  · exact completesThrough_orderOnly (r := .ok) (takeRow_laneAuto h) (laneAuto_done h hf)
  · exact completesThrough_orderOnly (r := .ok) (takeRow_setPower h (by decide)) (setPower_done h hp)
  · exact completesThrough_orderOnly (r := .ok) (takeRow_setPower h (by decide)) (setPower_done h hp)
  · refine completesThrough_orderOnly (r := .ok) (takeRow_setPowerDormant h) ?_
    have e : ¬dormantBusy (takeOrder i s) = true := fun e => by
      rcases (dormantBusy_iff _).mp e with ⟨m, hm⟩ | e | e | e
      · exact hm (hi m)
      · exact absurd (h0.symm.trans e) (by decide)
      · exact absurd (h1.symm.trans e) (by decide)
      · exact absurd (h5.symm.trans e) (by decide)
    have hd : (takeOrder i s).supply.power = .dormant := hp
    rw [setPowerDormant, if_neg e, if_pos hd, orderOk]

/-- Settles O3, by evaluation; the records are read out of a vector of blank ones. -/
theorem resetHoldsTheSpecValues : Obligations.ResetHoldsTheSpecValues := by
  have hrec : ∀ i, (State.reset.record i).state = .free := by
    intro i
    have e : State.reset.record i = CallRecord.blank := by
      simp [State.record, State.reset, Records.reset]
    rw [e]; rfl
  refine ⟨fun n => ?_, rfl, rfl, rfl, rfl, rfl, rfl, rfl, rfl, rfl, rfl, rfl, rfl, rfl, rfl, rfl, rfl, rfl,
    fun l => ?_, fun n => ?_, rfl, hrec, rfl⟩
  · have e : State.reset.ctx n = Context.reset := by cases n <;> rfl
    rw [e]
    simp [Context.reset]
  · cases l <;> exact ⟨rfl, rfl⟩
  · cases n <;> rfl

/-- Settles O20, by the change of state and then the completion of the order. -/
theorem continueReleasesAHeldCall : Obligations.ContinueReleasesAHeldCall := by
  intro s i n h hst
  refine ⟨_, takeRow_continueCall h, ?_⟩
  rw [continueCall_of_front h, if_pos hst, orderOk]
  have hw := setState_spec n .selecting (takeOrder i s)
  generalize setState n .selecting (takeOrder i s) = w at hw
  have hu := completeOrder_spec i .ok [] w
  generalize completeOrder i .ok [] w = u at hu
  have hc : u.ctxs = w.ctxs := by rw [hu.frame]
  have hl : u.lamps = w.lamps := by rw [hu.frame]
  have hs : ((takeOrder i s).ctx n).state = .held := hst
  refine ⟨?_, ?_, ?_, ?_, hu.completed (bits := 0) (by rw [hw.frame]) ?_ hw.grows, hu.sameButSlot ?_, ?_⟩
  · exact (congrArg (Duo.get · n) hc).trans hw.ctx
  · exact (congrArg (Duo.get · n.other) hc).trans hw.otherCtx
  · rw [hl, hw.lamps, hs]
    rfl
  · rw [hl, hw.otherLamps]
    rfl
  · rw [hw.frame, raised_zero]
    rfl
  · intro a _
    rw [hw.frame]
  · rw [hu.frame, hw.frame]
    rfl

end Sys2Proof.Proofs
end

section
namespace Sys2Proof.Machine

/-! ## Records -/

theorem record_set (v : Vector CallRecord 12) (i k : Fin 12) (r : CallRecord) :
    (v.set i r)[k] = if k = i then r else v[k] := by
  by_cases h : k = i
  · subst h; simp
  · have h' : i.val ≠ k.val := fun e => h (Fin.ext e.symm)
    simp [h, h']

@[simp] theorem putRecord_record_same (i : Fin 12) (r : CallRecord) (s : State) : (putRecord i r s).record i = r :=
  (record_set _ _ _ _).trans (if_pos rfl)

theorem putRecord_record_of_ne {i k : Fin 12} (h : k ≠ i) (r : CallRecord) (s : State) :
    (putRecord i r s).record k = s.record k := (record_set _ _ _ _).trans (if_neg h)

/-- The record of a context has been changed, and the other records have not. -/
structure RecordChanged (s u : State) (n : Cp) (f : CallRecord → CallRecord) : Prop where
  own : ∀ j, (s.ctx n).record = some j → u.record j = f (s.record j)
  others : ∀ k, (s.ctx n).record ≠ some k → u.record k = s.record k
  recs : u.recs = { s.recs with all := u.recs.all }
  frame : u = { s with recs := u.recs }

theorem modRecord_of_none {n : Cp} {s : State} (h : (s.ctx n).record = none) (f : CallRecord → CallRecord) :
    modRecord n f s = s := by
  unfold modRecord
  rw [h]

theorem modRecord_of_some {n : Cp} {s : State} {i : Fin 12} (h : (s.ctx n).record = some i)
    (f : CallRecord → CallRecord) : modRecord n f s = putRecord i (f (s.record i)) s := by
  unfold modRecord
  rw [h]

theorem modRecord_spec (n : Cp) (f : CallRecord → CallRecord) (s : State) :
    RecordChanged s (modRecord n f s) n f := by
  cases h : (s.ctx n).record with
  | none =>
    rw [modRecord_of_none h]
    exact ⟨fun j hj => (nomatch h.symm.trans hj), fun _ _ => rfl, rfl, rfl⟩
  | some i =>
    rw [modRecord_of_some h]
    refine ⟨fun j hj => ?_, fun k hk => putRecord_record_of_ne (fun e => hk (by rw [h, e])) _ _, rfl, rfl⟩
    obtain rfl := Option.some.inj (h.symm.trans hj)
    exact putRecord_record_same _ _ _

theorem modCtx_frame (n : Cp) (f : Context → Context) (s : State) :
    modCtx n f s = { s with ctxs := (modCtx n f s).ctxs } := rfl

/-- A history after the end of the attempt in progress, if there is one (R41, R142). -/
def endedHistory (now : Seconds) (attempt : Option Attempt) (o : CallOutcome) (h : List HistEntry) : List HistEntry :=
  match attempt with
  | none => h
  | some a => completeEntry (if a.connected then .connected else o) (min (elapsed now a.start) 65535) h

/-- The attempt in progress is over (R41, R142). -/
structure AttemptOver (s u : State) (n : Cp) (o : CallOutcome) : Prop where
  ctx : u.ctx n = { s.ctx n with attempt := none }
  otherCtx : u.ctx n.other = s.ctx n.other
  own : ∀ j, (s.ctx n).record = some j →
    u.record j = { s.record j with history := endedHistory s.now (s.ctx n).attempt o (s.record j).history }
  others : ∀ k, (s.ctx n).record ≠ some k → u.record k = s.record k
  recs : u.recs = { s.recs with all := u.recs.all }
  frame : u = { s with ctxs := u.ctxs, recs := u.recs }

theorem endAttempt_of_none {n : Cp} {s : State} (h : (s.ctx n).attempt = none) (o : CallOutcome) :
    endAttempt n o s = s := by
  unfold endAttempt
  rw [h]

theorem endAttempt_of_some {n : Cp} {s : State} {a : Attempt} (h : (s.ctx n).attempt = some a) (o : CallOutcome) :
    endAttempt n o s = modCtx n (fun c => { c with attempt := none }) (modRecord n (fun r => { r with
      history := endedHistory s.now (s.ctx n).attempt o r.history }) s) := by
  unfold endAttempt
  rw [h]
  rfl

theorem endAttempt_spec (n : Cp) (o : CallOutcome) (s : State) : AttemptOver s (endAttempt n o s) n o := by
  cases h : (s.ctx n).attempt with
  | none =>
    rw [endAttempt_of_none h]
    exact ⟨by rw [← h], rfl, fun _ _ => by rw [h]; rfl, fun _ _ => rfl, rfl, rfl⟩
  | some a =>
    rw [endAttempt_of_some h]
    have hr := modRecord_spec n (fun r => { r with history := endedHistory s.now (s.ctx n).attempt o r.history }) s
    generalize modRecord n _ s = t at hr
    have hc : t.ctxs = s.ctxs := by rw [hr.frame]
    have hcn : ∀ m, t.ctx m = s.ctx m := fun m => congrArg (Duo.get · m) hc
    refine ⟨by rw [modCtx_ctx, hcn], by rw [modCtx_ctx_other, hcn], hr.own, hr.others, hr.recs, ?_⟩
    rw [modCtx_frame, hr.frame]

/-- The ended history is what R41 and R142 say of the attempt's entry. -/
theorem attemptEnded_of {s u : State} {n : Cp} {o : CallOutcome} (ha : (u.ctx n).attempt = none)
    (hh : ∀ j, (s.ctx n).record = some j →
      (u.record j).history = endedHistory s.now (s.ctx n).attempt o (s.record j).history) : AttemptEnded s u n o := by
  refine ⟨ha, fun j hj h0 => ?_, fun j a hj h1 => ?_⟩
  · rw [hh j hj, h0]; rfl
  · rw [hh j hj, h1]
    show (completeEntry _ _ (s.record j).history).tail = _ ∧ (completeEntry _ _ (s.record j).history).head? = _
    cases (s.record j).history <;> exact ⟨rfl, rfl⟩

theorem recordAddr_eq (i : Fin 12) : recordAddr i = 0x1000 + 256 * i.val := rfl

/-- A record has been rewritten and RECORD raised: its own bytes alone may change, and its revision count goes on by two
(R137). -/
structure RecordShown (s u : State) (i : Fin 12) : Prop where
  revision : u.mem.num (0x1000 + 256 * i.val) 2 = (s.mem.num (0x1000 + 256 * i.val) 2 + 2) % 65536
  outside : SameOutside s u (0x1000 + 256 * i.val) 256
  port : u.port = raised s.port 0x02
  grows : s.matrix.Grows u.matrix
  frame : u = { s with mem := u.mem, port := u.port, matrix := u.matrix }

theorem showRecord_spec (i : Fin 12) (s : State) : RecordShown s (raise .record (rewriteRecord i s)) i := by
  generalize ht : rewriteRecord i s = t
  have hrev : t.mem.num (0x1000 + 256 * i.val) 2 = (s.mem.num (0x1000 + 256 * i.val) 2 + 2) % 65536 := by
    rw [← ht]
    exact Memory.num_rewrite _ _ _ _ (by decide)
  have hout : SameOutside s t (0x1000 + 256 * i.val) 256 := fun a ha => by
    rw [← ht]
    exact Memory.read_rewrite_outside _ _ _ _ _ (by rw [recordAddr_eq, recordSize]; omega)
  have hf : t = { s with mem := t.mem } := by rw [← ht]; rfl
  have hx : t.matrix = s.matrix := by rw [hf]
  have hu := raise_spec .record t
  generalize raise .record t = u at hu
  have hm : u.mem = t.mem := by rw [hu.frame]
  exact {
    revision := by rw [hm, hrev]
    outside := fun a ha => by rw [hm, hout a ha]
    port := by rw [hu.port, hf]; rfl
    grows := hx ▸ hu.grows
    frame := by rw [hu.frame, hf] }

/-- A record takes its new content, the close order and the next sequence number change with it, and a context holds it or
no longer does. -/
def filed (n : Cp) (slot : Option (Fin 12)) (i : Fin 12) (r : CallRecord) (seq : BitVec 16) (order : List (Fin 12))
    (s : State) : State :=
  modCtx n (fun c => { c with record := slot }) (s.withRecs ⟨s.recs.all.set i r, seq, order⟩)

/-- What filing a record changes. -/
structure RecordFiled (s u : State) (n : Cp) (slot : Option (Fin 12)) (i : Fin 12) (r : CallRecord) (seq : BitVec 16)
    (order : List (Fin 12)) : Prop where
  ctx : u.ctx n = { s.ctx n with record := slot }
  otherCtx : u.ctx n.other = s.ctx n.other
  own : u.record i = r
  others : ∀ k, k ≠ i → u.record k = s.record k
  seq : u.recs.nextSeq = seq
  closeOrder : u.recs.closeOrder = order
  frame : u = { s with ctxs := u.ctxs, recs := u.recs }

theorem filed_spec (n : Cp) (slot : Option (Fin 12)) (i : Fin 12) (r : CallRecord) (seq : BitVec 16)
    (order : List (Fin 12)) (s : State) : RecordFiled s (filed n slot i r seq order s) n slot i r seq order where
  ctx := modCtx_ctx _ _ _
  otherCtx := modCtx_ctx_other _ _ _
  own := (record_set _ _ _ _).trans (if_pos rfl)
  others := fun _ hk => (record_set _ _ _ _).trans (if_neg hk)
  seq := rfl
  closeOrder := rfl
  frame := rfl

/-- A context's record, if it has one, has closed (R144, R146). -/
structure RecordClosed (s u : State) (n : Cp) (final : Option CallOutcome) : Prop where
  ctx : u.ctx n = { s.ctx n with attempt := none, record := none }
  otherCtx : u.ctx n.other = s.ctx n.other
  own : ∀ j, (s.ctx n).record = some j →
    u.record j = closedRecord final s.time.clock (s.ctx n) { s.record j with
        history := endedHistory s.now (s.ctx n).attempt (final.getD .partReset) (s.record j).history }
  closeOrder : ∀ j, (s.ctx n).record = some j → u.recs.closeOrder = s.recs.closeOrder ++ [j]
  others : ∀ k, (s.ctx n).record ≠ some k → u.record k = s.record k
  seq : u.recs.nextSeq = s.recs.nextSeq
  port : ∀ j, (s.ctx n).record = some j → u.port = raised s.port 0x02
  revision : ∀ j : Fin 12, (s.ctx n).record = some j →
    u.mem.num (0x1000 + 256 * j.val) 2 = (s.mem.num (0x1000 + 256 * j.val) 2 + 2) % 65536
  outside : ∀ a, ¬RecordByte s n a → u.mem.read a = s.mem.read a
  grows : s.matrix.Grows u.matrix
  frame : u = { s with ctxs := u.ctxs, recs := u.recs, mem := u.mem, port := u.port, matrix := u.matrix }

theorem closeRecord_of_none {n : Cp} {s : State} (h : (s.ctx n).record = none) (final : Option CallOutcome) :
    closeRecord n final s = endAttempt n (final.getD .partReset) s := by
  unfold closeRecord
  have hn : ((endAttempt n (final.getD .partReset) s).ctx n).record = none := by rw [(endAttempt_spec _ _ _).ctx, ← h]
  dsimp only
  rw [hn]

/-- The record of a context closed, before it is rewritten (R144, R146). -/
def closing (n : Cp) (i : Fin 12) (final : Option CallOutcome) (t : State) : State :=
  filed n none i (closedRecord final t.time.clock (t.ctx n) (t.record i)) t.recs.nextSeq (t.recs.closeOrder ++ [i]) t

theorem closeRecord_of_some {n : Cp} {s : State} {i : Fin 12} (h : (s.ctx n).record = some i)
    (final : Option CallOutcome) :
    closeRecord n final s = raise .record (rewriteRecord i (closing n i final (endAttempt n (final.getD .partReset) s))) := by
  unfold closeRecord
  have hn : ((endAttempt n (final.getD .partReset) s).ctx n).record = some i := by rw [(endAttempt_spec _ _ _).ctx, ← h]
  dsimp only
  rw [hn]
  rfl

theorem closeRecord_spec (n : Cp) (final : Option CallOutcome) (s : State) :
    RecordClosed s (closeRecord n final s) n final := by
  have ht := endAttempt_spec n (final.getD .partReset) s
  cases h : (s.ctx n).record with
  | none =>
    rw [closeRecord_of_none h]
    generalize endAttempt n (final.getD .partReset) s = t at ht
    have hm : t.mem = s.mem := by rw [ht.frame]
    have hp : t.port = s.port := by rw [ht.frame]
    have hx : t.matrix = s.matrix := by rw [ht.frame]
    exact {
      ctx := by rw [ht.ctx, ← h]
      otherCtx := ht.otherCtx
      own := fun j hj => (nomatch h.symm.trans hj)
      closeOrder := fun j hj => (nomatch h.symm.trans hj)
      others := ht.others
      seq := by rw [ht.recs]
      port := fun j hj => (nomatch h.symm.trans hj)
      revision := fun j hj => (nomatch h.symm.trans hj)
      outside := fun a _ => by rw [hm]
      grows := by rw [hx]; exact .refl _
      frame := by rw [hm, hp, hx]; exact ht.frame }
  | some i =>
    rw [closeRecord_of_some h]
    generalize endAttempt n (final.getD .partReset) s = t at ht
    rw [closing]
    have hc := filed_spec n none i (closedRecord final t.time.clock (t.ctx n) (t.record i)) t.recs.nextSeq
      (t.recs.closeOrder ++ [i]) t
    generalize filed n none i _ _ _ t = c at hc
    have hu := showRecord_spec i c
    generalize raise .record (rewriteRecord i c) = u at hu
    have hcf : c = { s with ctxs := c.ctxs, recs := c.recs } := by rw [hc.frame, ht.frame]
    have hctx : ∀ m, u.ctx m = c.ctx m := fun m => by rw [hu.frame]; rfl
    have hrecs : u.recs = c.recs := by rw [hu.frame]
    have hrec : ∀ k, u.record k = c.record k := fun k => by unfold State.record; rw [hrecs]
    have htime : t.time = s.time := by rw [ht.frame]
    have hmem : c.mem = s.mem := by rw [hcf]
    have hport : c.port = s.port := by rw [hcf]
    have hmatrix : c.matrix = s.matrix := by rw [hcf]
    have hown : ∀ j, (s.ctx n).record = some j → j = i := fun j hj => Option.some.inj (hj.symm.trans h)
    exact {
      ctx := by rw [hctx, hc.ctx, ht.ctx]
      otherCtx := by rw [hctx, hc.otherCtx, ht.otherCtx]
      own := fun j hj => by
        obtain rfl := hown j hj
        rw [hrec, hc.own, htime, ht.own j h, ht.ctx]
        rfl
      closeOrder := fun j hj => by
        obtain rfl := hown j hj
        rw [hrecs, hc.closeOrder, ht.recs]
      others := fun k hk => by
        rw [hrec, hc.others k (fun e => hk (by rw [h, e])), ht.others k hk]
      seq := by rw [hrecs, hc.seq, ht.recs]
      port := fun j _ => by rw [hu.port, hport]
      revision := fun j hj => by
        obtain rfl := hown j hj
        rw [hu.revision, hmem]
      outside := fun a ha => by rw [hu.outside a fun e => ha ⟨i, h, e⟩, hmem]
      grows := hmatrix ▸ hu.grows
      frame := by rw [hu.frame, hcf] }

end Sys2Proof.Machine
end

section
namespace Sys2Proof.Machine

/-! ## The start of a call -/

/-- The record chosen for a call is taken out of the close order and counted, when it is a CLOSED one (R138). -/
def makeRoom (j : Fin 12) (s : State) : State :=
  if (s.record j).state = .closed then
    countOverwritten (s.withRecs { s.recs with closeOrder := s.recs.closeOrder.filter (fun k => decide (k ≠ j)) })
  else s

/-- What making room changes: the close order and the count, if the record was CLOSED (R138). -/
structure RoomMade (s t : State) (j : Fin 12) : Prop where
  all : t.recs.all = s.recs.all
  seq : t.recs.nextSeq = s.recs.nextSeq
  closeOrder : t.recs.closeOrder = if (s.record j).state = .closed then
    s.recs.closeOrder.filter (fun k => decide (k ≠ j)) else s.recs.closeOrder
  counters : t.counters = if (s.record j).state = .closed then
    { s.counters with overwritten := satInc counterMax s.counters.overwritten } else s.counters
  frame : t = { s with recs := t.recs, counters := t.counters }

theorem makeRoom_spec (j : Fin 12) (s : State) : RoomMade s (makeRoom j s) j := by
  unfold makeRoom
  by_cases h : (s.record j).state = .closed
  · rw [if_pos h]
    exact ⟨rfl, rfl, (if_pos h).symm, (if_pos h).symm, rfl⟩
  · rw [if_neg h]
    exact ⟨rfl, rfl, (if_neg h).symm, (if_neg h).symm, rfl⟩

/-- A record opened for a context, before it is rewritten (R136). -/
def opening (n : Cp) (j : Fin 12) (kind : CallKind) (source : CallSource) (t : State) : State :=
  filed n (some j) j (openedRecord t n kind source) (t.recs.nextSeq + 1) t.recs.closeOrder t

theorem openRecord_of_choice {s : State} {j : Fin 12} (h : chooseRecord s = some j) (n : Cp) (kind : CallKind)
    (source : CallSource) :
    openRecord n kind source s = raise .record (rewriteRecord j (opening n j kind source (makeRoom j s))) := by
  unfold openRecord
  rw [h]
  rfl

/-- A record has been opened for a call request (R136, R138). -/
structure RecordOpened (s u : State) (n : Cp) (kind : CallKind) (source : CallSource) (j : Fin 12) : Prop where
  ctx : u.ctx n = { s.ctx n with record := some j }
  otherCtx : u.ctx n.other = s.ctx n.other
  record : u.record j = openedRecord s n kind source
  others : ∀ k, k ≠ j → u.record k = s.record k
  seq : u.recs.nextSeq = s.recs.nextSeq + 1
  closeOrder : u.recs.closeOrder = if (s.record j).state = .closed then
    s.recs.closeOrder.filter (fun k => decide (k ≠ j)) else s.recs.closeOrder
  counters : u.counters = if (s.record j).state = .closed then
    { s.counters with overwritten := satInc counterMax s.counters.overwritten } else s.counters
  revision : u.mem.num (0x1000 + 256 * j.val) 2 = (s.mem.num (0x1000 + 256 * j.val) 2 + 2) % 65536
  outside : SameOutside s u (0x1000 + 256 * j.val) 256
  port : u.port = raised s.port 0x02
  grows : s.matrix.Grows u.matrix
  frame : u = { s with
    ctxs := u.ctxs, recs := u.recs, counters := u.counters, mem := u.mem, port := u.port, matrix := u.matrix }

theorem openRecord_spec {s : State} {j : Fin 12} (h : chooseRecord s = some j) (n : Cp) (kind : CallKind)
    (source : CallSource) : RecordOpened s (openRecord n kind source s) n kind source j := by
  rw [openRecord_of_choice h]
  have ht := makeRoom_spec j s
  generalize makeRoom j s = t at ht
  have hc : ∀ m, t.ctx m = s.ctx m := fun m => by rw [ht.frame]; rfl
  have hr : ∀ k : Fin 12, t.record k = s.record k := fun k => congrArg (fun (v : Vector CallRecord 12) => v[k]) ht.all
  have hmem : t.mem = s.mem := by rw [ht.frame]
  have ho : openedRecord t n kind source = openedRecord s n kind source := by
    unfold openedRecord
    rw [hc, ht.seq, ht.frame]
  rw [opening]
  have hv := filed_spec n (some j) j (openedRecord t n kind source) (t.recs.nextSeq + 1) t.recs.closeOrder t
  generalize filed n (some j) j _ _ _ t = v at hv
  have hu := showRecord_spec j v
  generalize raise .record (rewriteRecord j v) = u at hu
  have hvf : v = { s with ctxs := v.ctxs, recs := v.recs, counters := t.counters } := by rw [hv.frame, ht.frame]
  have hctx : ∀ m, u.ctx m = v.ctx m := fun m => by rw [hu.frame]; rfl
  have hrecs : u.recs = v.recs := by rw [hu.frame]
  have hrec : ∀ k, u.record k = v.record k := fun k => by unfold State.record; rw [hrecs]
  have hmem : v.mem = s.mem := by rw [hvf]
  have hport : v.port = s.port := by rw [hvf]
  have hmatrix : v.matrix = s.matrix := by rw [hvf]
  exact {
    ctx := by rw [hctx, hv.ctx, hc]
    otherCtx := by rw [hctx, hv.otherCtx, hc]
    record := by rw [hrec, hv.own, ho]
    others := fun k hk => by rw [hrec, hv.others k hk, hr]
    seq := by rw [hrecs, hv.seq, ht.seq]
    closeOrder := by rw [hrecs, hv.closeOrder, ht.closeOrder]
    counters := by rw [← ht.counters, hu.frame, hvf]
    revision := by rw [hu.revision, hmem]
    outside := fun a ha => by rw [hu.outside a ha, hmem]
    port := by rw [hu.port, hport]
    grows := hmatrix ▸ hu.grows
    frame := by rw [hu.frame, hvf] }

/-- A context at the start of a call in a record (R5). -/
def Context.started (kind : CallKind) (source : CallSource) (number : Option (Fin 4)) (hold : Bool) (j : Fin 12)
    (c : Context) : Context :=
  { c with
    state := .selecting, kind := kind, source := source, record := some j, numberOverride := number, step := 0,
    tries := 0, tried := [], current := none, pendingOutcome := none, emergencyStart := false, stepHold := hold,
    connectedOnce := false, choice := none, retry := false, keepFirst := c.lane.isSome, attempt := none,
    atEnd := false, endPause := false }

/-- A call has been started in a record (R5, R138): the context is on step 0 in SELECTING, the record open. -/
structure CallOpened (s u : State) (n : Cp) (kind : CallKind) (source : CallSource) (number : Option (Fin 4))
    (hold : Bool) (j : Fin 12) : Prop where
  ctx : u.ctx n = (s.ctx n).started kind source number hold j
  otherCtx : u.ctx n.other = s.ctx n.other
  record : u.record j = openedRecord s n kind source
  others : ∀ k, k ≠ j → u.record k = s.record k
  seq : u.recs.nextSeq = s.recs.nextSeq + 1
  closeOrder : u.recs.closeOrder = if (s.record j).state = .closed then
    s.recs.closeOrder.filter (fun k => decide (k ≠ j)) else s.recs.closeOrder
  counters : u.counters = if (s.record j).state = .closed then
    { s.counters with overwritten := satInc counterMax s.counters.overwritten } else s.counters
  revision : u.mem.num (0x1000 + 256 * j.val) 2 = (s.mem.num (0x1000 + 256 * j.val) 2 + 2) % 65536
  outside : SameOutside s u (0x1000 + 256 * j.val) 256
  lamps : u.lamps.get n = lampsFor s.time.ms (s.ctx n).state .selecting (s.lamps.get n)
  otherLamps : u.lamps.get n.other = s.lamps.get n.other
  port : u.port = raised s.port 0x02
  grows : s.matrix.Grows u.matrix
  frame : u = { s with
    ctxs := u.ctxs, recs := u.recs, lamps := u.lamps, counters := u.counters, mem := u.mem, port := u.port,
    matrix := u.matrix }

theorem startCall_spec {s : State} {j : Fin 12} (h : chooseRecord s = some j) (n : Cp) (kind : CallKind)
    (source : CallSource) (number : Option (Fin 4)) (hold : Bool) :
    CallOpened s (startCall n kind source number hold s) n kind source number hold j := by
  unfold startCall
  have ho := openRecord_spec h n kind source
  generalize openRecord n kind source s = t at ho
  dsimp only
  generalize hv : modCtx n _ t = v
  have hvc : v.ctx n = { (s.ctx n).started kind source number hold j with state := (s.ctx n).state } := by
    rw [← hv, modCtx_ctx, ho.ctx]
    rfl
  have hvo : v.ctx n.other = t.ctx n.other := by rw [← hv, modCtx_ctx_other]
  have hvf : v = { t with ctxs := v.ctxs } := by rw [← hv]; rfl
  have hu := setState_spec n .selecting v
  generalize setState n .selecting v = u at hu
  have hur : u.recs = t.recs := by rw [hu.frame, hvf]
  have hum : u.mem = t.mem := by rw [hu.frame, hvf]
  exact {
    ctx := by rw [hu.ctx, hvc]; rfl
    otherCtx := by rw [hu.otherCtx, hvo, ho.otherCtx]
    record := by unfold State.record; rw [hur]; exact ho.record
    others := fun k hk => by unfold State.record; rw [hur]; exact ho.others k hk
    seq := by rw [hur, ho.seq]
    closeOrder := by rw [hur, ho.closeOrder]
    counters := by rw [← ho.counters, hu.frame, hvf]
    revision := by rw [hum, ho.revision]
    outside := fun a ha => by rw [hum, ho.outside a ha]
    lamps := by rw [hu.lamps, hvc, hvf, ho.frame]
    otherLamps := by rw [hu.otherLamps, hvf, ho.frame]
    port := by rw [← ho.port, hu.frame, hvf]
    grows := by
      have hx : v.matrix = t.matrix := by rw [hvf]
      exact ho.grows.trans (hx ▸ hu.grows)
    frame := by rw [hu.frame, hvf, ho.frame] }

end Sys2Proof.Machine
end

section
namespace Sys2Proof.Machine

/-! ## Claims -/

@[simp] theorem modLane_lane_same (l : Lane) (f : LaneRec → LaneRec) (s : State) :
    (modLane l f s).lane l = f (s.lane l) := Quad.get_set_same _ _ _
theorem modLane_lane_of_ne {l m : Lane} (h : m ≠ l) (f : LaneRec → LaneRec) (s : State) :
    (modLane l f s).lane m = s.lane m := Quad.get_set_of_ne _ h _

/-- Probes and ring refusals of a lane have been started or stopped, and nothing else has changed (R95, R104). -/
structure UpkeepChanged (s u : State) (l : Lane) : Prop where
  owner : (u.lane l).owner = (s.lane l).owner
  outTag : (u.lane l).outTag = (s.lane l).outTag
  others : ∀ m, m ≠ l → u.lane m = s.lane m
  requests : u.link.ctxReq = s.link.ctxReq
  frame : u = { s with lanes := u.lanes, link := u.link }

theorem UpkeepChanged.refl (s : State) (l : Lane) : UpkeepChanged s s l := ⟨rfl, rfl, fun _ _ => rfl, rfl, rfl⟩

theorem UpkeepChanged.trans {s t u : State} {l : Lane} (h : UpkeepChanged s t l) (k : UpkeepChanged t u l) :
    UpkeepChanged s u l :=
  ⟨k.owner.trans h.owner, k.outTag.trans h.outTag, fun m hm => (k.others m hm).trans (h.others m hm),
    k.requests.trans h.requests, by rw [k.frame, h.frame]⟩

theorem probeTimer_upkeep (s : State) (l : Lane) (v : Option Seconds) :
    UpkeepChanged s (modLane l (fun r => { r with probeTimer := v }) s) l :=
  ⟨by rw [modLane_lane_same], by rw [modLane_lane_same], fun _ hm => modLane_lane_of_ne hm _ _, rfl, rfl⟩

theorem startProbe_upkeep (l : Lane) (s : State) : UpkeepChanged s (startProbe l s) l := by
  unfold startProbe
  split
  · exact probeTimer_upkeep s l _
  · exact .refl s l

theorem considerRing_upkeep (l : Lane) (s : State) : UpkeepChanged s (considerRing l s) l := by
  unfold considerRing addMaint
  split
  · split
    · exact .refl s l
    · exact ⟨rfl, rfl, fun _ _ => rfl, rfl, rfl⟩
  · exact .refl s l

theorem dropMaint_upkeep (l : Lane) (k : MaintKind) (s : State) : UpkeepChanged s (dropMaint l k s) l :=
  ⟨rfl, rfl, fun _ _ => rfl, rfl, rfl⟩

theorem stopProbe_upkeep (l : Lane) (s : State) : UpkeepChanged s (stopProbe l s) l :=
  (probeTimer_upkeep s l none).trans ((dropMaint_upkeep l .probe _).trans (dropMaint_upkeep l .refuseRing _))

/-- A lane's owner has changed (R89). -/
structure OwnerSet (s u : State) (l : Lane) (o : Owner) : Prop where
  owner : (u.lane l).owner = o
  outTag : (u.lane l).outTag = (s.lane l).outTag
  others : ∀ m, m ≠ l → u.lane m = s.lane m
  requests : u.link.ctxReq = s.link.ctxReq
  rescans : u.survey.ctxReq = s.survey.ctxReq
  frame : u = { s with lanes := u.lanes, survey := u.survey, link := u.link, needDue := u.needDue }

/-- A lane with its new owner, before its upkeep follows. -/
def owning (l : Lane) (o : Owner) (s : State) : State :=
  markNeed (markLane l (modLane l (fun r =>
    { r with owner := o, ringToRefuse := if o.isCtx then false else r.ringToRefuse }) s))

theorem setOwner_upkeep (l : Lane) (o : Owner) (s : State) : UpkeepChanged (owning l o s) (setOwner l o s) l := by
  have e : setOwner l o s =
    if o = .none then considerRing l (startProbe l (owning l o s)) else stopProbe l (owning l o s) := rfl
  rw [e]
  split
  · exact (startProbe_upkeep l _).trans (considerRing_upkeep l _)
  · exact stopProbe_upkeep l _

theorem setOwner_spec (l : Lane) (o : Owner) (s : State) : OwnerSet s (setOwner l o s) l o := by
  have hu := setOwner_upkeep l o s
  generalize setOwner l o s = u at hu
  have hl : ∀ m, (owning l o s).lane m = (modLane l (fun r =>
    { r with owner := o, ringToRefuse := if o.isCtx then false else r.ringToRefuse }) s).lane m := fun _ => rfl
  have hk : (owning l o s).link = s.link := rfl
  have hs : (owning l o s).survey.ctxReq = s.survey.ctxReq := rfl
  have hf : owning l o s = { s with
    lanes := (owning l o s).lanes, survey := (owning l o s).survey, needDue := (owning l o s).needDue } := rfl
  generalize owning l o s = t at hu hl hk hs hf
  exact {
    owner := by rw [hu.owner, hl, modLane_lane_same]
    outTag := by rw [hu.outTag, hl, modLane_lane_same]
    others := fun m h => by rw [hu.others m h, hl, modLane_lane_of_ne h]
    requests := by rw [hu.requests, hk]
    rescans := by rw [← hs, hu.frame]
    frame := by rw [hu.frame, hf] }

/-- A context has released its claim, if it held one (R3, R19, R89). -/
structure ClaimReleased (s u : State) (n : Cp) : Prop where
  ctx : u.ctx n = { s.ctx n with lane := none, op := none }
  freed : ∀ l, (s.ctx n).lane = some l → (s.ctx n.other).pendingClaim ≠ some l →
    (u.lane l).owner = .none ∧ (u.lane l).outTag = none ∧ u.ctx n.other = s.ctx n.other
  passed : ∀ l, (s.ctx n).lane = some l → (s.ctx n.other).pendingClaim = some l →
    (u.lane l).owner = .ctx n.other ∧ (u.lane l).outTag = none
      ∧ u.ctx n.other = { s.ctx n.other with pendingClaim := none, lane := some l }
  unclaimed : (s.ctx n).lane = none → u.lanes = s.lanes ∧ u.ctx n.other = s.ctx n.other
  lanes : ∀ m, (s.ctx n).lane ≠ some m → u.lane m = s.lane m
  requests : u.link.ctxReq.get n = none ∨ u.link.ctxReq.get n = s.link.ctxReq.get n
  rescans : u.survey.ctxReq = s.survey.ctxReq
  frame : u = { s with
    ctxs := u.ctxs, lanes := u.lanes, survey := u.survey, link := u.link, needDue := u.needDue }

theorem releaseClaim_of_none {n : Cp} {s : State} (h : (s.ctx n).lane = none) :
    releaseClaim n s = modCtx n (fun c => { c with op := none }) s := by
  unfold releaseClaim
  rw [h]

/-- A context without its claim on a lane, before the lane's owner changes. -/
def unclaiming (n : Cp) (l : Lane) (s : State) : State :=
  modCtx n (fun c => { c with lane := none, op := none }) (staleTag l (dropRequest n s))

theorem releaseClaim_of_some {n : Cp} {s : State} {l : Lane} (h : (s.ctx n).lane = some l) :
    releaseClaim n s =
      if (s.ctx n.other).pendingClaim = some l then
        setOwner l (.ctx n.other)
          (modCtx n.other (fun c => { c with pendingClaim := none, lane := some l }) (unclaiming n l s))
      else setOwner l .none (unclaiming n l s) := by
  have ho : (unclaiming n l s).ctx n.other = s.ctx n.other := modCtx_ctx_other _ _ _
  unfold releaseClaim
  rw [h]
  show (if ((unclaiming n l s).ctx n.other).pendingClaim = some l then _ else _) = _
  rw [ho]
  rfl

@[simp] theorem modCtx_other_ctx (n : Cp) (f : Context → Context) (s : State) :
    (modCtx n.other f s).ctx n = s.ctx n := Duo.get_other_set _ _ _

theorem releaseClaim_spec (n : Cp) (s : State) : ClaimReleased s (releaseClaim n s) n := by
  cases h : (s.ctx n).lane with
  | none =>
    rw [releaseClaim_of_none h]
    exact {
      ctx := by rw [modCtx_ctx, ← h]
      freed := fun l hl => (nomatch h.symm.trans hl)
      passed := fun l hl => (nomatch h.symm.trans hl)
      unclaimed := fun _ => ⟨rfl, modCtx_ctx_other _ _ _⟩
      lanes := fun _ _ => rfl
      requests := .inr rfl
      rescans := rfl
      frame := rfl }
  | some l =>
    rw [releaseClaim_of_some h]
    have hl : ∀ k, (s.ctx n).lane = some k → k = l := fun k hk => Option.some.inj (hk.symm.trans h)
    generalize ht : unclaiming n l s = t
    have hc : t.ctx n = { s.ctx n with lane := none, op := none } := by subst ht; exact modCtx_ctx _ _ _
    have ho : t.ctx n.other = s.ctx n.other := by subst ht; exact modCtx_ctx_other _ _ _
    have htag : (t.lane l).outTag = none := by
      subst ht
      exact congrArg LaneRec.outTag (modLane_lane_same l (fun r => { r with outTag := none }) (dropRequest n s))
    have hlanes : ∀ m, m ≠ l → t.lane m = s.lane m := by
      subst ht
      exact fun m hm => modLane_lane_of_ne hm (fun r => { r with outTag := none }) (dropRequest n s)
    have hreq : t.link.ctxReq.get n = none := by subst ht; exact Duo.get_set_same _ _ _
    have hs : t.survey = s.survey := by subst ht; rfl
    have hf : t = { s with ctxs := t.ctxs, lanes := t.lanes, link := t.link } := by subst ht; rfl
    by_cases hp : (s.ctx n.other).pendingClaim = some l
    · rw [if_pos hp]
      generalize hv : modCtx n.other (fun c => { c with pendingClaim := none, lane := some l }) t = v
      have hvc : v.ctx n = t.ctx n := by subst hv; exact modCtx_other_ctx _ _ _
      have hvo : v.ctx n.other = { t.ctx n.other with pendingClaim := none, lane := some l } := by
        subst hv; exact modCtx_ctx _ _ _
      have hvf : v = { t with ctxs := v.ctxs } := by subst hv; rfl
      have hu := setOwner_spec l (.ctx n.other) v
      generalize setOwner l (.ctx n.other) v = u at hu
      have huc : ∀ m, u.ctx m = v.ctx m := fun m => by rw [hu.frame]; rfl
      have hvl : ∀ m, v.lane m = t.lane m := fun m => by rw [hvf]; rfl
      exact {
        ctx := by rw [huc, hvc, hc]
        freed := fun k hk hn => by obtain rfl := hl k hk; exact absurd hp hn
        passed := fun k hk _ => by
          obtain rfl := hl k hk
          exact ⟨hu.owner, by rw [hu.outTag, hvl, htag], by rw [huc, hvo, ho]⟩
        unclaimed := fun hn => (nomatch h.symm.trans hn)
        lanes := fun m hm => by
          have hne : m ≠ l := fun e => hm (by rw [h, e])
          rw [hu.others m hne, hvl, hlanes m hne]
        requests := .inl (by rw [hu.requests, hvf, hreq])
        rescans := by rw [hu.rescans, hvf, hs]
        frame := by rw [hu.frame, hvf, hf] }
    · rw [if_neg hp]
      have hu := setOwner_spec l .none t
      generalize setOwner l .none t = u at hu
      have huc : ∀ m, u.ctx m = t.ctx m := fun m => by rw [hu.frame]; rfl
      exact {
        ctx := by rw [huc, hc]
        freed := fun k hk _ => by
          obtain rfl := hl k hk
          exact ⟨hu.owner, by rw [hu.outTag, htag], by rw [huc, ho]⟩
        passed := fun k hk hn => by obtain rfl := hl k hk; exact absurd hn hp
        unclaimed := fun hn => (nomatch h.symm.trans hn)
        lanes := fun m hm => by
          have hne : m ≠ l := fun e => hm (by rw [h, e])
          rw [hu.others m hne, hlanes m hne]
        requests := .inl (by rw [hu.requests, hreq])
        rescans := by rw [hu.rescans, hs]
        frame := by rw [hu.frame, hf] }

end Sys2Proof.Machine
end

section
namespace Sys2Proof.Machine

/-! ## The end of a call -/

/-- A call has ended and its context is in IDLE (R11, R24, R144). -/
structure WentIdle (s u : State) (n : Cp) (final : Option CallOutcome) : Prop where
  ended : CallEnded s u n final (s.ctx n).pendingClaim
  requests : u.link.ctxReq.get n = none ∨ u.link.ctxReq.get n = s.link.ctxReq.get n
  rescans : u.survey.ctxReq = s.survey.ctxReq
  port : ∀ j, (s.ctx n).record = some j → u.port = raised s.port 0x02
  outside : ∀ a, ¬RecordByte s n a → u.mem.read a = s.mem.read a
  grows : s.matrix.Grows u.matrix
  frame : u = { s with
    ctxs := u.ctxs, recs := u.recs, lanes := u.lanes, survey := u.survey, link := u.link, lamps := u.lamps,
    needDue := u.needDue, mem := u.mem, port := u.port, matrix := u.matrix }

theorem toIdle_spec (n : Cp) (final : Option CallOutcome) (s : State) : WentIdle s (toIdle n final s) n final := by
  unfold toIdle
  have hac : (stopTimers n s).ctx n = { s.ctx n with stepTimer := none, locTimer := none, cbTimer := none } :=
    modCtx_ctx _ _ _
  have hao : (stopTimers n s).ctx n.other = s.ctx n.other := modCtx_ctx_other _ _ _
  have haf : stopTimers n s = { s with ctxs := (stopTimers n s).ctxs } := rfl
  generalize stopTimers n s = a at hac hao haf
  have hb := releaseClaim_spec n a
  generalize releaseClaim n a = b at hb
  have hc := closeRecord_spec n final b
  generalize closeRecord n final b = c at hc
  have hu := setState_spec n .idle c
  generalize setState n .idle c = u at hu
  have hbc : b.ctx n = { s.ctx n with
      lane := none, op := none, stepTimer := none, locTimer := none, cbTimer := none } := by rw [hb.ctx, hac]
  have hbrec : (b.ctx n).record = (s.ctx n).record := by rw [hbc]
  have hbs : ∀ k, b.record k = s.record k := fun k => by rw [hb.frame, haf]; rfl
  have hur : u.recs = c.recs := by rw [hu.frame]
  have hurec : ∀ k, u.record k = c.record k := fun k => by unfold State.record; rw [hur]
  have hbt : b.time = s.time := by rw [hb.frame, haf]
  have hbm : b.mem = s.mem := by rw [hb.frame, haf]
  have hblr : b.recs = s.recs := by rw [hb.frame, haf]
  have hul : u.lanes = b.lanes := by rw [hu.frame, hc.frame]
  have hulane : ∀ m, u.lane m = b.lane m := fun m => congrArg (Quad.get · m) hul
  have halane : a.lanes = s.lanes := by rw [haf]
  have huo : u.ctx n.other = b.ctx n.other := by rw [hu.otherCtx, hc.otherCtx]
  have hal : (a.ctx n).lane = (s.ctx n).lane := by rw [hac]
  have hown : ∀ j, (s.ctx n).record = some j → u.record j = closedRecord final s.time.clock (b.ctx n) { s.record j with
      history := endedHistory s.now (s.ctx n).attempt (final.getD .partReset) (s.record j).history } := fun j hj => by
    rw [hurec, hc.own j (hbrec.trans hj), hbs, hbt, hbc, State.now, hbt]
    rfl
  have hended : CallEnded s u n final (s.ctx n).pendingClaim := {
    ctx := by rw [hu.ctx, hc.ctx, hbc]
    record := fun j hj => by
      rw [hown j hj, hur, hc.closeOrder j (hbrec.trans hj), hblr]
      exact ⟨rfl, rfl, rfl, rfl, rfl, rfl, rfl, rfl, rfl⟩
    history := attemptEnded_of (by rw [hu.ctx, hc.ctx]) fun j hj => by rw [hown j hj]; rfl
    others := fun k hk => by rw [hurec, hc.others k (by rwa [hbrec]), hbs]
    seq := by rw [hur, hc.seq, hblr]
    freed := fun l hl hn => by
      rw [hulane, huo, ← hao]
      exact hb.freed l (hal.trans hl) (by rwa [hao])
    passed := fun l hl hn => by
      rw [hulane, huo, ← hao]
      exact hb.passed l (hal.trans hl) (by rwa [hao])
    unclaimed := fun hl => by
      rw [hul, huo, ← hao, ← halane]
      exact hb.unclaimed (hal.trans hl)
    lanes := fun m hm => by
      rw [hulane, hb.lanes m (by rwa [hal])]
      exact congrArg (Quad.get · m) halane }
  exact {
    ended := hended
    requests := by
      have e : u.link = b.link := by rw [hu.frame, hc.frame]
      have e' : a.link = s.link := by rw [haf]
      rw [e, ← e']
      exact hb.requests
    rescans := by
      have e : u.survey = b.survey := by rw [hu.frame, hc.frame]
      rw [e, hb.rescans, haf]
    port := fun j hj => by
      have e : u.port = c.port := by rw [hu.frame]
      rw [e, hc.port j (hbrec.trans hj), hb.frame, haf]
    outside := fun x hx => by
      have e : u.mem = c.mem := by rw [hu.frame]
      have hbx : ¬RecordByte b n x := by unfold RecordByte; rwa [hbrec]
      rw [e, hc.outside x hbx, hbm]
    grows := by
      have e : b.matrix = s.matrix := by rw [hb.frame, haf]
      exact e ▸ hc.grows.trans hu.grows
    frame := by rw [hu.frame, hc.frame, hb.frame, haf] }

end Sys2Proof.Machine

namespace Sys2Proof.Proofs
open Sys2Proof.Machine

/-- A seconds timer is up when it runs and has expired (R27). -/
theorem timeUp_iff (s : State) (t : Option Seconds) : TimeUp s t ↔ expired s.now t = true := by
  cases t <;> exact Iff.rfl

/-- Settles O42, by the end of a call that every way into IDLE takes. -/
theorem callbackWindowExpiryEndsTheWatch : Obligations.CallbackWindowExpiryEndsTheWatch := by
  intro s n j
  have hx : windowExpired s n = true ↔ (s.ctx n).state = .callbackWatch ∧ TimeUp s (s.ctx n).cbTimer := by
    rw [timeUp_iff]
    simp [windowExpired]
  refine ⟨fun h => congrArg Host.Outcome.next (if_neg (hx.not.mpr h)), fun hst ht hj => ?_⟩
  refine ⟨endWatch n s, congrArg Host.Outcome.next (if_pos (hx.mpr ⟨hst, ht⟩)), ?_⟩
  have hl : lastOutcome s n = (s.record j).last := by rw [lastOutcome, hj]; rfl
  have h := toIdle_spec n (lastOutcome s n) s
  rw [endWatch, ← hl]
  refine ⟨h.ended, h.port j hj, h.grows, fun a ha => h.outside a ?_, h.frame⟩
  rintro ⟨k, hk, hb⟩
  obtain rfl := Option.some.inj (hj.symm.trans hk)
  exact ha hb

end Sys2Proof.Proofs
end

section
namespace Sys2Proof.Machine

/-! ## The end of a call by a cancel -/

/-- Two states agree on what the rules on calls speak of. -/
structure SameCalls (s t : State) : Prop where
  ctxs : s.ctxs = t.ctxs
  recs : s.recs = t.recs
  lanes : s.lanes = t.lanes
  time : s.time = t.time
  link : s.link = t.link
  voice : s.voice = t.voice
  survey : s.survey = t.survey
  lamps : s.lamps = t.lamps

theorem SameCalls.refl (s : State) : SameCalls s s := ⟨rfl, rfl, rfl, rfl, rfl, rfl, rfl, rfl⟩

theorem takeOrder_sameCalls (i : Fin 8) (s : State) : SameCalls (takeOrder i s) s := ⟨rfl, rfl, rfl, rfl, rfl, rfl, rfl, rfl⟩

theorem unraise_sameCalls (f : TrigFn) (s : State) : SameCalls (unraise f s) s := ⟨rfl, rfl, rfl, rfl, rfl, rfl, rfl, rfl⟩

theorem Raised.sameCalls {s u : State} {b : Byte} (h : Raised s u b) : SameCalls s u := by
  constructor <;> rw [h.frame]

theorem OrderEnds.sameCalls {w u : State} {i : Fin 8} {r : ResultCode} {d : List Byte} (h : OrderEnds w u i r d) :
    SameCalls w u := by
  constructor <;> rw [h.frame]

section
variable {s t u v : State} {n : Cp}

theorem SameCalls.ctx (h : SameCalls s t) (m : Cp) : s.ctx m = t.ctx m := congrArg (Duo.get · m) h.ctxs
theorem SameCalls.record (h : SameCalls s t) (k : Fin 12) : s.record k = t.record k :=
  congrArg (fun v : Records => v.all[k]) h.recs
theorem SameCalls.lane (h : SameCalls s t) (l : Lane) : s.lane l = t.lane l := congrArg (Quad.get · l) h.lanes

theorem SameCalls.symm (h : SameCalls s t) : SameCalls t s :=
  ⟨h.ctxs.symm, h.recs.symm, h.lanes.symm, h.time.symm, h.link.symm, h.voice.symm, h.survey.symm, h.lamps.symm⟩

end

end Sys2Proof.Machine

namespace Sys2Proof
open Machine

/-! The changes of a call, between states that agree on what the rules on calls speak of. -/

section
variable {s t u v : State} {n : Cp}

theorem AttemptEnded.congr {o : CallOutcome} (hs : SameCalls s t) (hu : SameCalls u v) (h : AttemptEnded s u n o) :
    AttemptEnded t v n o := by
  unfold AttemptEnded at h ⊢
  simpa only [hs.ctx, hs.record, hs.time, hu.ctx, hu.record] using h

theorem CallEnded.congr {final : Option CallOutcome} {claim : Option Lane} (hs : SameCalls s t) (hu : SameCalls u v)
    (h : CallEnded s u n final claim) : CallEnded t v n final claim where
  ctx := by simpa only [hs.ctx, hu.ctx] using h.ctx
  record := by simpa only [hs.ctx, hs.record, hs.time, hs.recs, hu.record, hu.recs] using h.record
  history := h.history.congr hs hu
  others := by simpa only [hs.ctx, hs.record, hu.record] using h.others
  seq := by simpa only [hs.recs, hu.recs] using h.seq
  freed := by simpa only [hs.ctx, hu.ctx, hu.lane] using h.freed
  passed := by simpa only [hs.ctx, hu.ctx, hu.lane] using h.passed
  unclaimed := by simpa only [hs.ctx, hu.ctx, hs.lanes, hu.lanes] using h.unclaimed
  lanes := by simpa only [hs.ctx, hs.lane, hu.lane] using h.lanes

theorem WatchEntered.congr {o : CallOutcome} (hs : SameCalls s t) (hw : callbackWindowOf s = callbackWindowOf t)
    (hu : SameCalls u v) (h : WatchEntered s u n o) : WatchEntered t v n o where
  ctx := by simpa only [hs.ctx, hu.ctx, hs.time, hw] using h.ctx
  otherCtx := by simpa only [hs.ctx, hu.ctx] using h.otherCtx
  record := by simpa only [hs.ctx, hs.record, hu.record] using h.record
  history := h.history.congr hs hu
  others := by simpa only [hs.ctx, hs.record, hu.record] using h.others
  stillOpen := by simpa only [hs.recs, hu.recs] using h.stillOpen
  requests := by simpa only [hu.link, hu.survey] using h.requests

theorem ClearingEntered.congr {pend ended : Option CallOutcome} (hs : SameCalls s t) (hu : SameCalls u v)
    (h : ClearingEntered s u n pend ended) : ClearingEntered t v n pend ended where
  ctx := by simpa only [hs.ctx, hu.ctx] using h.ctx
  otherCtx := by simpa only [hs.ctx, hu.ctx] using h.otherCtx
  request := by simpa only [hs.ctx, hu.link] using h.request
  otherRequest := by simpa only [hs.link, hu.link] using h.otherRequest
  voice := by simpa only [hs.ctx, hs.voice, hu.voice, hu.record] using h.voice
  records := by simpa only [hs.record, hu.record] using h.records
  others := by simpa only [hs.ctx, hs.record, hu.record] using h.others
  goesOn := by simpa only [hs.record, hu.record] using h.goesOn
  ends := fun o ho => (h.ends o ho).congr hs hu

end

end Sys2Proof

namespace Sys2Proof.Machine

/-! ### Clearing the pending claim, leaving the start queue -/

/-- A context waits for no lane any more (R12). -/
structure PendingClaimCleared (s u : State) (n : Cp) : Prop where
  ctx : u.ctx n = { s.ctx n with pendingClaim := none }
  otherCtx : u.ctx n.other = s.ctx n.other
  frame : u = { s with ctxs := u.ctxs, needDue := u.needDue }

theorem clearPendingClaim_of_none {n : Cp} {s : State} (h : (s.ctx n).pendingClaim = none) :
    clearPendingClaim n s = s := if_pos h

theorem clearPendingClaim_spec (n : Cp) (s : State) : PendingClaimCleared s (clearPendingClaim n s) n := by
  by_cases h : (s.ctx n).pendingClaim = none
  · rw [clearPendingClaim_of_none h]
    exact ⟨by rw [← h], rfl, rfl⟩
  · rw [clearPendingClaim, if_neg h]
    exact ⟨modCtx_ctx n (fun c => { c with pendingClaim := none }) s,
      modCtx_ctx_other n (fun c => { c with pendingClaim := none }) s, rfl⟩

theorem dequeueClaim_spec (n : Cp) (s : State) :
    ClaimDequeued s (dequeueClaim n s) n ∧ dequeueClaim n s = { s with startq := (dequeueClaim n s).startq } := by
  unfold dequeueClaim ClaimDequeued
  cases (s.ctx n).lane with
  | none => exact ⟨(List.filter_eq_self.mpr fun _ _ => rfl).symm, rfl⟩
  | some l =>
    refine ⟨List.filter_congr fun e _ => ?_, rfl⟩
    simp [eq_comm]

/-- What a cancel does to the start queue before the call ends (R12). -/
def leaveQueue (n : Cp) (s : State) : State := if (s.ctx n).state = .waitingLane then dequeueClaim n s else s

theorem leaveQueue_spec (n : Cp) (s : State) :
    (if (s.ctx n).state = .waitingLane then ClaimDequeued s (leaveQueue n s) n else (leaveQueue n s).startq = s.startq)
      ∧ leaveQueue n s = { s with startq := (leaveQueue n s).startq } := by
  unfold leaveQueue
  split
  · exact dequeueClaim_spec n s
  · exact ⟨rfl, rfl⟩

/-- The states from which a cancel ends a call at once (R11, R12, R14). -/
def endsAtOnce : List CtxState := [.selecting, .waitingLane, .paused, .surveyWait, .held]

theorem cancel_of_endsAtOnce {n : Cp} {s : State} (h : (s.ctx n).state ∈ endsAtOnce) (byOrder : Bool) :
    cancel n byOrder s = endCall n .cancelled (clearPendingClaim n (leaveQueue n s)) := by
  unfold cancel leaveQueue
  revert h
  cases (s.ctx n).state <;> simp [endsAtOnce]

/-! ### Winding a call up -/

/-- A call's attempt is over with an outcome, what its context asked for is given up, and it waits for no lane (R8, R11). -/
structure CallWound (s t : State) (n : Cp) (o : CallOutcome) : Prop where
  ctx : t.ctx n = { s.ctx n with attempt := none, pendingClaim := none }
  otherCtx : t.ctx n.other = s.ctx n.other
  own : ∀ j, (s.ctx n).record = some j → t.record j = { s.record j with
    last := some o, history := endedHistory s.now (s.ctx n).attempt o (s.record j).history }
  others : ∀ k, (s.ctx n).record ≠ some k → t.record k = s.record k
  recs : t.recs = { s.recs with all := t.recs.all }
  request : t.link.ctxReq.get n = none
  rescan : t.survey.ctxReq.get n = none
  frame : t = { s with
    ctxs := t.ctxs, recs := t.recs, survey := t.survey, link := t.link, needDue := t.needDue }

/-- The end of a call up to the choice between the watch and IDLE (R11). -/
def windUp (n : Cp) (o : CallOutcome) (s : State) : State :=
  endAttempt n o (setLast n o (dropRescan n (dropRequest n s)))

theorem windUp_spec (n : Cp) (o : CallOutcome) (s : State) : CallWound s (windUp n o (clearPendingClaim n s)) n o := by
  have hp := clearPendingClaim_spec n s
  generalize clearPendingClaim n s = p at hp
  unfold windUp
  have hqr : (dropRescan n (dropRequest n p)).link.ctxReq.get n = none := Duo.get_set_same _ _ _
  have hqs : (dropRescan n (dropRequest n p)).survey.ctxReq.get n = none := Duo.get_set_same _ _ _
  have hqf : dropRescan n (dropRequest n p) = { p with
    survey := (dropRescan n (dropRequest n p)).survey, link := (dropRescan n (dropRequest n p)).link } := rfl
  generalize dropRescan n (dropRequest n p) = q at hqr hqs hqf
  have hr := modRecord_spec n (fun r => { r with last := some o }) q
  unfold setLast
  generalize modRecord n _ q = r at hr
  have ht := endAttempt_spec n o r
  generalize endAttempt n o r = t at ht
  have hrc : ∀ m, r.ctx m = p.ctx m := fun m => by rw [hr.frame, hqf]; rfl
  have hqc : ∀ m, q.ctx m = p.ctx m := fun m => by rw [hqf]; rfl
  have hqrec : ∀ k, q.record k = s.record k := fun k => by rw [hqf, hp.frame]; rfl
  have hpr : (p.ctx n).record = (s.ctx n).record := by rw [hp.ctx]
  have hpa : (p.ctx n).attempt = (s.ctx n).attempt := by rw [hp.ctx]
  have hnow : r.now = s.now := by rw [hr.frame, hqf, hp.frame]; rfl
  exact {
    ctx := by rw [ht.ctx, hrc, hp.ctx]
    otherCtx := by rw [ht.otherCtx, hrc, hp.otherCtx]
    own := fun j hj => by
      rw [ht.own j (by rw [hrc, hpr, hj]), hr.own j (by rw [hqc, hpr, hj]), hrc, hpa, hnow, hqrec]
    others := fun k hk => by
      rw [ht.others k (by rwa [hrc, hpr]), hr.others k (by rwa [hqc, hpr]), hqrec]
    recs := by rw [ht.recs, hr.recs, hqf, hp.frame]
    request := by rw [ht.frame, hr.frame]; exact hqr
    rescan := by rw [ht.frame, hr.frame]; exact hqs
    frame := by rw [ht.frame, hr.frame, hqf, hp.frame] }

/-- A call that has been wound up and then ended has ended. -/
theorem CallWound.ended {s t u : State} {n : Cp} {o : CallOutcome} (h : CallWound s t n o)
    (k : CallEnded t u n (some o) (t.ctx n).pendingClaim) : CallEnded s u n (some o) none := by
  have hr : (t.ctx n).record = (s.ctx n).record := by rw [h.ctx]
  have hl : (t.ctx n).lane = (s.ctx n).lane := by rw [h.ctx]
  have ha : (t.ctx n).attempt = none := by rw [h.ctx]
  have hlanes : t.lanes = s.lanes := by rw [h.frame]
  have htime : t.time = s.time := by rw [h.frame]
  have hclose : t.recs.closeOrder = s.recs.closeOrder := by rw [h.recs]
  exact {
    ctx := by rw [k.ctx, h.ctx]
    record := fun j hj => by
      have e := k.record j (hr.trans hj)
      rwa [htime, hclose, h.own j hj] at e
    history := attemptEnded_of (by rw [k.ctx]) fun j hj => by
      obtain ⟨-, hsame, -⟩ := k.history
      rw [hsame j (hr.trans hj) ha, h.own j hj]
      rfl
    others := fun m hm => by rw [k.others m (by rwa [hr]), h.others m hm]
    seq := by rw [k.seq, h.recs]
    freed := fun l hl' hn => by
      rw [← h.otherCtx]
      exact k.freed l (hl.trans hl') (by rwa [h.otherCtx])
    passed := fun l hl' hn => by
      rw [← h.otherCtx]
      exact k.passed l (hl.trans hl') (by rwa [h.otherCtx])
    unclaimed := fun hl' => by
      rw [← h.otherCtx, ← hlanes]
      exact k.unclaimed (hl.trans hl')
    lanes := fun m hm => by
      rw [k.lanes m (by rwa [hl])]
      exact congrArg (Quad.get · m) hlanes }

/-- A call that has connected may go on in the watch: the callback window is not 0 and its claimed lane is READY (R11). -/
def Watchable (s : State) (n : Cp) : Prop :=
  (s.ctx n).connectedOnce = true ∧ callbackWindowOf s ≠ 0 ∧ ∃ l, (s.ctx n).lane = some l ∧ (s.lane l).state = .ready

theorem readyClaim_iff (s : State) (n : Cp) :
    readyClaim s n = true ↔ ∃ l, (s.ctx n).lane = some l ∧ (s.lane l).state = .ready := by
  unfold readyClaim
  cases (s.ctx n).lane <;> simp

theorem endCall_cancelled (n : Cp) (s : State) :
    endCall n .cancelled s =
      (let t := windUp n .cancelled s
       if (t.ctx n).connectedOnce = true ∧ callbackWindowOf t ≠ 0 ∧ readyClaim t n = true then
         if laneWanted t n then toIdle n (some .preempted) t
         else modCtx n (fun c => { c with cbTimer := some (later t.now (callbackWindowOf t)) })
           (setState n .callbackWatch (stopTimers n t))
       else toIdle n (some .cancelled) (clearPendingClaim n t)) := by
  unfold endCall windUp
  simp

/-- Winding up leaves what R11 asks of as it was. -/
theorem CallWound.watchable_iff {s t : State} {n : Cp} {o : CallOutcome} (h : CallWound s t n o) :
    ((t.ctx n).connectedOnce = true ∧ callbackWindowOf t ≠ 0 ∧ readyClaim t n = true) ↔ Watchable s n := by
  have hw : callbackWindowOf t = callbackWindowOf s :=
    callbackWindowOf_congr (by rw [h.frame]) fun a _ _ => by rw [h.frame]
  have hl : ∀ l, t.lane l = s.lane l := fun l => by rw [h.frame]; rfl
  rw [readyClaim_iff, hw, h.ctx]
  simp only [hl]
  rfl

/-- A call that ends with CANCELLED into IDLE (R11 to R14). -/
structure CancelledToIdle (s u : State) (n : Cp) : Prop where
  ended : CallEnded s u n (some .cancelled) none
  request : u.link.ctxReq.get n = none
  rescan : u.survey.ctxReq.get n = none
  outside : ∀ a, ¬RecordByte s n a → u.mem.read a = s.mem.read a
  grows : s.matrix.Grows u.matrix
  frame : u = { s with
    ctxs := u.ctxs, recs := u.recs, lanes := u.lanes, survey := u.survey, link := u.link, lamps := u.lamps,
    needDue := u.needDue, mem := u.mem, port := u.port, matrix := u.matrix }

theorem endCall_toIdle {n : Cp} {s : State} (h : ¬Watchable s n) :
    CancelledToIdle s (endCall n .cancelled (clearPendingClaim n s)) n := by
  rw [endCall_cancelled]
  have ht := windUp_spec n .cancelled s
  generalize windUp n .cancelled (clearPendingClaim n s) = t at ht
  dsimp only
  rw [if_neg (ht.watchable_iff.not.mpr h), clearPendingClaim_of_none (by rw [ht.ctx])]
  have hu := toIdle_spec n (some .cancelled) t
  generalize toIdle n (some .cancelled) t = u at hu
  have hr : (t.ctx n).record = (s.ctx n).record := by rw [ht.ctx]
  exact {
    ended := ht.ended hu.ended
    request := by rcases hu.requests with e | e <;> [exact e; exact e.trans ht.request]
    rescan := by rw [hu.rescans, ht.rescan]
    outside := fun a ha => by
      have hta : ¬RecordByte t n a := by unfold RecordByte; rwa [hr]
      rw [hu.outside a hta, ht.frame]
    grows := by
      have e : t.matrix = s.matrix := by rw [ht.frame]
      exact e ▸ hu.grows
    frame := by rw [hu.frame, ht.frame] }

/-- A call that ends with CANCELLED into the watch (R11). -/
structure CancelledToWatch (s u : State) (n : Cp) : Prop where
  watch : WatchEntered s u n .cancelled
  grows : s.matrix.Grows u.matrix
  frame : u = { s with
    ctxs := u.ctxs, recs := u.recs, survey := u.survey, link := u.link, lamps := u.lamps, needDue := u.needDue,
    matrix := u.matrix }

theorem endCall_toWatch {n : Cp} {s : State} (h : Watchable s n)
    (hw : ∀ l, (s.ctx n).lane = some l → (s.ctx n.other).pendingClaim ≠ some l) :
    CancelledToWatch s (endCall n .cancelled (clearPendingClaim n s)) n := by
  rw [endCall_cancelled]
  have ht := windUp_spec n .cancelled s
  generalize windUp n .cancelled (clearPendingClaim n s) = t at ht
  have hlw : laneWanted t n = false := by
    obtain ⟨-, -, l, hl, -⟩ := h
    have e : (t.ctx n).lane = some l := by rw [ht.ctx, hl]
    unfold laneWanted
    rw [e, ht.otherCtx]
    simp [hw l hl]
  dsimp only
  rw [if_pos (ht.watchable_iff.mpr h), hlw, if_neg (by decide)]
  have hcw : callbackWindowOf t = callbackWindowOf s :=
    callbackWindowOf_congr (by rw [ht.frame]) fun a _ _ => by rw [ht.frame]
  have hac : (stopTimers n t).ctx n = { t.ctx n with stepTimer := none, locTimer := none, cbTimer := none } :=
    modCtx_ctx _ _ _
  have hao : (stopTimers n t).ctx n.other = t.ctx n.other := modCtx_ctx_other _ _ _
  have haf : stopTimers n t = { t with ctxs := (stopTimers n t).ctxs } := rfl
  generalize stopTimers n t = a at hac hao haf
  have hv := setState_spec n .callbackWatch a
  generalize setState n .callbackWatch a = v at hv
  generalize hu : modCtx n (fun c => { c with cbTimer := some (later t.now (callbackWindowOf t)) }) v = u
  have huc : u.ctx n = { v.ctx n with cbTimer := some (later t.now (callbackWindowOf t)) } := by
    subst hu; exact modCtx_ctx _ _ _
  have huo : u.ctx n.other = v.ctx n.other := by subst hu; exact modCtx_ctx_other _ _ _
  have huf : u = { v with ctxs := u.ctxs } := by subst hu; rfl
  have hur : u.recs = t.recs := by rw [huf, hv.frame, haf]
  have hurec : ∀ k, u.record k = t.record k := fun k => by unfold State.record; rw [hur]
  have hnow : t.now = s.time.uptime := by rw [ht.frame]; rfl
  exact {
    watch := {
      ctx := by rw [huc, hv.ctx, hac, ht.ctx, hcw, hnow]; rfl
      otherCtx := by rw [huo, hv.otherCtx, hao, ht.otherCtx]
      record := fun j hj => by rw [hurec, ht.own j hj]
      history := attemptEnded_of (by rw [huc, hv.ctx, hac, ht.ctx]) fun j hj => by rw [hurec, ht.own j hj]
      others := fun k hk => by rw [hurec, ht.others k hk]
      stillOpen := by rw [hur, ht.recs]
      requests := by
        rw [huf, hv.frame, haf]
        exact ⟨ht.request, ht.rescan⟩ }
    grows := by
      have e : a.matrix = s.matrix := by rw [haf, ht.frame]
      have e' : u.matrix = v.matrix := by rw [huf]
      rw [e', ← e]
      exact hv.grows
    frame := by rw [huf, hv.frame, haf, ht.frame] }

end Sys2Proof.Machine
end

section
namespace Sys2Proof.Machine

/-! ## Into CLEARING -/

/-- A change of a context leaves the rest as it is. -/
structure CtxChanged (s u : State) (n : Cp) (f : Context → Context) : Prop where
  ctx : u.ctx n = f (s.ctx n)
  otherCtx : u.ctx n.other = s.ctx n.other
  frame : u = { s with ctxs := u.ctxs }

theorem modCtx_spec (n : Cp) (f : Context → Context) (s : State) : CtxChanged s (modCtx n f s) n f :=
  ⟨modCtx_ctx n f s, modCtx_ctx_other n f s, rfl⟩

/-- A context's request has replaced what it asked of the arbiter (R4). -/
structure Requested (s u : State) (n : Cp) (kind : OpKind) (args : List Byte) : Prop where
  own : ∀ l, (s.ctx n).lane = some l → u.link.ctxReq.get n = some ⟨kind, l, args⟩
    ∧ ∀ x, u.link.inFlight = some x → x.requester = .ctx n → x.wanted = false
  other : u.link.ctxReq.get n.other = s.link.ctxReq.get n.other
  frame : u = { s with link := u.link }

/-- A transaction that a context has given up is no longer wanted (R101). -/
theorem giveUpCtx_unwanted (n : Cp) (s : State) (x : Transaction) (hx : (giveUpCtx n s).link.inFlight = some x)
    (hr : x.requester = .ctx n) : x.wanted = false := by
  change s.link.inFlight.map _ = some x at hx
  obtain ⟨t, -, rfl⟩ := Option.map_eq_some_iff.mp hx
  by_cases h : t.requester = .ctx n
  · simp [h]
  · simp [h] at hr

theorem ctxRequest_spec (n : Cp) (kind : OpKind) (args : List Byte) (s : State) :
    Requested s (ctxRequest n kind args s) n kind args := by
  unfold ctxRequest
  cases h : (s.ctx n).lane with
  | none => exact ⟨fun l hl => (nomatch h.symm.trans hl), rfl, rfl⟩
  | some l =>
    refine ⟨fun k hk => ⟨?_, giveUpCtx_unwanted n s⟩, Duo.get_set_other _ _ _, rfl⟩
    obtain rfl := Option.some.inj (h.symm.trans hk)
    exact Duo.get_set_same _ _ _

/-- A location status after the call point's burst is cut short (R116). -/
def abortedLocation (stage : BurstStage) (v : LocStatus) : LocStatus := if stage = .idle then v else .aborted

/-- The call point's path is broken, its burst cut short (R109, R115, R116). -/
structure PathBroken (s u : State) (n : Cp) : Prop where
  conn : u.voice.conn = s.voice.conn.set n none
  muted : u.voice.muted = s.voice.muted.set n false
  burst : u.voice.burst = if (s.voice.burst.get n).stage = .idle then s.voice.burst
    else s.voice.burst.set n Burst.reset
  own : ∀ j, (s.ctx n).record = some j → u.record j = { s.record j with
    location := abortedLocation (s.voice.burst.get n).stage (s.record j).location }
  others : ∀ k, (s.ctx n).record ≠ some k → u.record k = s.record k
  recs : u.recs = { s.recs with all := u.recs.all }
  frame : u = { s with recs := u.recs, voice := u.voice }

theorem breakPath_spec (n : Cp) (s : State) : PathBroken s (breakPath n s) n := by
  generalize ht : setMute n false (s.withVoice { s.voice with conn := s.voice.conn.set n none }) = t
  have hb : breakPath n s = abortBurst n t := by rw [← ht]; rfl
  have hconn : t.voice.conn = s.voice.conn.set n none := by rw [← ht]; rfl
  have hmute : t.voice.muted = s.voice.muted.set n false := by rw [← ht]; rfl
  have hburst : t.voice.burst = s.voice.burst := by rw [← ht]; rfl
  have htf : t = { s with voice := t.voice } := by rw [← ht]; rfl
  have hrec : ∀ k, t.record k = s.record k := fun k => by rw [htf]; rfl
  rw [hb, abortBurst, hburst]
  clear ht hb
  by_cases hi : (s.voice.burst.get n).stage = .idle
  · rw [if_pos hi]
    exact ⟨hconn, hmute, by rw [hburst, if_pos hi], fun j _ => by rw [hrec, abortedLocation, if_pos hi], fun k _ => hrec k, by rw [htf], by rw [htf]⟩
  · rw [if_neg hi]
    generalize hv : setMute n false (modBurst n (fun _ => Burst.reset) t) = v
    have hvf : v = { t with voice := v.voice } := by rw [← hv]; rfl
    have hvv : v.voice = ⟨t.voice.conn, t.voice.muted.set n false, t.voice.burst.set n Burst.reset⟩ := by rw [← hv]; rfl
    have hvr : ∀ k, v.record k = s.record k := fun k => by rw [hvf, ← hrec]; rfl
    have hvc : v.ctx n = s.ctx n := by rw [hvf, htf]; rfl
    have hu := modRecord_spec n (fun r => { r with location := .aborted }) v
    have huv : (modRecord n (fun r => { r with location := .aborted }) v).voice = v.voice := by rw [hu.frame]
    rw [setLocation]
    generalize modRecord n (fun r => { r with location := .aborted }) v = u at hu huv
    exact {
      conn := by rw [huv, hvv, hconn]
      muted := by rw [huv, hvv, hmute, Duo.set_set]
      burst := by rw [huv, hvv, hburst, if_neg hi]
      own := fun j hj => by rw [hu.own j (by rw [hvc, hj]), hvr, abortedLocation, if_neg hi]
      others := fun k hk => by rw [hu.others k (by rwa [hvc]), hvr]
      recs := by rw [hu.recs, hvf, htf]
      frame := by rw [hu.frame, hvf, htf] }

/-- A connected call has lost its path, and its attempt has ended with the connection (R41, R109). -/
structure ConnectedLeft (s u : State) (n : Cp) : Prop where
  ctx : u.ctx n = { s.ctx n with attempt := none, locTimer := none }
  otherCtx : u.ctx n.other = s.ctx n.other
  conn : u.voice.conn = s.voice.conn.set n none
  muted : u.voice.muted = s.voice.muted.set n false
  burst : u.voice.burst = if (s.voice.burst.get n).stage = .idle then s.voice.burst
    else s.voice.burst.set n Burst.reset
  own : ∀ j, (s.ctx n).record = some j → u.record j = { s.record j with
    location := abortedLocation (s.voice.burst.get n).stage (s.record j).location,
    history := endedHistory s.now (s.ctx n).attempt .connected (s.record j).history }
  others : ∀ k, (s.ctx n).record ≠ some k → u.record k = s.record k
  frame : u = { s with ctxs := u.ctxs, recs := u.recs, voice := u.voice }

theorem leaveConnected_of_ne {n : Cp} {s : State} (h : (s.ctx n).state ≠ .connected) : leaveConnected n s = s := if_neg h

theorem leaveConnected_spec {n : Cp} {s : State} (h : (s.ctx n).state = .connected) :
    ConnectedLeft s (leaveConnected n s) n := by
  rw [leaveConnected, if_pos h]
  have hp := breakPath_spec n s
  generalize breakPath n s = p at hp
  have hq := endAttempt_spec n .connected p
  generalize endAttempt n .connected p = q at hq
  have hc : ∀ m, p.ctx m = s.ctx m := fun m => by rw [hp.frame]; rfl
  have hv : q.voice = p.voice := by rw [hq.frame]
  have hnow : p.now = s.now := by rw [hp.frame]; rfl
  have hu := modCtx_spec n (fun c => { c with locTimer := none }) q
  generalize modCtx n _ q = u at hu
  have huv : u.voice = p.voice := by rw [hu.frame, hv]
  have hur : ∀ k, u.record k = q.record k := fun k => by rw [hu.frame]; rfl
  exact {
    ctx := by rw [hu.ctx, hq.ctx, hc]
    otherCtx := by rw [hu.otherCtx, hq.otherCtx, hc]
    conn := huv ▸ hp.conn
    muted := huv ▸ hp.muted
    burst := huv ▸ hp.burst
    own := fun j hj => by rw [hur, hq.own j (by rw [hc, hj]), hp.own j hj, hc, hnow]
    others := fun k hk => by rw [hur, hq.others k (by rwa [hc]), hp.others k hk]
    frame := by rw [hu.frame, hq.frame, hp.frame] }

/-- A context has turned to CLEARING and asked for its module's call to be cleared (R13, R46). -/
structure HangupAsked (s u : State) (n : Cp) (pend : Option CallOutcome) : Prop where
  ctx : u.ctx n = { s.ctx n with state := .clearing, pendingOutcome := pend, stepTimer := none }
  otherCtx : u.ctx n.other = s.ctx n.other
  request : ∀ l, (s.ctx n).lane = some l → u.link.ctxReq.get n = some ⟨.hangup, l, []⟩
    ∧ ∀ x, u.link.inFlight = some x → x.requester = .ctx n → x.wanted = false
  otherRequest : u.link.ctxReq.get n.other = s.link.ctxReq.get n.other
  grows : s.matrix.Grows u.matrix
  frame : u = { s with ctxs := u.ctxs, link := u.link, lamps := u.lamps, matrix := u.matrix }

theorem enterClearing_hangup (n : Cp) (pend : Option CallOutcome) (s : State) :
    HangupAsked (leaveConnected n s) (enterClearing n pend s) n pend := by
  unfold enterClearing
  generalize leaveConnected n s = t
  dsimp only
  rw [stopStep]
  have ha := modCtx_spec n (fun c => { c with stepTimer := none }) t
  generalize modCtx n (fun c => { c with stepTimer := none }) t = a at ha
  have hb := modCtx_spec n (fun c => { c with pendingOutcome := pend }) a
  generalize modCtx n (fun c => { c with pendingOutcome := pend }) a = b at hb
  have hv := setState_spec n .clearing b
  generalize setState n .clearing b = v at hv
  have hu := ctxRequest_spec n .hangup [] v
  generalize ctxRequest n .hangup [] v = u at hu
  have hvc : v.ctx n = { t.ctx n with state := .clearing, pendingOutcome := pend, stepTimer := none } := by
    rw [hv.ctx, hb.ctx, ha.ctx]
  have huc : ∀ m, u.ctx m = v.ctx m := fun m => by rw [hu.frame]; rfl
  exact {
    ctx := by rw [huc, hvc]
    otherCtx := by rw [huc, hv.otherCtx, hb.otherCtx, ha.otherCtx]
    request := fun l hl => hu.own l (by rw [hvc, ← hl])
    otherRequest := by rw [hu.other, hv.frame, hb.frame, ha.frame]
    grows := by
      have e : u.matrix = v.matrix := by rw [hu.frame]
      have e' : b.matrix = t.matrix := by rw [hb.frame, ha.frame]
      rw [e, ← e']
      exact hv.grows
    frame := by rw [hu.frame, hv.frame, hb.frame, ha.frame] }

/-- A context has gone into CLEARING; an attempt that had connected has ended with its connection (R13, R41, R43). -/
structure WentClearing (s u : State) (n : Cp) (pend : Option CallOutcome) : Prop where
  entered : ClearingEntered s u n pend (if (s.ctx n).state = .connected then some .connected else none)
  grows : s.matrix.Grows u.matrix
  frame : u = { s with
    ctxs := u.ctxs, recs := u.recs, voice := u.voice, link := u.link, lamps := u.lamps, matrix := u.matrix }

theorem HangupAsked.of_unconnected {s u : State} {n : Cp} {pend : Option CallOutcome} (h : HangupAsked s u n pend)
    (hs : (s.ctx n).state ≠ .connected) : WentClearing s u n pend := by
  have hrec : ∀ k, u.record k = s.record k := fun k => by rw [h.frame]; rfl
  have hi : (if (s.ctx n).state = .connected then some CallOutcome.connected else none) = none := if_neg hs
  exact {
    entered := {
      ctx := by rw [h.ctx, hi, if_neg hs]; rfl
      otherCtx := h.otherCtx
      request := h.request
      otherRequest := h.otherRequest
      voice := by rw [if_neg hs, h.frame]
      records := fun k => by rw [hrec]
      others := fun k _ => hrec k
      goesOn := fun _ k => by rw [hrec]
      ends := fun o ho => (nomatch hi.symm.trans ho) }
    grows := h.grows
    frame := by rw [h.frame] }

theorem HangupAsked.of_connected {s t u : State} {n : Cp} {pend : Option CallOutcome} (ht : ConnectedLeft s t n)
    (h : HangupAsked t u n pend) (hs : (s.ctx n).state = .connected) : WentClearing s u n pend := by
  have hrec : ∀ k, u.record k = t.record k := fun k => by rw [h.frame]; rfl
  have hi : (if (s.ctx n).state = .connected then some CallOutcome.connected else none) = some .connected := if_pos hs
  have huv : u.voice = t.voice := by rw [h.frame]
  have hx : t.matrix = s.matrix := by rw [ht.frame]
  have hburst : (s.voice.burst.get n).stage ≠ .idle → u.voice.burst.get n = Burst.reset
      ∧ ∀ j, (s.ctx n).record = some j → (u.record j).location = .aborted := fun hb => by
    refine ⟨by rw [huv, ht.burst, if_neg hb, Duo.get_set_same], fun j hj => ?_⟩
    rw [hrec, ht.own j hj, abortedLocation, if_neg hb]
  exact {
    entered := {
      ctx := by rw [h.ctx, hi, if_pos hs, ht.ctx]; rfl
      otherCtx := by rw [h.otherCtx, ht.otherCtx]
      request := fun l hl => h.request l (by rw [ht.ctx, hl])
      otherRequest := by rw [h.otherRequest, ht.frame]
      voice := by
        rw [if_pos hs]
        refine ⟨by rw [huv, ht.conn, Duo.get_set_same], by rw [huv, ht.muted, Duo.get_set_same], hburst,
          by rw [huv, ht.conn, Duo.get_set_other], by rw [huv, ht.muted, Duo.get_set_other], ?_⟩
        rw [huv, ht.burst]
        split
        · rfl
        · rw [Duo.get_set_other]
      records := fun k => by
        rw [hrec]
        by_cases hk : (s.ctx n).record = some k
        · rw [ht.own k hk]
        · rw [ht.others k hk]
      others := fun k hk => by rw [hrec, ht.others k hk]
      goesOn := fun he => (nomatch hi.symm.trans he)
      ends := fun o ho => by
        obtain rfl := Option.some.inj (hi.symm.trans ho)
        exact attemptEnded_of (by rw [h.ctx, ht.ctx]) fun j hj => by rw [hrec, ht.own j hj] }
    grows := hx ▸ h.grows
    frame := by rw [h.frame, ht.frame] }

theorem enterClearing_spec (n : Cp) (pend : Option CallOutcome) (s : State) :
    WentClearing s (enterClearing n pend s) n pend := by
  have h := enterClearing_hangup n pend s
  by_cases hs : (s.ctx n).state = .connected
  · exact HangupAsked.of_connected (leaveConnected_spec hs) h hs
  · rw [leaveConnected_of_ne hs] at h
    exact h.of_unconnected hs

end Sys2Proof.Machine
end

section
namespace Sys2Proof.Machine

/-! ## Cancels -/

section
variable {n : Cp} {s : State}

theorem leaveQueue_sameCalls (n : Cp) (s : State) : SameCalls (leaveQueue n s) s := by
  obtain ⟨-, h⟩ := leaveQueue_spec n s
  constructor <;> rw [h]

theorem watchable_leaveQueue : Watchable (leaveQueue n s) n ↔ Watchable s n := by
  obtain ⟨-, h⟩ := leaveQueue_spec n s
  have hw : callbackWindowOf (leaveQueue n s) = callbackWindowOf s :=
    callbackWindowOf_congr (by rw [h]) fun a _ _ => by rw [h]
  unfold Watchable
  rw [hw]
  simp only [(leaveQueue_sameCalls n s).ctx, (leaveQueue_sameCalls n s).lane]

/-- What a cancel leaves of the start queue (R12). -/
def QueueLeft (s u : State) (n : Cp) : Prop :=
  if (s.ctx n).state = .waitingLane then ClaimDequeued s u n else u.startq = s.startq

/-- A cancel has ended a call into IDLE, out of the start queue if it stood there (R11, R12). -/
structure CancelDoneIdle (s u : State) (n : Cp) : Prop where
  ended : CallEnded s u n (some .cancelled) none
  request : u.link.ctxReq.get n = none
  rescan : u.survey.ctxReq.get n = none
  queue : QueueLeft s u n
  outside : ∀ a, ¬RecordByte s n a → u.mem.read a = s.mem.read a
  grows : s.matrix.Grows u.matrix
  frame : u = { s with
    ctxs := u.ctxs, recs := u.recs, lanes := u.lanes, survey := u.survey, link := u.link, startq := u.startq,
    lamps := u.lamps, needDue := u.needDue, mem := u.mem, port := u.port, matrix := u.matrix }

theorem QueueLeft.congr {u v : State} (h : QueueLeft s u n) (e : v.startq = u.startq) : QueueLeft s v n := by
  unfold QueueLeft ClaimDequeued at *
  rwa [e]

theorem cancel_toIdle (hs : (s.ctx n).state ∈ endsAtOnce) (h : ¬Watchable s n) (byOrder : Bool) :
    CancelDoneIdle s (cancel n byOrder s) n := by
  rw [cancel_of_endsAtOnce hs]
  have hu := endCall_toIdle (watchable_leaveQueue.not.mpr h)
  obtain ⟨hq, hf⟩ := leaveQueue_spec n s
  have hc := leaveQueue_sameCalls n s
  generalize endCall n .cancelled _ = u at hu
  have huq : u.startq = (leaveQueue n s).startq := by rw [hu.frame]
  have hr : ∀ a, RecordByte (leaveQueue n s) n a ↔ RecordByte s n a := fun a => by unfold RecordByte; rw [hc.ctx]
  exact {
    ended := hu.ended.congr hc (.refl u)
    request := hu.request
    rescan := hu.rescan
    queue := by unfold QueueLeft ClaimDequeued; rwa [huq]
    outside := fun a ha => by rw [hu.outside a ((hr a).not.mpr ha), hf]
    grows := by
      have e : (leaveQueue n s).matrix = s.matrix := by rw [hf]
      exact e ▸ hu.grows
    frame := by rw [hu.frame, hf] }

/-- A cancel has ended a call into the watch, out of the start queue if it stood there (R11, R12). -/
structure CancelDoneWatch (s u : State) (n : Cp) : Prop where
  watch : WatchEntered s u n .cancelled
  queue : QueueLeft s u n
  grows : s.matrix.Grows u.matrix
  frame : u = { s with
    ctxs := u.ctxs, recs := u.recs, survey := u.survey, link := u.link, startq := u.startq, lamps := u.lamps,
    needDue := u.needDue, matrix := u.matrix }

theorem cancel_toWatch (hs : (s.ctx n).state ∈ endsAtOnce) (h : Watchable s n)
    (hw : ∀ l, (s.ctx n).lane = some l → (s.ctx n.other).pendingClaim ≠ some l) (byOrder : Bool) :
    CancelDoneWatch s (cancel n byOrder s) n := by
  rw [cancel_of_endsAtOnce hs]
  obtain ⟨hq, hf⟩ := leaveQueue_spec n s
  have hc := leaveQueue_sameCalls n s
  have hu := endCall_toWatch (watchable_leaveQueue.mpr h) (by simpa only [hc.ctx] using hw)
  generalize endCall n .cancelled _ = u at hu
  have huq : u.startq = (leaveQueue n s).startq := by rw [hu.frame]
  have hcw : callbackWindowOf (leaveQueue n s) = callbackWindowOf s :=
    callbackWindowOf_congr (by rw [hf]) fun a _ _ => by rw [hf]
  exact {
    watch := hu.watch.congr hc hcw (.refl u)
    queue := by unfold QueueLeft ClaimDequeued; rwa [huq]
    grows := by
      have e : (leaveQueue n s).matrix = s.matrix := by rw [hf]
      exact e ▸ hu.grows
    frame := by rw [hu.frame, hf] }

/-- A cancel does not go on in the watch when the call has not connected, no watch is kept, or no lane is READY (R11). -/
theorem not_watchable (h : (s.ctx n).connectedOnce = false ∨ callbackWindowOf s = 0
    ∨ ∀ l, (s.ctx n).lane = some l → (s.lane l).state ≠ .ready) : ¬Watchable s n := by
  rintro ⟨hc, hw, l, hl, hr⟩
  rcases h with h | h | h
  · exact absurd (h.symm.trans hc) (by decide)
  · exact hw h
  · exact h l hl hr

/-- The outcome that a cancel leaves pending, and how it ends the attempt, when it clears a call (R13, R41). -/
theorem cancel_clearing {o : CallOutcome} {e : Option CallOutcome}
    (h : o = .cancelled ∧ e = none ∧ ((s.ctx n).state = .dialling ∨ (s.ctx n).state = .alerting)
      ∨ o = .localCleared ∧ e = some .connected ∧ (s.ctx n).state = .connected) (byOrder : Bool) :
    cancel n byOrder s = enterClearing n (some o) s
      ∧ e = if (s.ctx n).state = .connected then some .connected else none := by
  unfold cancel
  rcases h with ⟨rfl, rfl, hs | hs⟩ | ⟨rfl, rfl, hs⟩ <;> rw [hs] <;> exact ⟨rfl, rfl⟩

/-- A cancel in CLEARING replaces a pending outcome that is not terminal, and no other (R14). -/
theorem cancel_pending {o : CallOutcome} (hs : (s.ctx n).state = .clearing) (ho : (s.ctx n).pendingOutcome = some o)
    (byOrder : Bool) : CtxChanged s (cancel n byOrder s) n
      (fun c => { c with pendingOutcome := some (if o.cls = .terminal then o else .cancelled) }) := by
  have e : cancel n byOrder s = replacePending n .cancelled s := by unfold cancel; rw [hs]
  rw [e, replacePending, ho]
  by_cases ht : o.cls = .terminal
  · simp only [if_pos ht]
    exact ⟨by rw [← ho], rfl, rfl⟩
  · simp only [if_neg ht]
    exact modCtx_spec _ _ _

/-- A CANCEL event has no effect on a context without a call of its own to end (R15). -/
theorem cancel_of_none (hs : (s.ctx n).state ∈ [CtxState.idle, .callbackWatch, .ringing]) : cancel n false s = s := by
  unfold cancel
  revert hs
  cases (s.ctx n).state <;> simp

/-- A queued event is taken once the ready flag is set, and waits before that (R153; log entry 4). -/
theorem takeEvent_of_ready {f : TrigFn} {act : State → State} (h : s.port.ready = true) :
    takeEvent f act s = act (unraise f s) := if_pos h

theorem takeEvent_of_not_ready {f : TrigFn} {act : State → State} (h : s.port.ready = false) :
    takeEvent f act s = { s with matrix := { s.matrix with
      raised := if f ∈ s.matrix.raised then s.matrix.raised else s.matrix.raised ++ [f] } } := by
  have hm : (s.matrix.raised.any fun g => decide (g = f)) = true ↔ f ∈ s.matrix.raised := by simp
  rw [takeEvent, h, if_neg (by decide), hold]
  by_cases hf : f ∈ s.matrix.raised
  · rw [if_pos (hm.mpr hf), if_pos hf]
  · rw [if_neg (hm.not.mpr hf), if_neg hf]
    rfl

end

end Sys2Proof.Machine

namespace Sys2Proof.Proofs
open Sys2Proof.Machine

section
variable {s w : State} {i : Fin 8} {n : Cp}

/-- A CANCEL_CALL on a context that is not IDLE completes with OK on what the cancel leaves. -/
theorem cancelCall_through (h : FrontOrder s i 3 [BitVec.ofNat 8 n.num]) (hi : (s.ctx n).state ≠ .idle)
    {P : State → Prop} (hP : P (completeOrder i .ok [] (cancel n true (takeOrder i s)))) :
    CompletesThrough .cancelCall s P := by
  refine ⟨_, takeRow_cancelCall h, ?_⟩
  rwa [cancelCall_of_front h, if_neg hi, orderOk]

/-- A CANCEL event that is taken leaves what the cancel leaves. -/
theorem cancelCpn_through (h : s.port.ready = true) {P : State → Prop}
    (hP : P (cancel n false (unraise (.cancel n) s))) : CompletesThrough (.cancelCpn n) s P :=
  ⟨_, congrArg Host.Outcome.next (takeEvent_of_ready h), hP⟩

theorem ne_idle_of_endsAtOnce (h : (s.ctx n).state ∈ endsAtOnce) : (s.ctx n).state ≠ .idle := by
  intro e
  rw [e] at h
  exact absurd h (by decide)

/-- Settles O19, by the state of the context: what the cancel does, carried through the completion of the order. -/
theorem cancelCallEndsOrClearsTheCall : Obligations.CancelCallEndsOrClearsTheCall := by
  intro s i n h
  have hts := takeOrder_sameCalls i s
  have hcw := callbackWindowOf_takeOrder i s
  refine ⟨fun hs hn => ?_, fun l hs hc hw hl hr hp => ?_, fun o e ho => ?_, fun o hs ho => ?_⟩
  · refine cancelCall_through h (ne_idle_of_endsAtOnce hs) ?_
    have hv := cancel_toIdle (s := takeOrder i s) hs (not_watchable (by rwa [hcw])) true
    generalize cancel n true (takeOrder i s) = v at hv
    have hu := completeOrder_spec i .ok [] v
    generalize completeOrder i .ok [] v = u at hu
    refine ⟨hv.ended.congr hts hu.sameCalls, orderDone_of_mem hu.mem, ?_, ?_, ?_, fun a ha hb => ?_, ?_⟩
    · rw [hu.frame]; exact hv.request
    · rw [hu.frame]; exact hv.rescan
    · exact hv.queue.congr (by rw [hu.frame])
    · rw [hu.read (by rw [slotAddr_eq]; omega) (by rw [slotAddr_eq]; omega), hv.outside a ha,
        takeOrder_read i s a (by rw [slotAddr_eq]; omega)]
    · rw [hu.frame, hv.frame]; rfl
  · refine cancelCall_through h (ne_idle_of_endsAtOnce hs) ?_
    have hv := cancel_toWatch (s := takeOrder i s) hs ⟨hc, by rwa [hcw], l, hl, hr⟩
      (fun m hm => by rw [← Option.some.inj (hl.symm.trans hm)]; exact hp) true
    generalize cancel n true (takeOrder i s) = v at hv
    have hu := completeOrder_spec i .ok [] v
    generalize completeOrder i .ok [] v = u at hu
    refine ⟨hv.watch.congr hts hcw hu.sameCalls, hu.completed (bits := 0) ?_ ?_ hv.grows, hu.sameButSlot ?_, ?_, ?_⟩
    · rw [hv.frame]
    · rw [hv.frame, raised_zero]; rfl
    · intro a _; rw [hv.frame]
    · exact hv.queue.congr (by rw [hu.frame])
    · rw [hu.frame, hv.frame]; rfl
  · obtain ⟨hcc, rfl⟩ := cancel_clearing (s := takeOrder i s) ho true
    have hi : (s.ctx n).state ≠ .idle := by
      rcases ho with ⟨-, -, e | e⟩ | ⟨-, -, e⟩ <;> rw [e] <;> decide
    refine cancelCall_through h hi ?_
    rw [hcc]
    have hv := enterClearing_spec n (some o) (takeOrder i s)
    generalize enterClearing n (some o) (takeOrder i s) = v at hv
    have hu := completeOrder_spec i .ok [] v
    generalize completeOrder i .ok [] v = u at hu
    refine ⟨hv.entered.congr hts hu.sameCalls, hu.completed (bits := 0) ?_ ?_ hv.grows, hu.sameButSlot ?_, ?_⟩
    · rw [hv.frame]
    · rw [hv.frame, raised_zero]; rfl
    · intro a _; rw [hv.frame]
    · rw [hu.frame, hv.frame]; rfl
  · refine cancelCall_through h (by rw [hs]; decide) ?_
    have hv := cancel_pending (s := takeOrder i s) hs ho true
    generalize cancel n true (takeOrder i s) = v at hv
    have hu := completeOrder_spec i .ok [] v
    generalize completeOrder i .ok [] v = u at hu
    refine ⟨?_, ?_, hu.completed (bits := 0) ?_ ?_ ?_, hu.sameButSlot ?_, ?_⟩
    · rw [hu.sameCalls.symm.ctx, hv.ctx]; rfl
    · rw [hu.sameCalls.symm.ctx, hv.otherCtx]; rfl
    · rw [hv.frame]
    · rw [hv.frame, raised_zero]; rfl
    · rw [hv.frame]; exact .refl _
    · intro a _; rw [hv.frame]
    · rw [hu.frame, hv.frame]; rfl

/-- Settles O36, by the state of the context: the cancels of O19, with the event taken in the place of the order. -/
theorem cancelEventsEndOrClearTheCall : Obligations.CancelEventsEndOrClearTheCall := by
  intro s n
  have hts := unraise_sameCalls (.cancel n) s
  have hcw : callbackWindowOf (unraise (.cancel n) s) = callbackWindowOf s :=
    callbackWindowOf_congr rfl fun a _ _ => rfl
  refine ⟨fun h => ⟨fun hs => ?_, fun hs hn => ?_, fun l hs hc hw hl hr hp => ?_, fun o e ho => ?_⟩,
    fun h => congrArg Host.Outcome.next (takeEvent_of_not_ready h)⟩
  · refine cancelCpn_through h ?_
    rw [cancel_of_none (s := unraise (.cancel n) s) hs]
    rfl
  · refine cancelCpn_through h ?_
    have hv := cancel_toIdle (s := unraise (.cancel n) s) hs (not_watchable (by rwa [hcw])) false
    generalize cancel n false (unraise (.cancel n) s) = v at hv
    exact ⟨hv.ended.congr hts (.refl v), hv.request, hv.rescan, hv.grows, hv.queue, hv.outside, hv.frame⟩
  · refine cancelCpn_through h ?_
    have hv := cancel_toWatch (s := unraise (.cancel n) s) hs ⟨hc, by rwa [hcw], l, hl, hr⟩
      (fun m hm => by rw [← Option.some.inj (hl.symm.trans hm)]; exact hp) false
    generalize cancel n false (unraise (.cancel n) s) = v at hv
    exact ⟨hv.watch.congr hts hcw (.refl v), hv.grows, hv.queue, hv.frame⟩
  · refine cancelCpn_through h ?_
    obtain ⟨hcc, rfl⟩ := cancel_clearing (s := unraise (.cancel n) s) ho false
    rw [hcc]
    have hv := enterClearing_spec n (some o) (unraise (.cancel n) s)
    generalize enterClearing n (some o) (unraise (.cancel n) s) = v at hv
    exact ⟨hv.entered.congr hts (.refl v), hv.grows, hv.frame⟩

end

end Sys2Proof.Proofs
end

section
namespace Sys2Proof.Machine

/-! ## The ends of the pauses and of the survey wait -/

/-- A context moved to the plan's next step, or to END, where the step index stays (R32, R33, R39). -/
def Context.movedOn (c : Context) (steps : Nat) : Context :=
  { c with
    state := .selecting, stepTimer := none, tries := 0, tried := [], current := none, choice := none, retry := false,
    step := if c.step + 1 < steps then c.step + 1 else c.step, atEnd := decide (steps ≤ c.step + 1) }

/-- A context has changed, with its indications and what the matrix makes of them. -/
structure ContextTurned (s u : State) (n : Cp) (c : Context) : Prop where
  ctx : u.ctx n = c
  otherCtx : u.ctx n.other = s.ctx n.other
  grows : s.matrix.Grows u.matrix
  frame : u = { s with ctxs := u.ctxs, lamps := u.lamps, matrix := u.matrix }

theorem endPauseStep_spec (n : Cp) (s : State) :
    ContextTurned s (endPauseStep n s) n ((s.ctx n).movedOn s.plan.active.length) := by
  unfold endPauseStep stopStep stepMove
  have ha := modCtx_spec n (fun c => { c with stepTimer := none }) s
  generalize modCtx n (fun c => { c with stepTimer := none }) s = a at ha
  have hb := modCtx_spec n (fun c => { c with
    step := (nextTarget s n).getD c.step, atEnd := (nextTarget s n).isNone, tries := 0, tried := [], current := none,
    choice := none, retry := false }) a
  generalize modCtx n _ a = b at hb
  have hu := setState_spec n .selecting b
  generalize setState n .selecting b = u at hu
  have hx : b.matrix = s.matrix := by rw [hb.frame, ha.frame]
  exact {
    ctx := by
      rw [hu.ctx, hb.ctx, ha.ctx, nextTarget, Context.movedOn]
      by_cases h : (s.ctx n).step + 1 < s.plan.active.length
      · simp [h]
      · simp [h, Nat.le_of_not_lt h]
    otherCtx := by rw [hu.otherCtx, hb.otherCtx, ha.otherCtx]
    grows := hx ▸ hu.grows
    frame := by rw [hu.frame, hb.frame, ha.frame] }

/-- The pause at the end of the plan is over (R40). -/
structure RetryPauseEnded (s u : State) (n : Cp) : Prop where
  ctx : u.ctx n = { (s.ctx n).movedOn s.plan.active.length with step := 0, atEnd := false, endPause := false }
  otherCtx : u.ctx n.other = s.ctx n.other
  own : ∀ j, (s.ctx n).record = some j →
    u.record j = { s.record j with passes := min ((s.record j).passes + 1) 65535 }
  others : ∀ k, (s.ctx n).record ≠ some k → u.record k = s.record k
  grows : s.matrix.Grows u.matrix
  frame : u = { s with ctxs := u.ctxs, recs := u.recs, lamps := u.lamps, matrix := u.matrix }

theorem satInc_eq (top n : Nat) : satInc top n = min (n + 1) top := rfl

theorem endRetryPause_spec (n : Cp) (s : State) : RetryPauseEnded s (endRetryPause n s) n := by
  unfold endRetryPause stopStep stepMove
  dsimp only
  have ha := modCtx_spec n (fun c => { c with stepTimer := none }) s
  generalize modCtx n (fun c => { c with stepTimer := none }) s = a at ha
  have hb := modRecord_spec n (fun r => { r with passes := satInc 65535 r.passes }) a
  generalize modRecord n _ a = b at hb
  have hc := modCtx_spec n (fun c => { c with
    step := (some 0).getD c.step, atEnd := (some 0).isNone, tries := 0, tried := [], current := none, choice := none,
    retry := false }) b
  generalize modCtx n _ b = c at hc
  have hd := modCtx_spec n (fun c => { c with endPause := false }) c
  generalize modCtx n _ c = d at hd
  have hu := setState_spec n .selecting d
  generalize setState n .selecting d = u at hu
  have hur : ∀ k, u.record k = b.record k := fun k => by rw [hu.frame, hd.frame, hc.frame]; rfl
  have har : ∀ k, a.record k = s.record k := fun k => by rw [ha.frame]; rfl
  have hx : d.matrix = s.matrix := by rw [hd.frame, hc.frame, hb.frame, ha.frame]
  have hbc : ∀ m, b.ctx m = a.ctx m := fun m => by rw [hb.frame]; rfl
  have harec : (a.ctx n).record = (s.ctx n).record := by rw [ha.ctx]
  exact {
    ctx := by rw [hu.ctx, hd.ctx, hc.ctx, hbc, ha.ctx]; rfl
    otherCtx := by rw [hu.otherCtx, hd.otherCtx, hc.otherCtx, hbc, ha.otherCtx]
    own := fun j hj => by rw [hur, hb.own j (harec.trans hj), har, satInc_eq]
    others := fun k hk => by rw [hur, hb.others k (by rwa [harec]), har]
    grows := hx ▸ hu.grows
    frame := by rw [hu.frame, hd.frame, hc.frame, hb.frame, ha.frame] }

end Sys2Proof.Machine

namespace Sys2Proof.Proofs
open Sys2Proof.Machine

/-- The expiry of a step timer occurs in its state when the timer is up (R27). -/
theorem stepExpired_iff (s : State) (n : Cp) (st : CtxState) :
    stepExpired s n st = true ↔ (s.ctx n).state = st ∧ TimeUp s (s.ctx n).stepTimer := by
  rw [timeUp_iff]
  simp [stepExpired]

/-- Settles O40, by composing the step move with the change of state. -/
theorem pausesEndInSelecting : Obligations.PausesEndInSelecting := by
  intro s n ht
  refine ⟨fun hs he => ?_, fun hs => ?_, fun hs he => ?_⟩
  · have hx := (stepExpired_iff s n .paused).mpr ⟨hs, ht⟩
    have hu := endPauseStep_spec n s
    exact ⟨_, congrArg Host.Outcome.next (if_pos (by rw [hx, he]; rfl)), hu.ctx, hu.otherCtx, hu.grows, hu.frame⟩
  · have hx := (stepExpired_iff s n .surveyWait).mpr ⟨hs, ht⟩
    have hu := endPauseStep_spec n (dropRescan n s)
    refine ⟨_, congrArg Host.Outcome.next (if_pos hx), hu.ctx, hu.otherCtx, hu.grows, ?_, ?_⟩
    · rw [endSurveyWait, hu.frame]; rfl
    · rw [endSurveyWait, hu.frame]; rfl
  · have hx := (stepExpired_iff s n .paused).mpr ⟨hs, ht⟩
    have hu := endRetryPause_spec n s
    exact ⟨_, congrArg Host.Outcome.next (if_pos (by rw [hx, he]; rfl)), hu.ctx, hu.otherCtx, hu.own, hu.others,
      hu.grows, hu.frame⟩

end Sys2Proof.Proofs
end

section
namespace Sys2Proof.Machine

/-! ## An outcome in the network table -/

/-- The table has been published (R57, R58). -/
structure TablePublished (s u : State) (t : List Entry) : Prop where
  table : u.table = ordered t
  outside : SameOutside s u 0x700 0x300
  port : u.port = raised s.port 0x08
  grows : s.matrix.Grows u.matrix
  frame : u = { s with table := u.table, mem := u.mem, port := u.port, matrix := u.matrix }

theorem publishTable_spec (t : List Entry) (s : State) : TablePublished s (publishTable t s) t := by
  generalize hv : (s.withTable (ordered t)).withMem
    (s.mem.rewrite Config.mirrorBase mirrorSize (mirrorContent (ordered t))) = v
  have hu := raise_spec .table v
  have e : publishTable t s = raise .table v := by rw [← hv]; rfl
  rw [e]
  generalize raise .table v = u at hu
  have hvf : v = { s with table := v.table, mem := v.mem } := by rw [← hv]; rfl
  have hx : v.matrix = s.matrix := by rw [hvf]
  exact {
    table := by rw [hu.frame, ← hv]; rfl
    outside := fun a ha => by
      rw [hu.frame, ← hv]
      exact Memory.read_rewrite_outside _ _ _ _ _ (by show a < 0x700 ∨ 0x700 + 0x300 ≤ a; omega)
    port := by rw [hu.port, hvf]; rfl
    grows := hx ▸ hu.grows
    frame := by rw [hu.frame, hvf] }

/-- An outcome that is not CONNECTED, in an entry (R63, R66). -/
theorem applyToEntry_of_ne {o : CallOutcome} (h : o ≠ .connected) (s : State) (e : Entry) :
    applyToEntry s o e = { e with
      last := some o, fails := if o.addsFail then min (e.fails + 1) 15 else e.fails,
      failChange := if o.addsFail then s.now else e.failChange,
      barred := if o.cls = .bar then some (later s.now (barTimeOf s)) else e.barred } := by
  unfold applyToEntry
  dsimp only
  rw [if_neg h]
  by_cases ha : o.addsFail = true <;> by_cases hb : o.cls = .bar <;> simp [ha, hb, satInc_eq]

/-- What the table takes of an outcome is read of the table, the time and the bar time alone. -/
theorem tableTakes_congr {s t u v : State} {k : Option CandKey} {o : CallOutcome} (hs : s.table = t.table)
    (ht : s.time = t.time) (hb : barTimeOf s = barTimeOf t) (hu : u.table = v.table) (h : TableTakes s u k o) :
    TableTakes t v k o := by
  unfold TableTakes at h ⊢
  rwa [← hs, ← ht, ← hb, ← hu]

/-- An attempt's outcome has gone to its candidate's entry, if the candidate has one (R63). -/
structure OutcomeTabled (s u : State) (k : Option CandKey) (o : CallOutcome) : Prop where
  takes : TableTakes s u k o
  outside : SameOutside s u 0x700 0x300
  port : u.port = s.port ∨ u.port = raised s.port 0x08
  grows : s.matrix.Grows u.matrix
  frame : u = { s with table := u.table, mem := u.mem, port := u.port, matrix := u.matrix }

theorem OutcomeTabled.of_absent {s : State} {k : Option CandKey} (h : ∀ e ∈ s.table, some e.key ≠ k)
    (o : CallOutcome) : OutcomeTabled s s k o where
  takes := ⟨rfl, fun _ he _ => he, fun e he hk => absurd hk (h e he)⟩
  outside := fun _ _ => rfl
  port := .inl rfl
  grows := .refl _
  frame := rfl

theorem changeEntry_spec (k : CandKey) {o : CallOutcome} (hc : o ≠ .connected) (s : State) :
    OutcomeTabled s (changeEntry k (applyToEntry s o) s) (some k) o := by
  unfold changeEntry
  by_cases hs : (s.entry k).isSome = true
  · rw [if_pos hs]
    have hu := publishTable_spec (s.table.map fun e => if e.key = k then scored s (applyToEntry s o e) else e) s
    generalize publishTable _ s = u at hu
    have hm : ∀ e ∈ s.table, (if e.key = k then scored s (applyToEntry s o e) else e) ∈ u.table := fun e he => by
      rw [hu.table]
      exact (ordered_perm _).mem_iff.mpr (List.mem_map_of_mem he)
    exact {
      takes := by
        refine ⟨by rw [hu.table, (ordered_perm _).length_eq, List.length_map], fun e he hk => ?_, fun e he hk => ?_⟩
        · have h := hm e he
          rwa [if_neg fun ek => hk (congrArg some ek)] at h
        · have h := hm e he
          rw [if_pos (Option.some.inj hk), applyToEntry_of_ne hc] at h
          exact ⟨_, h, rfl, rfl, rfl, rfl, rfl, rfl, rfl, rfl, rfl⟩
      outside := hu.outside
      port := .inr hu.port
      grows := hu.grows
      frame := hu.frame }
  · rw [if_neg hs]
    refine .of_absent (fun e he hk => hs ?_) o
    rw [State.entry, List.find?_isSome]
    exact ⟨e, he, decide_eq_true (Option.some.inj hk)⟩

theorem outcomeToTable_spec (k : Option CandKey) {o : CallOutcome} (ht : o.cls ≠ .terminal) (hl : o ≠ .laneFault)
    (hc : o ≠ .connected) (s : State) : OutcomeTabled s (outcomeToTable k o s) k o := by
  unfold outcomeToTable
  cases k with
  | none => exact .of_absent (fun _ _ => Option.some_ne_none _) o
  | some k =>
    dsimp only
    rw [if_neg (not_or.mpr ⟨ht, hl⟩)]
    exact changeEntry_spec k hc s

/-! ## A call cleared by a timer -/

/-- An attempt in DIALLING or ALERTING is over with an outcome that the call's CLEARING leaves pending (R41, R43, R46). -/
structure AttemptCleared (s u : State) (n : Cp) (o : CallOutcome) : Prop where
  entered : ClearingEntered s u n (some o) (some o)
  takes : TableTakes s u (s.ctx n).current o
  outside : SameOutside s u 0x700 0x300
  port : u.port = s.port ∨ u.port = raised s.port 0x08
  grows : s.matrix.Grows u.matrix
  frame : u = { s with
    ctxs := u.ctxs, recs := u.recs, table := u.table, link := u.link, lamps := u.lamps, port := u.port, mem := u.mem,
    matrix := u.matrix }

theorem clearingOutcome_spec {n : Cp} {s : State} (hs : (s.ctx n).state ≠ .connected) {o : CallOutcome}
    (ht : o.cls ≠ .terminal) (hl : o ≠ .laneFault) (hc : o ≠ .connected) :
    AttemptCleared s (clearingOutcome n o s) n o := by
  unfold clearingOutcome
  have ha := outcomeToTable_spec (s.ctx n).current ht hl hc s
  generalize outcomeToTable (s.ctx n).current o s = a at ha
  have hb := endAttempt_spec n o a
  generalize endAttempt n o a = b at hb
  have hac : ∀ m, a.ctx m = s.ctx m := fun m => by rw [ha.frame]; rfl
  have har : ∀ k, a.record k = s.record k := fun k => by rw [ha.frame]; rfl
  have hbc : b.ctx n = { s.ctx n with attempt := none } := by rw [hb.ctx, hac]
  have hbs : (b.ctx n).state ≠ .connected := by rwa [hbc]
  have hh := enterClearing_hangup n (some o) b
  rw [leaveConnected_of_ne hbs] at hh
  generalize enterClearing n (some o) b = u at hh
  have hur : ∀ k, u.record k = b.record k := fun k => by rw [hh.frame]; rfl
  have hnow : a.now = s.now := by rw [ha.frame]; rfl
  have hown : ∀ j, (s.ctx n).record = some j → u.record j = { s.record j with
      history := endedHistory s.now (s.ctx n).attempt o (s.record j).history } := fun j hj => by
    rw [hur, hb.own j (by rw [hac, hj]), hac, hnow, har]
  have hothers : ∀ k, (s.ctx n).record ≠ some k → u.record k = s.record k := fun k hk => by
    rw [hur, hb.others k (by rwa [hac]), har]
  have hum : u.mem = a.mem := by rw [hh.frame, hb.frame]
  have hut : u.table = a.table := by rw [hh.frame, hb.frame]
  have hup : u.port = a.port := by rw [hh.frame, hb.frame]
  exact {
    entered := {
      ctx := by rw [hh.ctx, hbc, if_neg hs]; rfl
      otherCtx := by rw [hh.otherCtx, hb.otherCtx, hac]
      request := fun l hl => hh.request l (by rw [hbc, hl])
      otherRequest := by rw [hh.otherRequest, hb.frame, ha.frame]
      voice := by rw [if_neg hs, hh.frame, hb.frame, ha.frame]
      records := fun k => by
        by_cases hk : (s.ctx n).record = some k
        · rw [hown k hk]
        · rw [hothers k hk]
      others := hothers
      goesOn := fun e => nomatch e
      ends := fun p hp => by
        obtain rfl := Option.some.inj hp
        exact attemptEnded_of (by rw [hh.ctx, hbc]) fun j hj => by rw [hown j hj] }
    takes := tableTakes_congr rfl rfl rfl hut.symm ha.takes
    outside := fun x hx => by rw [hum, ha.outside x hx]
    port := by rw [hup]; exact ha.port
    grows := by
      have e : b.matrix = a.matrix := by rw [hb.frame]
      exact ha.grows.trans (e ▸ hh.grows)
    frame := by rw [hh.frame, hb.frame, ha.frame] }

end Sys2Proof.Machine

namespace Sys2Proof.Proofs
open Sys2Proof.Machine

/-- Settles O39, by the two timers, whose clearing is the same but for the state and the outcome. -/
theorem alertAndRingTimeoutsClearTheCall : Obligations.AlertAndRingTimeoutsClearTheCall := by
  intro s n c o hc
  have he : ∃ st, (s.ctx n).state = st ∧ st ≠ .connected
      ∧ exec c s = .next (onEvent (stepExpired s n st) (clearingOutcome n o) s)
      ∧ o.cls ≠ .terminal ∧ o ≠ .laneFault ∧ o ≠ .connected := by
    rcases hc with ⟨rfl, rfl, hs⟩ | ⟨rfl, rfl, hs⟩
    · exact ⟨_, hs, by decide, rfl, by decide, by decide, by decide⟩
    · exact ⟨_, hs, by decide, rfl, by decide, by decide, by decide⟩
  obtain ⟨st, hs, hne, hx, ho1, ho2, ho3⟩ := he
  refine ⟨fun ht => ?_, fun ht => ?_⟩
  · have hu := clearingOutcome_spec (hs ▸ hne) ho1 ho2 ho3
    refine ⟨_, hx.trans (congrArg Host.Outcome.next (if_pos ((stepExpired_iff s n st).mpr ⟨hs, ht⟩))), ?_⟩
    exact ⟨hu.entered, hu.takes, hu.outside, hu.port, hu.grows, hu.frame⟩
  · exact hx.trans (congrArg Host.Outcome.next (if_neg fun e => ht ((stepExpired_iff s n st).mp e).2))

end Sys2Proof.Proofs
end

section
namespace Sys2Proof.Machine

/-! ## The classes of outcomes -/

/-- A context moved to a step, or to END, where the step index stays (R32, R33). -/
def Context.movedTo (target : Option Nat) (c : Context) : Context :=
  { c with step := target.getD c.step, atEnd := target.isNone, tries := 0, tried := [], current := none,
           choice := none, retry := false }

/-- A context whose candidate has joined the tried set (R44, R45). -/
def Context.joined (c : Context) : Context :=
  { c with tried := c.tried ++ c.choice.toList.filter (fun x => !c.tried.any (fun y => decide (y = x))),
           current := none, choice := none, retry := false }

/-- A context after the class of an outcome has acted on its step (R44, R45). -/
def Context.classed (o : CallOutcome) (a : AttemptStep) (c : Context) : Context :=
  match o.cls with
  | .retry => if c.tries < a.tries then { c with retry := true } else c.movedTo a.failTarget
  | .next => if c.tries < a.tries then c.joined else c.joined.movedTo a.failTarget
  | .bar => if c.tries < a.tries then c.joined else c.joined.movedTo a.failTarget
  | .advance => c.movedTo a.failTarget
  | .success => c
  | .terminal => c

theorem CtxChanged.trans {s t u : State} {n : Cp} {f g : Context → Context} (h : CtxChanged s t n f)
    (k : CtxChanged t u n g) : CtxChanged s u n (g ∘ f) :=
  ⟨by rw [k.ctx, h.ctx]; rfl, k.otherCtx.trans h.otherCtx, by rw [k.frame, h.frame]⟩

theorem CtxChanged.of_eq {s u : State} {n : Cp} {f g : Context → Context} (h : CtxChanged s u n f)
    (e : f (s.ctx n) = g (s.ctx n)) : CtxChanged s u n g := ⟨h.ctx.trans e, h.otherCtx, h.frame⟩

theorem stepMove_spec (n : Cp) (target : Option Nat) (s : State) :
    CtxChanged s (stepMove n target s) n (Context.movedTo target) := modCtx_spec _ _ _

theorem joinTried_spec (n : Cp) (s : State) : CtxChanged s (joinTried n s) n Context.joined := modCtx_spec _ _ _

theorem attemptStep_of_onStep {s : State} {n : Cp} {a : AttemptStep} (h : OnStep s n a) : attemptStep s n = some a := by
  unfold attemptStep
  rcases h with h | h <;> rw [h]

theorem classStep_spec {n : Cp} {s : State} {a : AttemptStep} (h : OnStep s n a) (o : CallOutcome) :
    CtxChanged s (classStep n o s) n (Context.classed o a) := by
  unfold classStep
  rw [attemptStep_of_onStep h]
  simp only [Option.map_some, Option.getD_some, Option.bind_some, decide_eq_true_eq]
  have hmove := stepMove_spec n a.failTarget s
  have hjoin := joinTried_spec n s
  have hboth := hjoin.trans (stepMove_spec n a.failTarget (joinTried n s))
  cases hc : o.cls with
  | retry =>
    dsimp only
    split
    case isTrue hr => exact (modCtx_spec n _ s).of_eq (by simp only [Context.classed, hc, if_pos hr])
    case isFalse hr => exact hmove.of_eq (by simp only [Context.classed, hc, if_neg hr])
  | next =>
    dsimp only
    split
    case isTrue hr => exact hjoin.of_eq (by simp only [Context.classed, hc, if_pos hr])
    case isFalse hr => exact hboth.of_eq (by simp only [Context.classed, hc, if_neg hr, Function.comp])
  | bar =>
    dsimp only
    split
    case isTrue hr => exact hjoin.of_eq (by simp only [Context.classed, hc, if_pos hr])
    case isFalse hr => exact hboth.of_eq (by simp only [Context.classed, hc, if_neg hr, Function.comp])
  | advance => exact hmove.of_eq (by simp only [Context.classed, hc])
  | success => exact ⟨by simp only [Context.classed, hc], rfl, rfl⟩
  | terminal => exact ⟨by simp only [Context.classed, hc], rfl, rfl⟩

section
variable {o : CallOutcome} {a : AttemptStep} (c : Context)

/-- The class of an outcome acts on the step and its tries alone. -/
theorem Context.classed_frame : c.classed o a = { c with
    step := (c.classed o a).step, tries := (c.classed o a).tries, tried := (c.classed o a).tried,
    current := (c.classed o a).current, choice := (c.classed o a).choice, retry := (c.classed o a).retry,
    atEnd := (c.classed o a).atEnd } := by
  unfold Context.classed
  cases o.cls with
  | retry => dsimp only; split <;> rfl
  | next => dsimp only; split <;> rfl
  | bar => dsimp only; split <;> rfl
  | advance => rfl
  | success => rfl
  | terminal => rfl

theorem Context.classed_stays (ho : o.cls ≠ .advance) (h : c.tries < a.tries) :
    (c.classed o a).step = c.step ∧ (c.classed o a).tries = c.tries ∧ (c.classed o a).atEnd = c.atEnd := by
  unfold Context.classed
  cases hc : o.cls with
  | advance => exact absurd hc ho
  | retry => simp only [if_pos h, and_self]
  | next => simp only [if_pos h]; exact ⟨rfl, rfl, rfl⟩
  | bar => simp only [if_pos h]; exact ⟨rfl, rfl, rfl⟩
  | success => exact ⟨rfl, rfl, rfl⟩
  | terminal => exact ⟨rfl, rfl, rfl⟩

theorem Context.classed_of_retry (ho : o.cls = .retry) (h : c.tries < a.tries) :
    c.classed o a = { c with retry := true } := by
  simp only [Context.classed, ho, if_pos h]

theorem Context.classed_of_next_or_bar (ho : o.cls = .next ∨ o.cls = .bar) (h : c.tries < a.tries) :
    c.classed o a = c.joined := by
  rcases ho with ho | ho <;> simp only [Context.classed, ho, if_pos h]

theorem Context.mem_joined_tried (x) : x ∈ c.joined.tried ↔ x ∈ c.tried ∨ c.choice = some x := by
  unfold Context.joined
  rw [List.mem_append, List.mem_filter, Option.mem_toList]
  by_cases hx : x ∈ c.tried
  · simp [hx]
  · have hne : ∀ y ∈ c.tried, y ≠ x := fun y hy e => hx (e ▸ hy)
    simpa [hx] using fun _ => hne

/-- A step without a try left, and any step at an ADVANCE, is left for its fail target (R44, R45). -/
theorem Context.classed_moved (hs : o.cls ≠ .success) (ht : o.cls ≠ .terminal)
    (h : o.cls = .advance ∨ a.tries ≤ c.tries) :
    (c.classed o a).step = a.failTarget.getD c.step ∧ (c.classed o a).atEnd = a.failTarget.isNone
      ∧ (c.classed o a).tries = 0 ∧ (c.classed o a).tried = [] ∧ (c.classed o a).current = none
      ∧ (c.classed o a).choice = none := by
  have hn : o.cls ≠ .advance → ¬c.tries < a.tries := fun hne => by
    have := h.resolve_left hne
    omega
  unfold Context.classed
  cases hc : o.cls with
  | advance => exact ⟨rfl, rfl, rfl, rfl, rfl, rfl⟩
  | success => exact absurd hc hs
  | terminal => exact absurd hc ht
  | retry =>
    simp only [if_neg (hn (by rw [hc]; decide))]
    exact ⟨rfl, rfl, rfl, rfl, rfl, rfl⟩
  | next =>
    simp only [if_neg (hn (by rw [hc]; decide))]
    exact ⟨rfl, rfl, rfl, rfl, rfl, rfl⟩
  | bar =>
    simp only [if_neg (hn (by rw [hc]; decide))]
    exact ⟨rfl, rfl, rfl, rfl, rfl, rfl⟩

end

/-! ## The end of an attempt on its step -/

/-- An attempt is over, and its outcome has acted on the step; nothing of the table or the link is in it (R41 to R45). -/
structure OutcomeSettled (s u : State) (n : Cp) (o : CallOutcome) (a : AttemptStep) : Prop where
  applied : OutcomeApplied s u n o a
  stepTimer : (u.ctx n).stepTimer = (s.ctx n).stepTimer
  grows : s.matrix.Grows u.matrix
  frame : u = { s with ctxs := u.ctxs, recs := u.recs, lamps := u.lamps, matrix := u.matrix }

theorem settleOutcome_spec {n : Cp} {s : State} {a : AttemptStep} (h : OnStep s n a) {o : CallOutcome}
    (hs : o.cls ≠ .success) (ht : o.cls ≠ .terminal) : OutcomeSettled s (settleOutcome n o s) n o a := by
  unfold settleOutcome setLast
  have hp := modRecord_spec n (fun r => { r with last := some o }) s
  generalize modRecord n _ s = p at hp
  have hq := endAttempt_spec n o p
  generalize endAttempt n o p = q at hq
  have hpc : ∀ m, p.ctx m = s.ctx m := fun m => by rw [hp.frame]; rfl
  have hqc : q.ctx n = { s.ctx n with attempt := none } := by rw [hq.ctx, hpc]
  have hqplan : q.plan = s.plan := by rw [hq.frame, hp.frame]
  have hstep : OnStep q n a := by unfold OnStep; rw [hqplan, hqc]; exact h
  have hr := classStep_spec hstep o
  generalize classStep n o q = r at hr
  dsimp only
  have hu := setState_spec n (if (r.ctx n).stepHold then .held else .selecting) r
  generalize setState n _ r = u at hu
  generalize hc : ({ s.ctx n with attempt := none } : Context) = c at hqc
  have hrc : r.ctx n = c.classed o a := by rw [hr.ctx, hqc]
  have hhold : (r.ctx n).stepHold = (s.ctx n).stepHold := by rw [hrc, c.classed_frame, ← hc]
  have huc : u.ctx n = { c.classed o a with state := if (s.ctx n).stepHold then .held else .selecting } := by
    rw [hu.ctx, hhold, hrc]
  have hur : ∀ k, u.record k = q.record k := fun k => by rw [hu.frame, hr.frame]; rfl
  have hnow : p.now = s.now := by rw [hp.frame]; rfl
  have hown : ∀ j, (s.ctx n).record = some j → u.record j = { s.record j with
      last := some o, history := endedHistory s.now (s.ctx n).attempt o (s.record j).history } := fun j hj => by
    rw [hur, hq.own j (by rw [hpc, hj]), hp.own j hj, hpc, hnow]
  have hkept : (u.ctx n).attempt = none ∧ (u.ctx n).stepTimer = (s.ctx n).stepTimer
      ∧ (u.ctx n).lane = (s.ctx n).lane ∧ (u.ctx n).record = (s.ctx n).record ∧ (u.ctx n).kind = (s.ctx n).kind
      ∧ (u.ctx n).stepHold = (s.ctx n).stepHold ∧ (u.ctx n).connectedOnce = (s.ctx n).connectedOnce := by
    rw [huc, c.classed_frame, ← hc]
    exact ⟨rfl, rfl, rfl, rfl, rfl, rfl, rfl⟩
  obtain ⟨hattempt, htimer, hrest⟩ := hkept
  exact {
    applied := {
      state := by rw [huc]
      attempt := attemptEnded_of hattempt fun j hj => by rw [hown j hj]
      kept := hrest
      otherCtx := by rw [hu.otherCtx, hr.otherCtx, hq.otherCtx, hpc]
      last := fun j hj => by rw [hown j hj]; exact ⟨rfl, rfl, rfl⟩
      others := fun k hk => by rw [hur, hq.others k (by rwa [hpc]), hp.others k hk]
      stays := fun ho hn => by
        rw [huc]
        subst hc
        exact Context.classed_stays _ ho hn
      retried := fun ho hn => by
        rw [huc, c.classed_of_retry ho (by rw [← hc]; exact hn), ← hc]
        exact ⟨rfl, rfl, rfl, rfl⟩
      tried := fun ho hn => by
        rw [huc, c.classed_of_next_or_bar ho (by rw [← hc]; exact hn), ← hc]
        exact ⟨rfl, rfl, Context.mem_joined_tried _⟩
      moved := fun ho => by
        rw [huc]
        subst hc
        exact Context.classed_moved _ hs ht ho }
    stepTimer := htimer
    grows := by
      have e : r.matrix = s.matrix := by rw [hr.frame, hq.frame, hp.frame]
      exact e ▸ hu.grows
    frame := by rw [hu.frame, hr.frame, hq.frame, hp.frame] }

/-- The claimed lane's tag is stale and its camp record absent (R42, R97). -/
structure ClaimUncamped (s u : State) (n : Cp) : Prop where
  own : ∀ l, (s.ctx n).lane = some l → u.lane l = { s.lane l with outTag := none, camp := none }
  others : ∀ m, (s.ctx n).lane ≠ some m → u.lane m = s.lane m
  frame : u = { s with lanes := u.lanes }

theorem uncamp_spec (n : Cp) (s : State) : ClaimUncamped s (clearCamp n (staleClaim n s)) n := by
  unfold clearCamp staleClaim
  cases h : (s.ctx n).lane with
  | none =>
    dsimp only
    rw [h]
    exact ⟨fun l hl => (nomatch h.symm.trans hl), fun _ _ => rfl, rfl⟩
  | some l =>
    have hl : ((staleTag l s).ctx n).lane = some l := h
    dsimp only
    rw [hl]
    dsimp only
    refine ⟨fun m hm => ?_, fun m hm => ?_, rfl⟩
    · obtain rfl := Option.some.inj (h.symm.trans hm)
      rw [setCamp, modLane_lane_same, staleTag, modLane_lane_same]
    · have hne : m ≠ l := fun e => hm (by rw [h, e])
      rw [setCamp, modLane_lane_of_ne hne, staleTag, modLane_lane_of_ne hne]

/-- What a context asked of the link is given up, and its step timer has stopped (R27, R101). -/
structure AskingStopped (s u : State) (n : Cp) : Prop where
  ctx : u.ctx n = { s.ctx n with stepTimer := none }
  otherCtx : u.ctx n.other = s.ctx n.other
  request : u.link.ctxReq.get n = none
  frame : u = { s with ctxs := u.ctxs, link := u.link }

theorem stopAsking_spec (n : Cp) (s : State) : AskingStopped s (stopStep n (dropRequest n s)) n where
  ctx := modCtx_ctx _ _ _
  otherCtx := modCtx_ctx_other _ _ _
  request := Duo.get_set_same _ _ _
  frame := rfl

/-- An outcome has ended an attempt, in the table and on the step (R41 to R45, R63). -/
structure AttemptSettled (s u : State) (n : Cp) (o : CallOutcome) (a : AttemptStep) : Prop where
  applied : OutcomeApplied s u n o a
  stepTimer : (u.ctx n).stepTimer = none
  takes : TableTakes s u (s.ctx n).current o
  request : u.link.ctxReq.get n = none
  outside : SameOutside s u 0x700 0x300
  port : u.port = s.port ∨ u.port = raised s.port 0x08
  grows : s.matrix.Grows u.matrix
  frame : u = { s with
    ctxs := u.ctxs, recs := u.recs, table := u.table, link := u.link, lamps := u.lamps, port := u.port, mem := u.mem,
    matrix := u.matrix }

/-- What the rules on an outcome's class read of a state before the attempt ends. -/
theorem outcomeApplied_of_read {s t u : State} {n : Cp} {o : CallOutcome} {a : AttemptStep}
    {timer : Option Seconds} (h : OutcomeApplied t u n o a) (hc : t.ctx n = { s.ctx n with stepTimer := timer }) (ho : t.ctx n.other = s.ctx n.other) (hr : t.recs = s.recs)
    (ht : t.time = s.time) : OutcomeApplied s u n o a := by
  have hrec : ∀ k, t.record k = s.record k := fun k => by unfold State.record; rw [hr]
  obtain ⟨h1, h2, h3, h4, h5, h6, h7, h8, h9, h10⟩ := h
  unfold AttemptEnded at h2
  simp only [hc, ho, hrec, ht] at *
  exact ⟨h1, h2, h3, h4, h5, h6, h7, h8, h9, h10⟩

theorem applyOutcome_spec {n : Cp} {s : State} {a : AttemptStep} (h : OnStep s n a) {o : CallOutcome}
    (hs : o.cls ≠ .success) (ht : o.cls ≠ .terminal) (hl : o ≠ .laneFault) (hc : o ≠ .connected) :
    AttemptSettled s (applyOutcome n o s) n o a := by
  unfold applyOutcome
  have hb := stopAsking_spec n s
  generalize stopStep n (dropRequest n s) = b at hb
  have hd := outcomeToTable_spec (s.ctx n).current ht hl hc b
  generalize outcomeToTable (s.ctx n).current o b = d at hd
  have hdc : ∀ m, d.ctx m = b.ctx m := fun m => by rw [hd.frame]; rfl
  have hdplan : d.plan = s.plan := by rw [hd.frame, hb.frame]
  have hstep : OnStep d n a := by unfold OnStep; rw [hdplan, hdc, hb.ctx]; exact h
  have hu := settleOutcome_spec hstep hs ht
  generalize settleOutcome n o d = u at hu
  have hul : u.link = b.link := by rw [hu.frame, hd.frame]
  have hum : u.mem = d.mem := by rw [hu.frame]
  have hup : u.port = d.port := by rw [hu.frame]
  have hbm : b.mem = s.mem := by rw [hb.frame]
  have hbp : b.port = s.port := by rw [hb.frame]
  have hbx : b.matrix = s.matrix := by rw [hb.frame]
  exact {
    applied := outcomeApplied_of_read hu.applied (by rw [hdc, hb.ctx]) (by rw [hdc, hb.otherCtx]) (by rw [hd.frame, hb.frame])
      (by rw [hd.frame, hb.frame])
    stepTimer := by rw [hu.stepTimer, hdc, hb.ctx]
    takes := tableTakes_congr (by rw [hb.frame]) (by rw [hb.frame]) (by rw [hb.frame]; rfl) (by rw [hu.frame]) hd.takes
    request := by rw [hul, hb.request]
    outside := fun x hx => by rw [hum, hd.outside x hx, hbm]
    port := by rw [hup, ← hbp]; exact hd.port
    grows := by rw [← hbx]; exact hd.grows.trans hu.grows
    frame := by rw [hu.frame, hd.frame, hb.frame] }

end Sys2Proof.Machine
namespace Sys2Proof.Proofs
open Sys2Proof.Machine

/-- Settles O38, by the lane's part of the timeout and then NO_SERVICE, an outcome of class BAR. -/
theorem attachTimeoutEndsTheAttempt : Obligations.AttachTimeoutEndsTheAttempt := by
  intro s n a
  refine ⟨fun hs ht h => ?_, fun hx =>
    congrArg Host.Outcome.next (if_neg ((stepExpired_iff s n .attaching).not.mpr hx))⟩
  refine ⟨_, congrArg Host.Outcome.next (if_pos ((stepExpired_iff s n .attaching).mpr ⟨hs, ht⟩)), ?_⟩
  dsimp only
  have hb := uncamp_spec n s
  generalize clearCamp n (staleClaim n s) = b at hb
  have hbc : ∀ m, b.ctx m = s.ctx m := fun m => by rw [hb.frame]; rfl
  have hstep : OnStep b n a := by
    have e : b.plan = s.plan := by rw [hb.frame]
    unfold OnStep
    rw [e, hbc]
    exact h
  have hu := applyOutcome_spec hstep (o := .noService) (by decide) (by decide) (by decide) (by decide)
  generalize applyOutcome n .noService b = u at hu
  have hul : ∀ m, u.lane m = b.lane m := fun m => by rw [hu.frame]; rfl
  have hbtime : b.time = s.time := by rw [hb.frame]
  have hbm : b.mem = s.mem := by rw [hb.frame]
  have hbp : b.port = s.port := by rw [hb.frame]
  have hbx : b.matrix = s.matrix := by rw [hb.frame]
  refine ⟨outcomeApplied_of_read hu.applied (timer := (s.ctx n).stepTimer) (hbc n) (hbc _) (by rw [hb.frame]) hbtime,
    hu.stepTimer, ?_, fun l hl => by rw [hul, hb.own l hl], fun m hm => by rw [hul, hb.others m hm], hu.request,
    fun x hx => by rw [hu.outside x hx, hbm], by rw [← hbp]; exact hu.port, ?_, by rw [hu.frame, hb.frame]⟩
  · rw [← hbc]
    exact tableTakes_congr (by rw [hb.frame]) hbtime (by rw [hb.frame]; rfl) rfl hu.takes
  · have k := hu.grows
    rwa [hbx] at k

end Sys2Proof.Proofs
end

section
namespace Sys2Proof.Machine

/-! ## The record that a call request gets -/

theorem recordIndexes_eq : recordIndexes = List.finRange 12 := by decide

/-- The first FREE record is chosen (R138). -/
theorem chooseRecord_of_free {s : State} {j : Fin 12} (h : (s.record j).state = .free)
    (hlt : ∀ k, k < j → (s.record k).state ≠ .free) : chooseRecord s = some j := by
  have hf : recordIndexes.find? (fun i => decide ((s.record i).state = .free)) = some j := by
    rw [recordIndexes_eq, List.find?_eq_some_iff_getElem]
    refine ⟨decide_eq_true h, j.val, by simp, by simp, fun k hk => ?_⟩
    have hk12 : k < 12 := by omega
    simpa using hlt ⟨k, hk12⟩ hk
  unfold chooseRecord
  rw [hf]

/-- Without a FREE record, the first CLOSED TEST record of the close order is chosen, else the first of all (R138). -/
theorem chooseRecord_of_full {s : State} {j : Fin 12} (h : ∀ k, (s.record k).state ≠ .free)
    (hj : s.recs.closeOrder.find? (fun k => decide ((s.record k).kind = .test)) = some j
      ∨ (∀ k ∈ s.recs.closeOrder, (s.record k).kind ≠ .test) ∧ s.recs.closeOrder.head? = some j) :
    chooseRecord s = some j := by
  have hf : recordIndexes.find? (fun i => decide ((s.record i).state = .free)) = none :=
    List.find?_eq_none.mpr fun k _ => by simpa using h k
  unfold chooseRecord
  rw [hf]
  rcases hj with hj | ⟨hn, hj⟩
  · simp only [hj]
  · have hn' : s.recs.closeOrder.find? (fun k => decide ((s.record k).kind = .test)) = none :=
      List.find?_eq_none.mpr fun k hk => by simpa using hn k hk
    simp only [hn', hj]

end Sys2Proof.Machine

namespace Sys2Proof
open Machine

section
variable {s t u v : State} {n : Cp}

theorem CallStarted.congr {kind : CallKind} {source : CallSource} {number : Option (Fin 4)} {hold : Bool} {j : Fin 12}
    {closing : Option (Fin 12)} (hs : SameCalls s t)
    (hms : s.mem.num (0x1000 + 256 * j.val) 2 = t.mem.num (0x1000 + 256 * j.val) 2) (hu : SameCalls u v)
    (hmu : u.mem.num (0x1000 + 256 * j.val) 2 = v.mem.num (0x1000 + 256 * j.val) 2)
    (h : CallStarted s u n kind source number hold j closing) :
    CallStarted t v n kind source number hold j closing where
  ctx := by simpa only [hs.ctx, hu.ctx] using h.ctx
  otherCtx := by simpa only [hs.ctx, hu.ctx] using h.otherCtx
  record := by simpa only [hs.ctx, hs.recs, hs.time, hu.record] using h.record
  others := by simpa only [hs.record, hu.record] using h.others
  seq := by simpa only [hs.recs, hu.recs] using h.seq
  revision := by rw [← hms, ← hmu]; exact h.revision
  lamps := by simpa only [hs.time, hu.lamps] using h.lamps
  otherLamps := by simpa only [hs.lamps, hu.lamps] using h.otherLamps

theorem WatchClosed.congr {r : Fin 12} (hs : SameCalls s t)
    (hms : s.mem.num (0x1000 + 256 * r.val) 2 = t.mem.num (0x1000 + 256 * r.val) 2) (hu : SameCalls u v)
    (hmu : u.mem.num (0x1000 + 256 * r.val) 2 = v.mem.num (0x1000 + 256 * r.val) 2) (h : WatchClosed s u r) :
    WatchClosed t v r := by
  unfold WatchClosed at h ⊢
  rw [← hms, ← hmu]
  simpa only [hs.record, hs.time, hs.recs, hu.record, hu.recs] using h

end

end Sys2Proof

namespace Sys2Proof.Machine

/-! ## A call request -/

section
variable {s u : State} {n : Cp} {kind : CallKind} {source : CallSource} {number : Option (Fin 4)} {hold : Bool}
  {j : Fin 12}

/-- The lamps flash from the start of a call out of a state in which they were dark (R118). -/
theorem lampsFor_selecting {old : CtxState} (h : old.flashes = false) (ms : Nat) (p : Lamps) :
    lampsFor ms old .selecting p = { flash := some ⟨true, ms + 500⟩, ringer := none } := by
  unfold lampsFor
  rw [h]
  rfl

theorem CallOpened.started (h : CallOpened s u n kind source number hold j) (hs : (s.ctx n).state.flashes = false) :
    CallStarted s u n kind source number hold j none where
  ctx := h.ctx
  otherCtx := h.otherCtx
  record := h.record
  others := fun k hk _ => h.others k hk
  seq := h.seq
  revision := h.revision
  lamps := h.lamps.trans (lampsFor_selecting hs _ _)
  otherLamps := h.otherLamps

/-- A call opened in a FREE record leaves the close order and the counters (R138). -/
theorem CallOpened.of_free (h : CallOpened s u n kind source number hold j) (hj : (s.record j).state = .free) :
    u.recs.closeOrder = s.recs.closeOrder ∧ u.counters = s.counters := by
  rw [h.closeOrder, h.counters, hj]
  exact ⟨rfl, rfl⟩

/-- A watch has ended and a call has started in its place, the claim carried over (R5, R144). -/
structure WatchReplaced (s u : State) (n : Cp) (kind : CallKind) (source : CallSource) (number : Option (Fin 4))
    (hold : Bool) (j r : Fin 12) : Prop where
  started : CallStarted (withCtx s n { s.ctx n with cbTimer := none }) u n kind source number hold j (some r)
  closed : WatchClosed s u r
  lane : (u.ctx n).lane = (s.ctx n).lane
  port : u.port = raised s.port 0x02
  outside : ∀ a, ¬(0x1000 + 256 * j.val ≤ a ∧ a < 0x1000 + 256 * j.val + 256) → ¬RecordByte s n a →
    u.mem.read a = s.mem.read a
  grows : s.matrix.Grows u.matrix
  frame : u = { s with
    ctxs := u.ctxs, recs := u.recs, lamps := u.lamps, mem := u.mem, port := u.port, matrix := u.matrix }

/-- The call that has replaced a watch, between states that agree on what the rules on calls speak of. -/
theorem WatchReplaced.started_congr {t v : State} {r : Fin 12} (h : WatchReplaced s u n kind source number hold j r)
    (hs : SameCalls s t) (hms : s.mem.num (0x1000 + 256 * j.val) 2 = t.mem.num (0x1000 + 256 * j.val) 2)
    (hu : SameCalls u v) (hmu : u.mem.num (0x1000 + 256 * j.val) 2 = v.mem.num (0x1000 + 256 * j.val) 2) :
    CallStarted (withCtx t n { t.ctx n with cbTimer := none }) v n kind source number hold j (some r) := by
  have hc : s.ctxs.set n { s.ctx n with cbTimer := none } = t.ctxs.set n { t.ctx n with cbTimer := none } := by
    rw [hs.ctx, hs.ctxs]
  have hw : SameCalls (withCtx s n { s.ctx n with cbTimer := none }) (withCtx t n { t.ctx n with cbTimer := none }) :=
    ⟨hc, hs.recs, hs.lanes, hs.time, hs.link, hs.voice, hs.survey, hs.lamps⟩
  exact CallStarted.congr hw hms hu hmu h.started

/-- The bytes of one record are not those of another. -/
theorem not_recordByte_of_ne {r : Fin 12} (hr : (s.ctx n).record = some r) (hne : j ≠ r) {a : Nat}
    (h : 0x1000 + 256 * j.val ≤ a ∧ a < 0x1000 + 256 * j.val + 256) : ¬RecordByte s n a := by
  rintro ⟨k, hk, hb⟩
  obtain rfl := Option.some.inj (hr.symm.trans hk)
  exact hne (Fin.ext (by omega))

theorem takeRequest_of_watch {r : Fin 12} (hs : (s.ctx n).state = .callbackWatch) (hr : (s.ctx n).record = some r)
    (ho : (s.record r).state = .opened) (hj : (s.record j).state = .free)
    (hlt : ∀ k, k < j → (s.record k).state ≠ .free) :
    WatchReplaced s (takeRequest n kind source number hold s) n kind source number hold j r := by
  have hne : j ≠ r := by rintro rfl; rw [hj] at ho; cases ho
  have hlast : lastOutcome s n = (s.record r).last := by rw [lastOutcome, hr]; rfl
  unfold takeRequest
  rw [if_pos hs, hlast]
  have ha := modCtx_spec n (fun c => { c with cbTimer := none }) s
  have hwith : modCtx n (fun c => { c with cbTimer := none }) s = withCtx s n { s.ctx n with cbTimer := none } := rfl
  generalize modCtx n (fun c => { c with cbTimer := none }) s = a at ha hwith
  have hb := closeRecord_spec n (s.record r).last a
  generalize closeRecord n (s.record r).last a = b at hb
  have har : (a.ctx n).record = some r := by rw [ha.ctx, ← hr]
  have harec : ∀ k, a.record k = s.record k := fun k => by rw [ha.frame]; rfl
  have hbr : (b.record r).state = .closed := by rw [hb.own r har]; rfl
  have hbo : ∀ k, k ≠ r → b.record k = s.record k := fun k hk => by
    rw [hb.others k (fun e => hk (Option.some.inj (e.symm.trans har))), harec]
  have hbj : (b.record j).state = .free := by rw [hbo j hne, hj]
  have hchoose : chooseRecord b = some j := chooseRecord_of_free hbj fun k hk => by
    by_cases hkr : k = r
    · rw [hkr, hbr]; decide
    · rw [hbo k hkr]; exact hlt k hk
  have hu := startCall_spec hchoose n kind source number hold
  dsimp only
  generalize startCall n kind source number hold b = u at hu
  obtain ⟨huo, huc⟩ := hu.of_free hbj
  have hatime : a.time = s.time := by rw [ha.frame]
  have hbtime : b.time = a.time := by rw [hb.frame]
  have hblanes : b.lamps = a.lamps := by rw [hb.frame]
  have hamem : a.mem = s.mem := by rw [ha.frame]
  have hstate : (b.ctx n).state.flashes = false := by rw [hb.ctx, ha.ctx, hs]; rfl
  have hrbyte : ∀ x, RecordByte a n x ↔ RecordByte s n x := fun x => by unfold RecordByte; rw [har, hr]
  have hfinal : u.record r = closedRecord (s.record r).last s.time.clock (a.ctx n) { s.record r with
      history := endedHistory s.now (a.ctx n).attempt ((s.record r).last.getD .partReset) (s.record r).history } := by
    have hnow : a.now = s.now := by rw [ha.frame]; rfl
    rw [hu.others r hne.symm, hb.own r har, harec, hnow, hatime]
  have hmj : b.mem.num (0x1000 + 256 * j.val) 2 = a.mem.num (0x1000 + 256 * j.val) 2 :=
    Memory.num_two_congr fun x h1 h2 => hb.outside x (not_recordByte_of_ne har hne ⟨h1, by omega⟩)
  have hmr : u.mem.num (0x1000 + 256 * r.val) 2 = b.mem.num (0x1000 + 256 * r.val) 2 :=
    Memory.num_two_congr fun x h1 h2 => hu.outside x fun h => hne (Fin.ext (by omega))
  have hstarted : CallStarted a u n kind source number hold j (some r) := {
    ctx := by rw [hu.ctx, hb.ctx]; rfl
    otherCtx := by rw [hu.otherCtx, hb.otherCtx]
    record := by rw [hu.record, openedRecord, hbtime, hb.seq, hb.ctx]
    others := fun k hk hkr => by rw [hu.others k hk, hb.others k (by rw [har]; exact hkr)]
    seq := by rw [hu.seq, hb.seq]
    revision := by rw [hu.revision, hmj]
    lamps := by rw [hu.lamps, lampsFor_selecting hstate, hbtime]
    otherLamps := by rw [hu.otherLamps, hblanes] }
  exact {
    started := hwith ▸ hstarted
    closed := by
      unfold WatchClosed
      rw [hfinal, huo, hb.closeOrder r har, hmr, hb.revision r har, hamem, ha.frame]
      exact ⟨rfl, rfl, rfl, rfl, rfl, rfl, rfl, rfl, rfl⟩
    lane := by rw [hu.ctx, hb.ctx, ha.ctx]; rfl
    port := by
      rw [hu.port, hb.port r har, raised_raised, ha.frame]
      rfl
    outside := fun x h1 h2 => by rw [hu.outside x h1, hb.outside x ((hrbyte x).not.mpr h2), hamem]
    grows := by
      have e : a.matrix = s.matrix := by rw [ha.frame]
      exact e ▸ hb.grows.trans hu.grows
    frame := by rw [hu.frame, huc, hb.frame, ha.frame] }

theorem takeRequest_of_idle (hs : (s.ctx n).state = .idle) :
    takeRequest n kind source number hold s = startCall n kind source number hold s := by
  unfold takeRequest
  rw [hs]
  rfl

theorem wake_of_awake (h : s.supply.power ≠ .dormant) : wake s = s := if_neg h

end

end Sys2Proof.Machine
end

section
namespace Sys2Proof.Machine

/-! ## Orders and the bytes of the records -/

section
variable {s w u : State} {i : Fin 8} {j : Fin 12} {r : ResultCode} {d : List Byte}

/-- The slots lie below the records (12.1). -/
theorem slot_below_records (i : Fin 8) {a : Nat} (h : 0x1000 ≤ a) :
    a ≠ slotAddr i ∧ ¬(slotAddr i + 16 ≤ a ∧ a < slotAddr i + 32) := by
  have := i.isLt
  rw [slotAddr_eq]
  omega

theorem takeOrder_recordRevision (i : Fin 8) (s : State) (j : Fin 12) :
    (takeOrder i s).mem.num (0x1000 + 256 * j.val) 2 = s.mem.num (0x1000 + 256 * j.val) 2 :=
  Memory.num_two_congr fun a h _ => takeOrder_read i s a (slot_below_records i (by omega)).1

theorem OrderEnds.recordRevision (h : OrderEnds w u i r d) (j : Fin 12) :
    w.mem.num (0x1000 + 256 * j.val) 2 = u.mem.num (0x1000 + 256 * j.val) 2 :=
  Memory.num_two_congr fun a ha _ =>
    (h.read (slot_below_records i (by omega)).1 (slot_below_records i (by omega)).2).symm

/-- A lane's or a call's arguments and the bytes of a slot aside, a taken order has changed what its rule has. -/
theorem OrderEnds.read_outside (h : OrderEnds w u i r d) {a : Nat}
    (ha : a < 0x100 + 32 * i.val ∨ 0x100 + 32 * i.val + 32 ≤ a) (hw : w.mem.read a = (takeOrder i s).mem.read a) :
    u.mem.read a = s.mem.read a := by
  have hne : a ≠ slotAddr i := by rw [slotAddr_eq]; omega
  rw [h.read hne (by rw [slotAddr_eq]; omega), hw, takeOrder_read i s a hne]

end

end Sys2Proof.Machine

namespace Sys2Proof.Proofs
open Sys2Proof.Machine

section
variable {s : State} {i : Fin 8} {n : Cp} {kind number hold : Byte} {k : CallKind} {num : Option (Fin 4)} {b : Bool}

/-- How the bytes of a PLACE_CALL give the call (R171). -/
def PlaceArgs (s : State) (kind number hold : Byte) (k : CallKind) (num : Option (Fin 4)) (b : Bool) : Prop :=
  kind = 0 ∧ k = .emergency ∧ num = none ∧ b = false
    ∨ kind = 1 ∧ k = .test ∧ (∃ v : Fin 4, number = BitVec.ofNat 8 v.val ∧ num = some v) ∧ hold.toNat ≤ 1
      ∧ b = decide (hold = 1) ∧ s.supply.level ≠ .critical

/-- A PLACE_CALL that nothing stands against is taken as a call request (R6, R171). -/
theorem placeCall_through (h : FrontOrder s i 2 [BitVec.ofNat 8 n.num, kind, number, hold])
    (hp : s.supply.power ≠ .dormant) (ha : PlaceArgs s kind number hold k num b)
    (hs : (s.ctx n).state = .idle ∨ (s.ctx n).state = .callbackWatch) {P : State → Prop}
    (hP : P (completeOrder i .ok [] (takeRequest n k .order num b (takeOrder i s)))) :
    CompletesThrough .placeCall s P := by
  have ht : takesCalls (takeOrder i s) n = true := (takesCalls_iff _ n).mpr hs
  have hw : wake (takeOrder i s) = takeOrder i s := wake_of_awake (s := takeOrder i s) hp
  have hgood : kind = 0 ∨ kind = 1 ∧ number.toNat ≤ 3 ∧ hold.toNat ≤ 1 := by
    rcases ha with ⟨hk, -⟩ | ⟨hk, -, ⟨v, rfl, -⟩, hh, -⟩
    · exact .inl hk
    · exact .inr ⟨hk, by rw [BitVec.toNat_ofNat]; omega, hh⟩
  have he : placeCall i (takeOrder i s) = completeOrder i .ok [] (takeRequest n k .order num b (takeOrder i s)) := by
    rw [placeCall_of_front h]
    rcases ha with ⟨rfl, rfl, rfl, rfl⟩ | ⟨rfl, rfl, ⟨v, rfl, rfl⟩, -, rfl, hc⟩
    · simp [ht, hw, orderOk]
    · have hv : finOf 4 (BitVec.ofNat 8 v.val).toNat = some v := by
        rw [finOf, BitVec.toNat_ofNat, Nat.mod_eq_of_lt (by omega)]
        exact dif_pos v.isLt
      simp only [ht, hw, hc, hv, orderOk]
      simp
  exact ⟨_, takeRow_placeCall h hgood, by rwa [he]⟩

end

/-- Settles O18, by the state of the context: the call opened out of IDLE, or in the place of the watch. -/
theorem placeCallStartsACall : Obligations.PlaceCallStartsACall := by
  intro s i n j kind number hold k num b h hp ha hj hlt
  have hts := takeOrder_sameCalls i s
  refine ⟨fun hs => ?_, fun r hs hr ho => ?_⟩
  · refine placeCall_through h hp ha (.inl hs) ?_
    rw [takeRequest_of_idle (s := takeOrder i s) hs]
    have hv := startCall_spec (s := takeOrder i s) (chooseRecord_of_free hj hlt) n k .order num b
    generalize startCall n k .order num b (takeOrder i s) = v at hv
    obtain ⟨hvo, hvc⟩ := hv.of_free (s := takeOrder i s) hj
    have hstate : ((takeOrder i s).ctx n).state.flashes = false := by
      show (s.ctx n).state.flashes = false
      rw [hs]; rfl
    have hu := completeOrder_spec i .ok [] v
    generalize completeOrder i .ok [] v = u at hu
    refine ⟨(hv.started hstate).congr hts (takeOrder_recordRevision i s j) hu.sameCalls (hu.recordRevision j), ?_,
      hu.completed (bits := 0x02) (by rw [hv.frame]) hv.port hv.grows, hu.sameButSlot hv.outside, ?_⟩
    · rw [hu.frame]; exact hvo
    · rw [hu.frame, hv.frame, hvc]; rfl
  · refine placeCall_through h hp ha (.inr hs) ?_
    have hv := takeRequest_of_watch (s := takeOrder i s) (n := n) (kind := k) (source := .order) (number := num)
      (hold := b) hs hr ho hj hlt
    generalize takeRequest n k .order num b (takeOrder i s) = v at hv
    have hu := completeOrder_spec i .ok [] v
    generalize completeOrder i .ok [] v = u at hu
    refine ⟨hv.started_congr hts (takeOrder_recordRevision i s j) hu.sameCalls
      (hu.recordRevision j), hv.closed.congr hts (takeOrder_recordRevision i s r) hu.sameCalls (hu.recordRevision r),
      ?_, ?_, hu.completed (bits := 0x02) (by rw [hv.frame]) hv.port hv.grows, fun a h1 h2 h3 => ?_, ?_⟩
    · rw [hu.sameCalls.symm.ctx, hv.lane]; rfl
    · rw [hu.frame, hv.frame]; rfl
    · exact hu.read_outside h3 (hv.outside a h1 h2)
    · rw [hu.frame, hv.frame]; rfl

/-! ## CALL events -/

section
variable {s : State} {n : Cp}

/-- A CALL event that is taken out of DORMANT acts by the context's state, and raises TRIGGER (R128). -/
theorem callCpn_through (h : s.port.ready = true) (hp : s.supply.power ≠ .dormant) {P : State → Prop}
    (hP : P (raise .trigger (callByState n (unraise (.call n) s)))) : CompletesThrough (.callCpn n) s P := by
  refine ⟨_, congrArg Host.Outcome.next (takeEvent_of_ready h), ?_⟩
  have hw : wake (unraise (.call n) s) = unraise (.call n) s := wake_of_awake (s := unraise (.call n) s) hp
  rwa [callTaken, hw]

theorem callByState_of_takes (h : (s.ctx n).state = .idle ∨ (s.ctx n).state = .callbackWatch) :
    callByState n s = takeRequest n .emergency .matrix none false s := by
  unfold callByState
  rcases h with h | h <;> rw [h]

/-- An EMERGENCY call opened by a CALL event out of IDLE, whatever record it got (R5, R128). -/
theorem callCpn_of_idle {j : Fin 12} (h : s.port.ready = true) (hs : (s.ctx n).state = .idle)
    (hp : s.supply.power ≠ .dormant) (hj : chooseRecord (unraise (.call n) s) = some j) {P : State → Prop}
    (hP : ∀ v u, CallOpened (unraise (.call n) s) v n .emergency .matrix none false j → Raised v u 0x20 →
      CallStarted s u n .emergency .matrix none false j none → P u) : CompletesThrough (.callCpn n) s P := by
  refine callCpn_through h hp ?_
  rw [callByState_of_takes (s := unraise (.call n) s) (.inl hs), takeRequest_of_idle (s := unraise (.call n) s) hs]
  have hv := startCall_spec hj n .emergency .matrix none false
  generalize startCall n .emergency .matrix none false (unraise (.call n) s) = v at hv
  have hu := raise_spec .trigger v
  have hstate : ((unraise (.call n) s).ctx n).state.flashes = false := by
    show (s.ctx n).state.flashes = false
    rw [hs]; rfl
  exact hP v _ hv hu ((hv.started hstate).congr (unraise_sameCalls _ s) rfl hu.sameCalls (by rw [hu.frame]))

end

/-- Settles O34, by the state of the context and the record chosen. -/
theorem callEventsStartACall : Obligations.CallEventsStartACall := by
  intro s n
  refine ⟨fun h hs hp j => ⟨fun hj hlt => ?_, fun hfull hj hc => ?_⟩, fun j r h hs hp hr ho hj hlt => ?_,
    fun h => congrArg Host.Outcome.next (takeEvent_of_not_ready h)⟩
  · refine callCpn_of_idle h hs hp (chooseRecord_of_free (s := unraise (.call n) s) hj hlt) fun v u hv hu hcall => ?_
    obtain ⟨hvo, hvc⟩ := hv.of_free (s := unraise (.call n) s) hj
    refine ⟨hcall, ?_, hv.grows.trans hu.grows, ?_, fun a ha => ?_, ?_⟩
    · rw [hu.frame]; exact hvo
    · rw [hu.port, hv.port, raised_raised]; rfl
    · rw [hu.frame]; exact hv.outside a ha
    · rw [hu.frame, hv.frame, hvc]; rfl
  · refine callCpn_of_idle h hs hp (chooseRecord_of_full (s := unraise (.call n) s) hfull hc) fun v u hv hu hcall => ?_
    have hvo := hv.closeOrder.trans (if_pos hj)
    have hvc := hv.counters.trans (if_pos hj)
    refine ⟨hcall, ?_, ?_, hv.grows.trans hu.grows, ?_, fun a ha => ?_, ?_⟩
    · rw [hu.frame]; exact hvo
    · rw [hu.frame]; exact hvc
    · rw [hu.port, hv.port, raised_raised]; rfl
    · rw [hu.frame]; exact hv.outside a ha
    · rw [hu.frame, hv.frame]; rfl
  · refine callCpn_through h hp ?_
    rw [callByState_of_takes (s := unraise (.call n) s) (.inr hs)]
    have hv := takeRequest_of_watch (s := unraise (.call n) s) (n := n) (kind := .emergency) (source := .matrix)
      (number := none) (hold := false) hs hr ho hj hlt
    generalize takeRequest n .emergency .matrix none false (unraise (.call n) s) = v at hv
    have hu := raise_spec .trigger v
    generalize raise .trigger v = u at hu
    have hmem : v.mem = u.mem := by rw [hu.frame]
    refine ⟨hv.started_congr (unraise_sameCalls _ s) rfl hu.sameCalls (by rw [hmem]),
      hv.closed.congr (unraise_sameCalls _ s) rfl hu.sameCalls (by rw [hmem]), ?_, hv.grows.trans hu.grows, ?_,
      fun a h1 h2 => ?_, ?_⟩
    · rw [hu.sameCalls.symm.ctx, hv.lane]; rfl
    · rw [hu.port, hv.port, raised_raised]; rfl
    · rw [← hmem]; exact hv.outside a h1 h2
    · rw [hu.frame, hv.frame]; rfl

end Sys2Proof.Proofs
end

section
namespace Sys2Proof.Machine

/-! ## Presses and preemption -/

section
variable {s : State} {n : Cp}

/-- Over an EMERGENCY call a CALL event is a repeat press (R10). -/
theorem callByState_of_emergency (hk : (s.ctx n).kind = .emergency) (hs : (s.ctx n).state ∈ [CtxState.selecting,
    .waitingLane, .attaching, .dialling, .alerting, .connected, .clearing, .surveyWait, .held]) :
    callByState n s = countPress n s := by
  have hn : ¬(s.ctx n).kind = .test := by rw [hk]; decide
  unfold callByState
  simp only [if_neg hn]
  revert hs
  cases (s.ctx n).state <;> simp

/-- Over a TEST call of its own context a CALL event preempts (R18). -/
theorem callByState_of_test (hk : (s.ctx n).kind = .test)
    (hs : (s.ctx n).state ∉ [CtxState.idle, .callbackWatch, .ringing]) : callByState n s = preemptOwn n s := by
  unfold callByState
  simp only [if_pos hk]
  revert hs
  cases (s.ctx n).state <;> simp

theorem preemptOwn_of_pending (h : (s.ctx n).emergencyStart = true) : preemptOwn n s = s := if_pos h

/-- A context with emergency start pending (R18). -/
def preempting (n : Cp) (s : State) : State := modCtx n (fun c => { c with emergencyStart := true }) s

theorem preemptOwn_of_not_pending (h : (s.ctx n).emergencyStart = false) :
    preemptOwn n s = teardown n .preempted (preempting n s) := by
  rw [preemptOwn, h]
  rfl

theorem teardown_of_call {o : CallOutcome} (hs : (s.ctx n).state ∈ [CtxState.dialling, .alerting, .connected]) :
    teardown n o s = enterClearing n (some o) s := by
  unfold teardown
  revert hs
  cases (s.ctx n).state <;> simp

theorem teardown_of_endsAtOnce {o : CallOutcome} (hs : (s.ctx n).state ∈ endsAtOnce) :
    teardown n o s = finishTeardown n o s := by
  unfold teardown
  revert hs
  cases (s.ctx n).state <;> simp [endsAtOnce]

/-- A call torn down for the emergency start, up to the start itself: what it asked for, its timers, its claim and its
record are gone (R8, R18). -/
def tornDown (n : Cp) (o : CallOutcome) (s : State) : State :=
  closeRecord n (some o) (releaseClaim n (stopTimers n (clearPendingClaim n (dropRescan n (dropRequest n s)))))

theorem finishTeardown_of_pending {o : CallOutcome} (h : (s.ctx n).emergencyStart = true) :
    finishTeardown n o s = startEmergency n (tornDown n o s) := if_pos h

/-- What an emergency start finds of the call it follows (R18, R144). -/
structure TornDown (s u : State) (n : Cp) (o : CallOutcome) : Prop where
  lane : (u.ctx n).lane = none
  pendingClaim : (u.ctx n).pendingClaim = none
  own : ∀ r, (s.ctx n).record = some r → (u.record r).state = .closed ∧ (u.record r).final = some o
  others : ∀ k, (s.ctx n).record ≠ some k → u.record k = s.record k
  seq : u.recs.nextSeq = s.recs.nextSeq
  port : ∀ r, (s.ctx n).record = some r → u.port = raised s.port 0x02
  grows : s.matrix.Grows u.matrix

theorem tornDown_spec (n : Cp) (o : CallOutcome) (s : State) : TornDown s (tornDown n o s) n o := by
  unfold tornDown stopTimers
  have haf : dropRescan n (dropRequest n s) = { s with
    survey := (dropRescan n (dropRequest n s)).survey, link := (dropRescan n (dropRequest n s)).link } := rfl
  generalize dropRescan n (dropRequest n s) = a at haf
  have hb := clearPendingClaim_spec n a
  generalize clearPendingClaim n a = b at hb
  have hc := modCtx_spec n (fun c => { c with stepTimer := none, locTimer := none, cbTimer := none }) b
  generalize modCtx n _ b = c at hc
  have hd := releaseClaim_spec n c
  generalize releaseClaim n c = d at hd
  have hu := closeRecord_spec n (some o) d
  generalize closeRecord n (some o) d = u at hu
  have hac : a.ctx n = s.ctx n := by rw [haf]; rfl
  have hdc : (d.ctx n).record = (s.ctx n).record ∧ (d.ctx n).pendingClaim = none := by
    rw [hd.ctx, hc.ctx, hb.ctx, hac]
    exact ⟨rfl, rfl⟩
  obtain ⟨hdr, hdp⟩ := hdc
  have hdf : d.recs = s.recs ∧ d.port = s.port ∧ d.matrix = s.matrix := by
    rw [hd.frame, hc.frame, hb.frame, haf]
    exact ⟨rfl, rfl, rfl⟩
  obtain ⟨hdrecs, hdport, hdmatrix⟩ := hdf
  have hdrec : ∀ k, d.record k = s.record k := fun k => by unfold State.record; rw [hdrecs]
  exact {
    lane := by rw [hu.ctx, hd.ctx]
    pendingClaim := by rw [hu.ctx, hdp]
    own := fun r hr => by rw [hu.own r (hdr.trans hr)]; exact ⟨rfl, rfl⟩
    others := fun k hk => by rw [hu.others k (by rwa [hdr]), hdrec]
    seq := by rw [hu.seq, hdrecs]
    port := fun r hr => by rw [hu.port r (hdr.trans hr), hdport]
    grows := hdmatrix ▸ hu.grows }

/-- An EMERGENCY call that has started over a torn down one (R18). -/
structure EmergencyStarted (s u : State) (n : Cp) (j : Fin 12) : Prop where
  opened : (u.record j).state = .opened ∧ (u.record j).kind = .emergency ∧ (u.record j).seq = s.recs.nextSeq
  call : (u.ctx n).state = .selecting ∧ (u.ctx n).kind = .emergency ∧ (u.ctx n).source = .matrix
    ∧ (u.ctx n).record = some j ∧ (u.ctx n).step = 0 ∧ (u.ctx n).emergencyStart = false
  claim : (u.ctx n).lane = (s.ctx n).lane ∧ (u.ctx n).pendingClaim = (s.ctx n).pendingClaim
    ∧ (u.ctx n).keepFirst = (s.ctx n).lane.isSome
  others : ∀ k, k ≠ j → u.record k = s.record k
  port : u.port = raised s.port 0x02
  grows : s.matrix.Grows u.matrix

theorem startEmergency_spec {j : Fin 12} (hj : (s.record j).state = .free)
    (hlt : ∀ k, k < j → (s.record k).state ≠ .free) : EmergencyStarted s (startEmergency n s) n j := by
  unfold startEmergency
  have ha := modCtx_spec n (fun c => { c with emergencyStart := false }) s
  generalize modCtx n _ s = a at ha
  have harecs : a.recs = s.recs := by rw [ha.frame]
  have har : ∀ k, a.record k = s.record k := fun k => by unfold State.record; rw [harecs]
  have hchoose : chooseRecord a = some j :=
    chooseRecord_of_free (by rw [har, hj]) fun k hk => by rw [har]; exact hlt k hk
  have hu := startCall_spec hchoose n .emergency .matrix none false
  generalize startCall n .emergency .matrix none false a = u at hu
  exact {
    opened := by rw [hu.record, ← harecs]; exact ⟨rfl, rfl, rfl⟩
    call := by rw [hu.ctx]; exact ⟨rfl, rfl, rfl, rfl, rfl, rfl⟩
    claim := by rw [hu.ctx, ha.ctx]; exact ⟨rfl, rfl, rfl⟩
    others := fun k hk => by rw [hu.others k hk, har]
    port := by rw [hu.port, ha.frame]
    grows := by
      have e : a.matrix = s.matrix := by rw [ha.frame]
      exact e ▸ hu.grows }

/-- A call has been torn down, and the emergency call that follows it has started in a record of its own (R18). -/
structure PreemptedByEmergency (s u : State) (n : Cp) (o : CallOutcome) (r j : Fin 12) : Prop where
  closed : (u.record r).state = .closed ∧ (u.record r).final = some o
  opened : (u.record j).state = .opened ∧ (u.record j).kind = .emergency ∧ (u.record j).seq = s.recs.nextSeq
  call : (u.ctx n).state = .selecting ∧ (u.ctx n).kind = .emergency ∧ (u.ctx n).source = .matrix
    ∧ (u.ctx n).record = some j ∧ (u.ctx n).step = 0 ∧ (u.ctx n).emergencyStart = false
  claim : (u.ctx n).lane = none ∧ (u.ctx n).pendingClaim = none ∧ (u.ctx n).keepFirst = false
  others : ∀ k, k ≠ r → k ≠ j → u.record k = s.record k
  port : u.port = raised s.port 0x02
  grows : s.matrix.Grows u.matrix

theorem finishTeardown_spec {o : CallOutcome} {r j : Fin 12} (he : (s.ctx n).emergencyStart = true)
    (hr : (s.ctx n).record = some r) (ho : (s.record r).state = .opened) (hj : (s.record j).state = .free)
    (hlt : ∀ k, k < j → (s.record k).state ≠ .free) : PreemptedByEmergency s (finishTeardown n o s) n o r j := by
  rw [finishTeardown_of_pending he]
  have hb := tornDown_spec n o s
  generalize tornDown n o s = b at hb
  obtain ⟨hbr, hbf⟩ := hb.own r hr
  have hbo : ∀ k, k ≠ r → b.record k = s.record k := fun k hk =>
    hb.others k fun e => hk (Option.some.inj (e.symm.trans hr))
  have hjr : j ≠ r := by rintro rfl; rw [hj] at ho; cases ho
  have hu := startEmergency_spec (n := n) (s := b) (j := j) (by rw [hbo j hjr, hj]) fun k hk => by
    by_cases hkr : k = r
    · rw [hkr, hbr]; decide
    · rw [hbo k hkr]; exact hlt k hk
  generalize startEmergency n b = u at hu
  exact {
    closed := by rw [hu.others r hjr.symm]; exact ⟨hbr, hbf⟩
    opened := by rw [← hb.seq]; exact hu.opened
    call := hu.call
    claim := by
      obtain ⟨hl, hp, hf⟩ := hu.claim
      rw [hb.lane] at hl hf
      exact ⟨hl, hp.trans hb.pendingClaim, hf⟩
    others := fun k h1 h2 => by rw [hu.others k h2, hbo k h1]
    port := by rw [hu.port, hb.port r hr, raised_raised]; rfl
    grows := hb.grows.trans hu.grows }

end

end Sys2Proof.Machine

namespace Sys2Proof.Proofs
open Sys2Proof.Machine

section
variable {s : State} {n : Cp}

/-- A CALL event over a TEST call, no emergency start pending, tears the call down (R18). -/
theorem callCpn_of_test (h : s.port.ready = true) (hp : s.supply.power ≠ .dormant) (hk : (s.ctx n).kind = .test)
    (he : (s.ctx n).emergencyStart = false) (hs : (s.ctx n).state ∉ [CtxState.idle, .callbackWatch, .ringing])
    {P : State → Prop}
    (hP : P (raise .trigger (teardown n .preempted (preempting n (unraise (.call n) s))))) :
    CompletesThrough (.callCpn n) s P := by
  refine callCpn_through h hp ?_
  rwa [callByState_of_test (s := unraise (.call n) s) hk hs, preemptOwn_of_not_pending (s := unraise (.call n) s) he]

theorem preempting_spec (n : Cp) (s : State) :
    CtxChanged s (preempting n s) n (fun c => { c with emergencyStart := true }) := modCtx_spec _ _ _

end

/-- Settles O35, by the kind of the call, whether an emergency start is pending, and the context's state. -/
theorem callEventsPressOrPreempt : Obligations.CallEventsPressOrPreempt := by
  intro s n h hp
  refine ⟨fun hk hs => ?_, fun hk he hs => ?_, fun hk he hs => ?_, fun r j hk he hs hr ho hj hlt => ?_⟩
  · refine callCpn_through h hp ?_
    rw [callByState_of_emergency (s := unraise (.call n) s) hk hs, countPress]
    have hv := modRecord_spec n (fun r => { r with presses := satInc 255 r.presses }) (unraise (.call n) s)
    generalize modRecord n _ (unraise (.call n) s) = v at hv
    have hu := raise_spec .trigger v
    generalize raise .trigger v = u at hu
    have hx : v.matrix = (unraise (.call n) s).matrix := by rw [hv.frame]
    have hg : (unraise (.call n) s).matrix.Grows u.matrix := hx ▸ hu.grows
    refine ⟨fun j hj => ?_, fun k hk => ?_, hg, ?_, ?_⟩
    · rw [hu.sameCalls.symm.record, hv.own j hj]; rfl
    · rw [hu.sameCalls.symm.record, hv.others k hk]; rfl
    · rw [hu.port, hv.frame]; rfl
    · rw [hu.frame, hv.frame]; rfl
  · refine callCpn_through h hp ?_
    rw [callByState_of_test (s := unraise (.call n) s) hk hs, preemptOwn_of_pending (s := unraise (.call n) s) he]
    have hu := raise_spec .trigger (unraise (.call n) s)
    exact ⟨hu.grows, hu.port, hu.frame⟩
  · refine callCpn_of_test h hp hk he (by revert hs; cases (s.ctx n).state <;> simp) ?_
    have hwith : SameCalls (preempting n (unraise (.call n) s)) (withCtx s n { s.ctx n with emergencyStart := true }) :=
      ⟨rfl, rfl, rfl, rfl, rfl, rfl, rfl, rfl⟩
    have ha := preempting_spec n (unraise (.call n) s)
    generalize preempting n (unraise (.call n) s) = a at ha hwith
    have hst : (a.ctx n).state = (s.ctx n).state := by rw [ha.ctx]; rfl
    rw [teardown_of_call (by rwa [hst])]
    have hv := enterClearing_spec n (some .preempted) a
    generalize enterClearing n (some .preempted) a = v at hv
    have hu := raise_spec .trigger v
    generalize raise .trigger v = u at hu
    have hcall := hv.entered
    rw [hst] at hcall
    have hx : a.matrix = (unraise (.call n) s).matrix := by rw [ha.frame]
    have hg : (unraise (.call n) s).matrix.Grows u.matrix := hx ▸ hv.grows.trans hu.grows
    refine ⟨hcall.congr hwith hu.sameCalls, hg, ?_, ?_⟩
    · rw [hu.port, hv.frame, ha.frame]; rfl
    · rw [hu.frame, hv.frame, ha.frame]; rfl
  · refine callCpn_of_test h hp hk he (by revert hs; cases (s.ctx n).state <;> simp) ?_
    have ha := preempting_spec n (unraise (.call n) s)
    generalize preempting n (unraise (.call n) s) = a at ha
    have hac : (a.ctx n).state = (s.ctx n).state ∧ (a.ctx n).record = (s.ctx n).record
        ∧ (a.ctx n).emergencyStart = true := by rw [ha.ctx]; exact ⟨rfl, rfl, rfl⟩
    obtain ⟨hst, har, hae⟩ := hac
    have haf : a.recs = s.recs ∧ a.port = s.port ∧ a.matrix = (unraise (.call n) s).matrix := by
      rw [ha.frame]; exact ⟨rfl, rfl, rfl⟩
    obtain ⟨harecs, haport, hamatrix⟩ := haf
    have harec : ∀ k, a.record k = s.record k := fun k => by unfold State.record; rw [harecs]
    rw [teardown_of_endsAtOnce (by rw [hst]; exact hs)]
    have hv := finishTeardown_spec (o := .preempted) (j := j) hae (har.trans hr) (by rw [harec, ho]) (by rw [harec, hj])
      fun k hk => by rw [harec]; exact hlt k hk
    generalize finishTeardown n .preempted a = v at hv
    have hu := raise_spec .trigger v
    generalize raise .trigger v = u at hu
    obtain ⟨hclosed, hfinal⟩ := hv.closed
    obtain ⟨hopened, hkind, hseq⟩ := hv.opened
    obtain ⟨hstate, hckind, hsource, hrecord, hstep, hemergency⟩ := hv.call
    obtain ⟨hlane, hclaim, hkeep⟩ := hv.claim
    have hport : u.port = raised s.port 0x22 := by rw [hu.port, hv.port, haport, raised_raised]; rfl
    have hg : (unraise (.call n) s).matrix.Grows u.matrix := hamatrix ▸ hv.grows.trans hu.grows
    simp only [hu.sameCalls.symm.record, hu.sameCalls.symm.ctx, ← harecs]
    exact ⟨hclosed, hfinal, hopened, hkind, hseq, hstate, hckind, hsource, hrecord, hstep, hemergency, hlane, hclaim,
      hkeep, fun k h1 h2 => by rw [hv.others k h1 h2, harec], hport, hg⟩

end Sys2Proof.Proofs
end

section
namespace Sys2Proof.Machine

/-! ## The check of the staged plan -/

section
variable (m : Memory) (a count : Nat)

/-- The attempt fields of a staged step pass the checks of R48 (12.6). -/
def AttemptPasses : Prop :=
  let byte (b : Nat) : Nat := (m.read (a + b)).toNat
  byte 1 ≤ 3 ∧ (byte 2 ≤ 3 ∨ byte 2 = 15) ∧ byte 3 ≤ 15 ∧ byte 4 ≤ 2 ∧ 1 ≤ byte 5 ∧ byte 5 ≤ 9
    ∧ 10 ≤ byte 6 + 256 * byte 7 ∧ byte 6 + 256 * byte 7 ≤ 300
    ∧ (byte 10 = 255 ∨ byte 10 < count) ∧ (byte 11 = 255 ∨ byte 11 < count)

/-- A staged step passes the checks of R48: the attempt fields of ATTEMPT and ATTEMPT_DIRECT, the wait of PAUSE and RESCAN,
and nothing of END (12.6). -/
def StepPasses : Prop :=
  let byte (b : Nat) : Nat := (m.read (a + b)).toNat
  (byte 0 ≤ 1 ∧ AttemptPasses m a count)
    ∨ (2 ≤ byte 0 ∧ byte 0 ≤ 3 ∧ 1 ≤ byte 8 + 256 * byte 9 ∧ byte 8 + 256 * byte 9 ≤ 600)
    ∨ byte 0 = 4

end

theorem finOf_isSome_iff (n k : Nat) : (finOf n k).isSome ↔ k < n := by
  unfold finOf
  split <;> simp_all

theorem selectorOf_isSome_iff (b : Byte) : (selectorOf b).isSome ↔ b.toNat ≤ 3 ∨ b.toNat = 15 := by
  revert b; decide

theorem filterOf_isSome_iff (b : Byte) : (filterOf b).isSome ↔ b.toNat ≤ 2 := by
  revert b; decide

theorem targetOf_isSome_iff (count : Nat) (b : Byte) :
    (targetOf count b).isSome ↔ b.toNat = 255 ∨ b.toNat < count := by
  have hb : b = 0xFF ↔ b.toNat = 255 := by bv_omega
  unfold targetOf
  by_cases h : b = 0xFF
  · simp [h]
  · rw [if_neg h]
    split <;> simp_all

section
variable (m : Memory) (a count : Nat)

theorem attemptOf_isSome_iff : (attemptOf m a count).isSome ↔ AttemptPasses m a count := by
  have hnumber := finOf_isSome_iff 4 (m.read (a + 1)).toNat
  have hselector := selectorOf_isSome_iff (m.read (a + 2))
  have hfilter := filterOf_isSome_iff (m.read (a + 4))
  have hfail := targetOf_isSome_iff count (m.read (a + 10))
  have hnone := targetOf_isSome_iff count (m.read (a + 11))
  have hring : m.num (a + 6) 2 = (m.read (a + 6)).toNat + 256 * (m.read (a + 7)).toNat := Memory.num_two m (a + 6)
  unfold attemptOf AttemptPasses
  dsimp only
  split
  next e1 e2 e3 e4 e5 =>
    rw [e1] at hnumber; rw [e2] at hselector; rw [e3] at hfilter; rw [e4] at hfail; rw [e5] at hnone
    simp only [Option.isSome_some, true_iff] at hnumber hselector hfilter hfail hnone
    simp only [hring, Option.isSome_ite, hselector, hfilter, hfail, hnone, true_and, and_true]
    omega
  next hbad =>
    refine iff_of_false (by simp) ?_
    rintro ⟨h1, h2, -, h4, -, -, -, -, h10, h11⟩
    obtain ⟨_, e1⟩ := Option.isSome_iff_exists.mp (hnumber.mpr (by omega))
    obtain ⟨_, e2⟩ := Option.isSome_iff_exists.mp (hselector.mpr h2)
    obtain ⟨_, e3⟩ := Option.isSome_iff_exists.mp (hfilter.mpr h4)
    obtain ⟨_, e4⟩ := Option.isSome_iff_exists.mp (hfail.mpr h10)
    obtain ⟨_, e5⟩ := Option.isSome_iff_exists.mp (hnone.mpr h11)
    exact hbad _ _ _ _ _ e1 e2 e3 e4 e5

theorem stepOf_isSome_iff : (stepOf m a count).isSome ↔ StepPasses m a count := by
  have hattempt := attemptOf_isSome_iff m a count
  have hwait : m.num (a + 8) 2 = (m.read (a + 8)).toNat + 256 * (m.read (a + 9)).toNat := Memory.num_two m (a + 8)
  unfold stepOf StepPasses
  simp only [hwait, Nat.add_zero]
  generalize m.read a = action
  split
  next h => rw [Option.isSome_map, hattempt]; subst h; simp
  split
  next h => rw [Option.isSome_map, hattempt]; subst h; simp
  split
  next h => subst h; simp [Option.isSome_ite]
  split
  next h => subst h; simp [Option.isSome_ite]
  split
  next h => subst h; simp
  next h0 h1 h2 h3 h4 =>
    refine iff_of_false (by simp) ?_
    bv_omega

/-- The check of the steps from k on finds the first of them that does not pass, or finds that every one passes (R48). -/
theorem checkSteps_cases (left k : Nat) (found : List PlanStep) :
    (∃ j, checkSteps m count left k found = .bad j ∧ j < k + left ∧ ¬StepPasses m (stepAddr j) count
      ∧ ∀ h, k ≤ h → h < j → StepPasses m (stepAddr h) count)
    ∨ ∃ p, checkSteps m count left k found = .good p
      ∧ ∀ h, k ≤ h → h < k + left → StepPasses m (stepAddr h) count := by
  induction left generalizing k found with
  | zero => exact .inr ⟨_, rfl, fun h h1 h2 => by omega⟩
  | succ left ih =>
    have hpass := stepOf_isSome_iff m (stepAddr k) count
    cases hs : stepOf m (stepAddr k) count with
    | none =>
      rw [hs] at hpass
      exact .inl ⟨k, by rw [checkSteps, hs], by omega, fun hk => by simpa using hpass.mpr hk, fun h h1 h2 => by omega⟩
    | some p =>
      have hk : StepPasses m (stepAddr k) count := hpass.mp (by rw [hs]; rfl)
      have hnext : checkSteps m count (left + 1) k found = checkSteps m count left (k + 1) (p :: found) := by
        rw [checkSteps, hs]
      have hfrom {j : Nat} (hj : ∀ h, k + 1 ≤ h → h < j → StepPasses m (stepAddr h) count) (h : Nat) (h1 : k ≤ h)
          (h2 : h < j) : StepPasses m (stepAddr h) count := by
        rcases Nat.eq_or_lt_of_le h1 with rfl | h1
        · exact hk
        · exact hj h h1 h2
      rw [hnext, show k + (left + 1) = k + 1 + left by omega]
      rcases ih (k + 1) (p :: found) with ⟨j, hb, hj, hbad, hbefore⟩ | ⟨q, hg, hall⟩
      · exact .inl ⟨j, hb, hj, hbad, hfrom hbefore⟩
      · exact .inr ⟨q, hg, hfrom hall⟩

/-- A step count outside 1 to 16 is item 16 (R48). -/
theorem checkPlan_of_bad_count (h : (m.read Config.planBase).toNat = 0 ∨ 16 < (m.read Config.planBase).toNat) :
    checkPlan m = .bad 16 := if_pos h

theorem checkPlan_of_count (h : 1 ≤ (m.read Config.planBase).toNat) (h16 : (m.read Config.planBase).toNat ≤ 16) :
    checkPlan m = checkSteps m (m.read Config.planBase).toNat (m.read Config.planBase).toNat 0 [] :=
  if_neg (by omega)

end

end Sys2Proof.Machine

namespace Sys2Proof.Proofs
open Sys2Proof.Machine

/-- Settles O21, by the first step that does not pass or that none is found. -/
theorem stagedPlanIsCheckedInIndexOrder : Obligations.StagedPlanIsCheckedInIndexOrder := by
  intro m count byte passes
  refine ⟨checkPlan_of_bad_count m, fun h1 h16 => ?_⟩
  have hp (k : Nat) : passes k ↔ StepPasses m (stepAddr k) count := Iff.rfl
  have hc : checkPlan m = checkSteps m count count 0 [] := checkPlan_of_count m h1 h16
  simp only [hp, hc]
  rcases checkSteps_cases m count count 0 [] with ⟨j, hb, hj, hbad, hbefore⟩ | ⟨p, hg, hall⟩
  · rw [hb]
    have hfirst (k : Nat) (hk : ¬StepPasses m (stepAddr k) count)
        (hkb : ∀ h, h < k → StepPasses m (stepAddr h) count) : j = k := by
      rcases Nat.lt_trichotomy j k with h | h | h
      · exact absurd (hkb j h) hbad
      · exact h
      · exact absurd (hbefore k (Nat.zero_le k) h) hk
    refine ⟨fun k => ⟨?_, fun ⟨_, hk, hkb⟩ => congrArg _ (hfirst k hk hkb)⟩, iff_of_false ?_ ?_⟩
    · rintro ⟨⟩
      exact ⟨by omega, hbad, fun h => hbefore h (Nat.zero_le h)⟩
    · rintro ⟨p, ⟨⟩⟩
    · exact fun h => hbad (h j (by omega))
  · rw [hg]
    have hpass (k : Nat) (hk : k < count) : StepPasses m (stepAddr k) count := hall k (Nat.zero_le k) (by omega)
    refine ⟨fun k => iff_of_false (fun h => by cases h) ?_, iff_of_true ⟨p, rfl⟩ hpass⟩
    rintro ⟨hk, hbad, -⟩
    exact hbad (hpass k hk)

end Sys2Proof.Proofs
end

section
namespace Sys2Proof.Machine

/-! ## The staged plan while an order is taken -/

section
variable {m m' : Memory}

theorem num_two_congr_of_range {a n k : Nat} (h : ∀ b, b < n → m'.read (a + b) = m.read (a + b)) (hk : k + 2 ≤ n) :
    m'.num (a + k) 2 = m.num (a + k) 2 :=
  Memory.num_two_congr fun x h1 h2 => by
    obtain ⟨b, rfl⟩ := Nat.exists_eq_add_of_le (show a ≤ x by omega)
    exact h b (by omega)

theorem attemptOf_congr {a : Nat} (count : Nat) (h : ∀ b, b < 12 → m'.read (a + b) = m.read (a + b)) :
    attemptOf m' a count = attemptOf m a count := by
  have hring : m'.num (a + 6) 2 = m.num (a + 6) 2 := num_two_congr_of_range h (by decide)
  unfold attemptOf
  rw [hring, h 1 (by decide), h 2 (by decide), h 3 (by decide), h 4 (by decide), h 5 (by decide), h 10 (by decide),
    h 11 (by decide)]

theorem stepOf_congr {a : Nat} (count : Nat) (h : ∀ b, b < 12 → m'.read (a + b) = m.read (a + b)) :
    stepOf m' a count = stepOf m a count := by
  have hwait : m'.num (a + 8) 2 = m.num (a + 8) 2 := num_two_congr_of_range h (by decide)
  have haction : m'.read a = m.read a := h 0 (by decide)
  unfold stepOf
  rw [hwait, haction, attemptOf_congr count h]

theorem checkSteps_congr (count left k : Nat) (found : List PlanStep)
    (h : ∀ j, j < k + left → stepOf m' (stepAddr j) count = stepOf m (stepAddr j) count) :
    checkSteps m' count left k found = checkSteps m count left k found := by
  induction left generalizing k found with
  | zero => rfl
  | succ left ih =>
    rw [checkSteps, checkSteps, h k (by omega)]
    cases stepOf m (stepAddr k) count with
    | none => rfl
    | some p => exact ih (k + 1) (p :: found) fun j hj => h j (by omega)

/-- The check reads the staged plan's 256 bytes alone (12.6). -/
theorem checkPlan_congr (h : ∀ a, 0x400 ≤ a → a < 0x500 → m'.read a = m.read a) : checkPlan m' = checkPlan m := by
  have hcount : m'.read Config.planBase = m.read Config.planBase := h 0x400 (by decide) (by decide)
  unfold checkPlan
  rw [hcount]
  dsimp only
  split
  · rfl
  next hc =>
    refine checkSteps_congr _ _ 0 [] fun j hj => stepOf_congr _ fun b hb => h _ ?_ ?_ <;>
      simp only [stepAddr, Config.planBase] <;> omega

end

/-- The staged plan does not lie in a slot (12.1). -/
@[simp] theorem checkPlan_takeOrder (i : Fin 8) (s : State) :
    checkPlan (takeOrder i s).hostMem = checkPlan s.hostMem :=
  checkPlan_congr fun a h _ => hostMem_read_congr rfl (takeOrder_read i s a (by have := i.isLt; rw [slotAddr_eq]; omega))

/-! ## The plan waiter and the pending plan -/

section
variable {s : State} {i j : Fin 8} {p : List PlanStep}

theorem find_plan_of_none (h : ∀ x ∈ s.orders.waits, x.2 ≠ .plan) :
    s.orders.waits.find? (fun x => decide (x.2 = Wait.plan)) = none :=
  List.find?_eq_none.mpr fun x hx => by simpa using h x hx

theorem planWaiter_of_none (h : ∀ x ∈ s.orders.waits, x.2 ≠ .plan) : planWaiter s = none := by
  rw [planWaiter, find_plan_of_none h]
  rfl

theorem planWaiter_of_find (h : s.orders.waits.find? (fun x => decide (x.2 = Wait.plan)) = some (j, .plan)) :
    planWaiter s = some j := by
  rw [planWaiter, h]
  rfl

/-- An order that enters the wait for a plan where none waits is the one that waits (R169). -/
theorem planWaiter_waitOrder (h : ∀ x ∈ s.orders.waits, x.2 ≠ .plan) : planWaiter (waitOrder i .plan s) = some i := by
  refine planWaiter_of_find ?_
  show (s.orders.waits ++ [(i, Wait.plan)]).find? _ = _
  rw [List.find?_append, find_plan_of_none h]
  rfl

theorem isActive_iff (st : CtxState) : st.isActive = true ↔ st ≠ .idle ∧ st ≠ .callbackWatch := by
  simp [CtxState.isActive]

/-- While a context is active no plan becomes active (R30). -/
theorem activatePlan_of_active (h : ∃ n, (s.ctx n).state ≠ .idle ∧ (s.ctx n).state ≠ .callbackWatch) :
    activatePlan s = s := by
  obtain ⟨n, h⟩ := h
  have ha : (s.ctx n).state.isActive = true := (isActive_iff _).mpr h
  have hr : planReady s = false := by
    unfold planReady
    cases n <;> simp [ha]
  rw [activatePlan, hr]
  rfl

/-- With no context active the pending plan becomes the active one, and the order that waits for it completes (R30). -/
theorem activatePlan_of_inactive (h : ∀ n, (s.ctx n).state = .idle ∨ (s.ctx n).state = .callbackWatch)
    (hp : s.plan.pendingPlan = some p) (hw : planWaiter s = some i) :
    activatePlan s = completeOrder i .ok [] (s.withPlan { active := p, loaded := true, pendingPlan := none }) := by
  have hn (n : Cp) : (s.ctx n).state.isActive = false :=
    Bool.eq_false_iff.mpr fun e => by
      obtain ⟨h1, h2⟩ := (isActive_iff _).mp e
      exact (h n).elim h1 h2
  have hr : planReady s = true := by
    unfold planReady
    rw [hp, hn, hn]
    rfl
  simp only [activatePlan, hr, if_true, hp, hw]

/-! ## LOAD_PLAN -/

theorem takeRow_loadPlan (h : FrontOrder s i 5 []) :
    exec .loadPlan s = .next (finish (loadPlan i (takeOrder i s))) := by
  refine congrArg Host.Outcome.next (takeRow_of_front h (by unfold orderRow; rw [orderCode_of_front h]; rfl) ?_)
  unfold badArgument
  rw [orderCode_of_front h]
  rfl

theorem loadPlan_of_bad {k : Nat} (h : checkPlan s.hostMem = .bad k) :
    loadPlan i s = completeOrder i .badContent [BitVec.ofNat 8 k] s := by
  simp only [loadPlan, h]

/-- The order waits for a good plan that has become the pending one (R30). -/
def awaitPlan (i : Fin 8) (p : List PlanStep) (s : State) : State :=
  waitOrder i .plan (s.withPlan { s.plan with pendingPlan := some p })

theorem loadPlan_of_good (h : checkPlan s.hostMem = .good p) (hw : planWaiter s = none) :
    loadPlan i s = activatePlan (awaitPlan i p s) := by
  simp only [loadPlan, h, hw, awaitPlan]

/-- An older LOAD_PLAN that still waits is superseded (R169). -/
theorem loadPlan_of_superseding (h : checkPlan s.hostMem = .good p) (hw : planWaiter s = some j) :
    loadPlan i s = activatePlan (awaitPlan i p (completeOrder j .superseded [] s)) := by
  simp only [loadPlan, h, hw, awaitPlan]

theorem takeOrder_slotState (i : Fin 8) (s : State) : (takeOrder i s).slotState i = 2 :=
  (Memory.read_write _ _ _ _).trans (if_pos rfl)

/-- Another order's completion leaves a slot's state byte (12.4). -/
theorem OrderEnds.slotState_of_ne {w u : State} {r : ResultCode} {d : List Byte} (h : OrderEnds w u j r d)
    (hij : i ≠ j) : u.slotState i = w.slotState i := by
  have hv : i.val ≠ j.val := fun e => hij (Fin.ext e)
  exact h.read (by rw [slotAddr_eq, slotAddr_eq]; omega) (by rw [slotAddr_eq, slotAddr_eq]; omega)

/-- A taken order that waits for its plan stands in a wait and has made the plan the pending one (R30, R166, R168). -/
theorem awaitPlan_takeOrder (i : Fin 8) (p : List PlanStep) (s : State) :
    OrderWaits s (awaitPlan i p (takeOrder i s)) i .plan 0 0 := by
  refine ⟨takeOrder_slotState i s, fun a _ h _ => takeOrder_read i s a h, fun k h16 _ => takeOrder_read i s _ ?_, rfl, ?_⟩
  · rw [slotAddr_eq]; omega
  · exact List.mem_append_right _ (List.mem_singleton.mpr rfl)

/-- The taken order and the plan unit aside, an order that waits for its plan changes nothing. -/
theorem awaitPlan_frame (i : Fin 8) (p : List PlanStep) (q : PlanStore) (s : State) :
    (awaitPlan i p (takeOrder i s)).withPlan q = { s with
      plan := q, mem := (takeOrder i s).mem, orders := (waitOrder i .plan (takeOrder i s)).orders } := by
  rw [awaitPlan, waitOrder, takeOrder_eq]
  rfl

end

end Sys2Proof.Machine

namespace Sys2Proof.Proofs
open Sys2Proof.Machine

/-- Settles O22, by what the check finds, whether an older order waits, and whether a context is active. -/
theorem loadPlanChecksWaitsOrActivates : Obligations.LoadPlanChecksWaitsOrActivates := by
  intro s i h
  refine ⟨fun k hk => ?_, fun p hp => ?_⟩
  · exact completesThrough_orderOnly (r := .badContent) (takeRow_loadPlan h)
      (loadPlan_of_bad ((checkPlan_takeOrder i s).trans hk))
  have hgood : checkPlan (takeOrder i s).hostMem = .good p := (checkPlan_takeOrder i s).trans hp
  refine ⟨fun hact hnone => ⟨_, takeRow_loadPlan h, ?_⟩, fun j hact hj hfind => ⟨_, takeRow_loadPlan h, ?_⟩,
    fun hidle hnone => ⟨_, takeRow_loadPlan h, ?_⟩⟩
  · have hw : planWaiter (takeOrder i s) = none := planWaiter_of_none hnone
    have hact' : activatePlan (awaitPlan i p (takeOrder i s)) = awaitPlan i p (takeOrder i s) :=
      activatePlan_of_active hact
    rw [loadPlan_of_good hgood hw, hact']
    exact ⟨rfl, awaitPlan_takeOrder i p s, rfl⟩
  · have hw : planWaiter (takeOrder i s) = some j := planWaiter_of_find hfind
    rw [loadPlan_of_superseding hgood hw]
    have hv := completeOrder_spec j .superseded [] (takeOrder i s)
    generalize completeOrder j .superseded [] (takeOrder i s) = v at hv
    have hctxs : v.ctxs = s.ctxs := by rw [hv.frame]; rfl
    have hactv : ∃ n, (v.ctx n).state ≠ .idle ∧ (v.ctx n).state ≠ .callbackWatch := by
      unfold State.ctx; rwa [hctxs]
    have hact' : activatePlan (awaitPlan i p v) = awaitPlan i p v := activatePlan_of_active hactv
    rw [hact']
    have hplan : v.plan = s.plan := by rw [hv.frame]; rfl
    refine ⟨?_, orderDone_of_mem (u := awaitPlan i p v) hv.mem, ?_, ?_, ?_⟩
    · exact congrArg (fun q : PlanStore => { q with pendingPlan := some p }) hplan
    · exact (hv.slotState_of_ne hj.symm).trans (takeOrder_slotState i s)
    · show ({ v.orders with waits := v.orders.waits ++ [(i, Wait.plan)] } : OrderUnit) = _
      rw [hv.orders]
      rfl
    · unfold awaitPlan waitOrder
      rw [hv.frame]
      rfl
  · have hw : planWaiter (takeOrder i s) = none := planWaiter_of_none hnone
    have hready := activatePlan_of_inactive (s := awaitPlan i p (takeOrder i s)) (p := p) (i := i) hidle rfl
      (planWaiter_waitOrder hnone)
    rw [loadPlan_of_good hgood hw, hready]
    have hframe := awaitPlan_frame i p { active := p, loaded := true, pendingPlan := none } s
    generalize (awaitPlan i p (takeOrder i s)).withPlan _ = w at hframe
    have hu := completeOrder_spec i .ok [] w
    generalize completeOrder i .ok [] w = u at hu
    refine ⟨?_, ⟨orderDone_of_mem hu.mem, ?_, ?_, ?_⟩, hu.sameButSlot fun _ _ => by rw [hframe], ?_⟩
    · rw [hu.frame, hframe]
    · rw [hu.orders, hframe]
      simp [waitOrder, takeOrder_eq]
    · rw [hu.port, hframe]
    · have hmatrix : w.matrix = s.matrix := by rw [hframe]
      have hgrows := hu.grows
      rwa [hmatrix] at hgrows
    · rw [hu.frame, hframe]

end Sys2Proof.Proofs
end

section
namespace Sys2Proof.Machine

/-! ## What every command keeps -/

/-- An outcome that is a next state only if that state keeps the invariants from a first state. -/
def AnswersKeeping (s0 : State) (o : Host.Outcome State Fault Refusal) : Prop := ∀ t, o = .next t → Keeps s0 t

theorem answersKeeping_next {s0 u : State} (h : Keeps s0 u) : AnswersKeeping s0 (.next u) := by
  intro t e
  obtain rfl := Host.Outcome.next.inj e
  exact h

/-- The end of the location delay keeps what the start of the burst keeps (R112). -/
theorem endDelay_keeps {s0 : State} (n : Cp) (s : State) (h : Keeps s0 s) : Keeps s0 (endDelay n s) := by
  unfold endDelay
  have hb := beginBurst_keeps n _ (modCtx_keeps h n fun c => { c with locTimer := none })
  dsimp only
  split
  · exact rewriteOwn_keeps n _ hb
  · exact hb

/-- The entries that have outlived the candidate lifetime go, in one change of the table (R65). -/
def removeOutlived (s : State) : State :=
  if s.table.any (outlived s) then publishTable (s.table.filter fun e => !outlived s e) s else s

theorem execLifetimeRemoval_eq (s : State) :
    execLifetimeRemoval s = .next (onChange (tickIsDue s) removeOutlived s) := rfl

theorem removeOutlived_keeps {s0 : State} (s : State) (h : Keeps s0 s) : Keeps s0 (removeOutlived s) := by
  unfold removeOutlived
  split
  · exact publishTable_keeps _ s (fun k => (TableInv.content k).sublist List.filter_sublist) h
  · exact h

section
variable {s0 s : State} (h : Keeps s0 s)
include h

/-! ### The host port -/

theorem execRegisterSelectByte_keeps (b : Byte) : AnswersKeeping s0 (execRegisterSelectByte b s) := by
  refine answersKeeping_next ?_
  split
  · exact h
  · exact openTxn_keeps b s h

/-- The end of a transaction closes it and discards what was captured; attention stays (R154). -/
theorem execHostTransactionEnd_keeps : AnswersKeeping s0 (execHostTransactionEnd s) := by
  refine answersKeeping_next (withSnap_keeps (modPort_keeps h _ ?_) none)
  exact fun _ k => k

theorem execPtrWrite_keeps (b : Byte) : AnswersKeeping s0 (execPtrWrite b s) := by
  refine answersKeeping_next ?_
  split
  · exact h
  · split
    · exact h
    · exact takePtrByte_keeps _ _ b _ (setCap_keeps _ none s h)

/-- A pointer of 13 bits stays within the memory (R150). -/
theorem execDataWrite_keeps (b : Byte) : AnswersKeeping s0 (execDataWrite b s) := by
  refine answersKeeping_next ?_
  split
  · exact h
  · next w _ => exact hostWrite_keeps _ b _ (s.port.ptr w).isLt (setCap_keeps w none _ (advance_keeps w s h))

theorem execDataRead_keeps : AnswersKeeping s0 (execDataRead s) := by
  refine answersKeeping_next ?_
  split
  · exact h
  · next w _ => exact modPort_keeps (setCap_keeps w _ _ (advance_keeps w s h)) _ fun _ k => k

/-- Clearing attention bits leaves none where there was none (R158). -/
theorem execAttentionWrite_keeps (b : Byte) : AnswersKeeping s0 (execAttentionWrite b s) := by
  refine answersKeeping_next ?_
  split
  · refine flushStatus_keeps _ (evalMatrix_keeps _ (modPort_keeps h _ fun p k hr => ?_))
    have h0 : p.attention = 0 := k hr
    show p.attention &&& ~~~b = 0
    rw [h0]
    exact BitVec.zero_and
  · exact h

theorem execAttnMaskWrite_keeps (b : Byte) : AnswersKeeping s0 (execAttnMaskWrite b s) := by
  refine answersKeeping_next ?_
  split
  · exact flushStatus_keeps _ (evalMatrix_keeps _ (modPort_keeps h _ fun _ k => k))
  · exact h

/-! ### The reset pin -/

theorem execResetnFall_keeps : AnswersKeeping s0 (execResetnFall s) := by
  refine answersKeeping_next ?_
  split
  · exact h
  · refine partReset_keeps _ _ _ (withSnap_keeps (modPort_keeps (withEnv_keeps h _) _ ?_) none)
    exact fun _ k => k

theorem execResetnRise_keeps : AnswersKeeping s0 (execResetnRise s) := by
  refine answersKeeping_next ?_
  split
  · exact finish_keeps _ (completeReset_keeps _ (resetMatrix_keeps _ (withRst_keeps
      (resetPort_keeps _ (withEnv_keeps h _)) _)))
  · exact h

/-! ### The orders -/

theorem execOrderWithdrawal_keeps (i : Fin 8) : AnswersKeeping s0 (execOrderWithdrawal i s) := by
  refine answersKeeping_next ?_
  split
  · exact finish_keeps _ (completeOrder_keeps i _ _ _ (giveUpWait_keeps i s h))
  · exact h

/-- An order of any row is taken by what its row does, and that keeps (R166). -/
theorem takeRow_answersKeeping {row : OrderRow} {act : Fin 8 → State → State}
    (hact : ∀ i s, Keeps s0 s → Keeps s0 (act i s)) : AnswersKeeping s0 (.next (takeRow row act s)) :=
  answersKeeping_next (takeRow_keeps row act s hact h)

/-! ### Field lines and trigger events -/

theorem execDebounceExpiry_keeps (i : Fin 12) : AnswersKeeping s0 (execDebounceExpiry i s) := by
  refine answersKeeping_next ?_
  split
  · exact flushStatus_keeps _ (takeLevel_keeps i _ (setDebounce_keeps i none s h))
  · exact h

theorem takeEvent_answersKeeping {f : TrigFn} {act : State → State} (hact : ∀ s, Keeps s0 s → Keeps s0 (act s)) :
    AnswersKeeping s0 (.next (takeEvent f act s)) :=
  answersKeeping_next (takeEvent_keeps f act s hact h)

/-! ### Timers, cadences and the score tick -/

theorem onEvent_answersKeeping {occurs : Bool} {act : State → State} (hact : ∀ s, Keeps s0 s → Keeps s0 (act s)) :
    AnswersKeeping s0 (.next (onEvent occurs act s)) :=
  answersKeeping_next (onEvent_keeps occurs act s hact h)

theorem onChange_answersKeeping {occurs : Bool} {act : State → State} (hact : ∀ s, Keeps s0 s → Keeps s0 (act s)) :
    AnswersKeeping s0 (.next (onChange occurs act s)) :=
  answersKeeping_next (onChange_keeps occurs act s hact h)

/-- At the end of a pause within a burst the burst goes on or is over (R114). -/
theorem execPacingExpiry_keeps (n : Cp) : AnswersKeeping s0 (execPacingExpiry n s) := by
  refine onEvent_answersKeeping h fun s h => ?_
  split
  · exact endBurst_keeps n s h
  · exact sendGroup_keeps n s h

/-! ### The lanes -/

theorem execResponseFrame_keeps (f : ResponseFrame) : AnswersKeeping s0 (execResponseFrame f s) := by
  refine answersKeeping_next ?_
  split
  · exact h
  · next t _ => exact onEvent_keeps _ _ s (endAnswered_keeps t _) h

theorem execResponseTimeout_keeps : AnswersKeeping s0 (execResponseTimeout s) := by
  refine answersKeeping_next ?_
  split
  · exact h
  · next t _ => exact onEvent_keeps _ _ s (endUnanswered_keeps t) h

theorem execEventLineChange_keeps (l : Lane) (asserted : Bool) : AnswersKeeping s0 (execEventLineChange l asserted s) := by
  refine answersKeeping_next (finish_keeps _ ?_)
  have he := withEnv_keeps h { s.env with evt := s.env.evt.set l asserted }
  split
  · exact modLane_keeps he l _
  · exact he

theorem execRestartsReset_keeps (l : Lane) : AnswersKeeping s0 (execRestartsReset l s) := by
  refine answersKeeping_next ?_
  split
  · exact flushLane_keeps l _ (modLane_keeps h l _)
  · exact h

theorem execIdentityRead_keeps (l : Lane) (sense : BitVec 4) : AnswersKeeping s0 (execIdentityRead l sense s) := by
  refine answersKeeping_next ?_
  split
  · exact h
  · next i _ => exact onEvent_keeps _ _ s (takeRead_keeps l i sense) h

/-! ### Every command and every step -/

/-- Every command's outcome keeps the invariants: its own effect does, and so does what follows at once. -/
theorem exec_keeps (c : Instr) : AnswersKeeping s0 (exec c s) := by
  cases c with
  | powerOn => exact answersKeeping_next (powerOn_keeps s h)
  | resetnFall => exact execResetnFall_keeps h
  | resetnRise => exact execResetnRise_keeps h
  | partReset => exact answersKeeping_next (controlByte_keeps _ s h)
  | portReset => exact answersKeeping_next (controlByte_keeps _ s h)
  | ptrWrite b => exact execPtrWrite_keeps h b
  | dataWrite b => exact execDataWrite_keeps h b
  | dataRead => exact execDataRead_keeps h
  | attentionWrite b => exact execAttentionWrite_keeps h b
  | attnMaskWrite b => exact execAttnMaskWrite_keeps h b
  | ignoredRegisterWrite b => exact answersKeeping_next (controlByte_keeps b s h)
  | orderWithdrawal i => exact execOrderWithdrawal_keeps h i
  | setTime => exact takeRow_answersKeeping h setTime_keeps
  | placeCall => exact takeRow_answersKeeping h placeCall_keeps
  | cancelCall => exact takeRow_answersKeeping h cancelCall_keeps
  | continueCall => exact takeRow_answersKeeping h continueCall_keeps
  | loadPlan => exact takeRow_answersKeeping h loadPlan_keeps
  | loadMatrix => exact takeRow_answersKeeping h loadMatrix_keeps
  | surveyNow => exact takeRow_answersKeeping h surveyNow_keeps
  | forgetCandidates => exact takeRow_answersKeeping h forgetCandidates_keeps
  | laneControlReset => exact takeRow_answersKeeping h laneReset_keeps
  | laneControlForceOff => exact takeRow_answersKeeping h laneForceOff_keeps
  | laneControlAuto => exact takeRow_answersKeeping h laneAuto_keeps
  | setPower => exact takeRow_answersKeeping h setPower_keeps
  | setPowerDormant => exact takeRow_answersKeeping h setPowerDormant_keeps
  | clearCounts => exact takeRow_answersKeeping h clearCounts_keeps
  | unknownOrder => exact takeRow_answersKeeping h fun i => completeOrder_keeps i _ _
  | fieldLineChange i level =>
    exact answersKeeping_next (flushStatus_keeps _ (pinChanged_keeps i _ (setPin_keeps i level s h)))
  | debounceExpiry i => exact execDebounceExpiry_keeps h i
  | callCpn n => exact takeEvent_answersKeeping h fun s h => finish_keeps _ (callTaken_keeps n s h)
  | cancelCpn n => exact takeEvent_answersKeeping h fun s h => finish_keeps _ (cancel_keeps n false s h)
  | tamper => exact takeEvent_answersKeeping h fun s h => flushStatus_keeps _ (raise_keeps _ _ (countTamper_keeps s h))
  | wake => exact takeEvent_answersKeeping h fun s h => finish_keeps _ (leaveDormant_keeps s h)
  | attachTimeout n =>
    exact onEvent_answersKeeping h fun s h =>
      applyOutcome_keeps n _ _ (clearCamp_keeps n _ (staleClaim_keeps n s h))
  | alertTimeout n => exact onEvent_answersKeeping h (clearingOutcome_keeps n _)
  | ringTimeout n => exact onEvent_answersKeeping h (clearingOutcome_keeps n _)
  | pauseExpiry n => exact onEvent_answersKeeping h (endPauseStep_keeps n)
  | retryPauseExpiry n => exact onEvent_answersKeeping h (endRetryPause_keeps n)
  | surveyWaitExpiry n => exact onEvent_answersKeeping h (endSurveyWait_keeps n)
  | locationDelayExpiry n => exact onEvent_answersKeeping h (endDelay_keeps n)
  | pacingExpiry n => exact execPacingExpiry_keeps h n
  | callbackWindowExpiry n => exact onEvent_answersKeeping h (endWatch_keeps n)
  | flashPhase n => exact onChange_answersKeeping h (modLamps_keeps n _)
  | ringerCadence n => exact onChange_answersKeeping h (modLamps_keeps n _)
  | responseFrame f => exact execResponseFrame_keeps h f
  | responseTimeout => exact execResponseTimeout_keeps h
  | eventLineChange l asserted => exact execEventLineChange_keeps h l asserted
  | startTimeout l => exact onEvent_answersKeeping h (faultLane_keeps l _)
  | restartTimerExpiry l =>
    exact onEvent_answersKeeping h fun s h => setLaneState_keeps l _ _ (modLane_keeps h l _)
  | probeTimerExpiry l => exact onEvent_answersKeeping h fun s h => addMaint_keeps l _ _ (modLane_keeps h l _)
  | restartsReset l => exact execRestartsReset_keeps h l
  | identityRead l sense => exact execIdentityRead_keeps h l sense
  | surveyDue l => exact onEvent_answersKeeping h (joinList_keeps l)
  | scanTimeout l =>
    exact onEvent_answersKeeping h fun s h => queueScan_keeps l _ _ (modScan_keeps (endScan_keeps l false s h) l _)
  | scoreTick => exact onChange_answersKeeping h tick_keeps
  | barLift =>
    exact onChange_answersKeeping h fun s h => changeEntries_keeps _ _ s (liftBar_key s) (liftBar_sound s) h
  | failDecay =>
    exact onChange_answersKeeping h fun s h => changeEntries_keeps _ _ s (decayFail_key s) (decayFail_sound s) h
  | lifetimeRemoval => exact onChange_answersKeeping h removeOutlived_keeps
  | measurementExpiry battery temperature =>
    exact onEvent_answersKeeping (setCodes_keeps battery temperature s h) (measure_keeps battery temperature)
  | uptimeSecond =>
    exact answersKeeping_next (finish_keeps _ (rewriteStatus_keeps _ (sampleEvts_keeps _ (riseSecond_keeps s h))))
  | registerSelectByte b => exact execRegisterSelectByte_keeps h b
  | hostTransactionEnd => exact execHostTransactionEnd_keeps h

theorem passMs_keeps : AnswersKeeping s0 (passMs s) := by
  unfold passMs
  split
  · exact exec_keeps h _
  · exact answersKeeping_next (finish_keeps _ (sampleEvts_keeps _ (withTime_keeps h _)))

theorem idleStep_keeps : AnswersKeeping s0 (idleStep s) := by
  unfold idleStep
  split
  · exact answersKeeping_next (finish_keeps s h)
  · split
    · exact passMs_keeps h
    · exact exec_keeps h _

end

/-- Every step keeps the invariants, by a command at the front of the queue or of the part's own accord. -/
theorem step_keeps {s t : State} (e : step s = .next t) : Keeps s t := by
  have hs : AnswersKeeping s (step s) := by
    unfold step
    split
    · exact idleStep_keeps (.refl s)
    · next c rest _ => exact exec_keeps (withPending_keeps (.refl s) rest) c
  exact hs t e

end Sys2Proof.Machine

namespace Sys2Proof.Proofs
open Sys2Proof.Machine

/-- Settles O59, by what every command and every step of the part's own keeps. -/
theorem everyStepKeepsTableQueueCountersAndAttention : Obligations.EveryStepKeepsTableQueueCountersAndAttention := by
  intro s t e
  have k := step_keeps e
  exact ⟨k.table, k.queue, k.counters, k.attention⟩

end Sys2Proof.Proofs
end

section
namespace Sys2Proof.Proofs
open Sys2Proof.Machine

/-- Settles O60: the memory is two writes into a zeroed one, nothing is in the table or in the start queue, and the counters
and attention are 0. -/
theorem resetMeetsTheInvariants : Obligations.ResetMeetsTheInvariants := by
  have hmem : MemoryInv State.reset :=
    Memory.wf_place _ _ _ _ (Memory.wf_place _ _ _ _ rfl (by decide)) (by decide)
  refine ⟨hmem, TableContent.nil.ordered, ⟨List.nodup_nil, .nil⟩, ?_, fun _ => rfl⟩
  constructor <;> exact Nat.zero_le _

end Sys2Proof.Proofs
end

section
namespace Sys2Proof.Machine

/-! ## The stored score -/

theorem clampInt_eq {lo hi : Int} (h : lo ≤ hi) (n : Int) : clampInt lo hi n = max lo (min hi n) := by
  unfold clampInt
  split
  · omega
  · split <;> omega

/-- The stages of the score, as one sum that is clamped to [0, 511] (R54). -/
theorem scoreValue_cast (level : Int) (quality weight age fails penalty : Nat) (barred : Bool) :
    (scoreValue level quality weight age fails penalty barred : Int) = if barred then 0 else max 0 (min 511
      ((level + 125) * 4 + (quality : Int) * 10 + weight - min ((age / 16 : Nat) : Int) 100
        - min ((fails * 48 : Nat) : Int) 240 - (penalty : Int) * 20)) := by
  unfold scoreValue
  cases barred with
  | true => rfl
  | false =>
    dsimp only
    rw [if_neg Bool.false_ne_true, if_neg Bool.false_ne_true, clampInt_eq (by decide),
      Int.toNat_of_nonneg (le_max_left 0 _)]
    push_cast
    rfl

end Sys2Proof.Machine

namespace Sys2Proof.Proofs
open Sys2Proof.Machine

/-- Settles O53, by the stages of the score. -/
theorem storedScoresFollowTheStages : Obligations.StoredScoresFollowTheStages := by
  intro s e
  exact ⟨scoreValue_cast _ _ _ _ _ _ _, scoreValue_le _ _ _ _ _ _ _, rfl⟩

end Sys2Proof.Proofs
end

section
namespace Sys2Proof.Machine

/-! ## Candidates removed by lane -/

/-- A publication of the table is one change of the mirror (R69). -/
theorem publishTable_revision (t : List Entry) (s : State) :
    (publishTable t s).mem.num 0x700 2 = (s.mem.num 0x700 2 + 2) % 65536 := by
  have hm : (publishTable t s).mem = s.mem.rewrite Config.mirrorBase mirrorSize (mirrorContent (ordered t)) := by
    have hu := raise_spec .table ((s.withTable (ordered t)).withMem
      (s.mem.rewrite Config.mirrorBase mirrorSize (mirrorContent (ordered t))))
    exact congrArg State.mem hu.frame
  rw [hm]
  exact Memory.num_rewrite s.mem Config.mirrorBase mirrorSize _ (by decide)

theorem TablePublished.mem_iff {s u : State} {t : List Entry} (h : TablePublished s u t) (e : Entry) :
    e ∈ u.table ↔ e ∈ t := by
  rw [h.table]
  exact (ordered_perm t).mem_iff

section
variable {named : Lane → Bool} {s : State}

theorem removeLanes_spec (h : ∃ e ∈ s.table, named e.key.lane = true) :
    TablePublished s (removeLanes named s) (s.table.filter fun e => !named e.key.lane)
      ∧ (removeLanes named s).mem.num 0x700 2 = (s.mem.num 0x700 2 + 2) % 65536 := by
  have hr : removeLanes named s = publishTable (s.table.filter fun e => !named e.key.lane) s :=
    if_pos (List.any_eq_true.mpr h)
  rw [hr]
  exact ⟨publishTable_spec _ s, publishTable_revision _ s⟩

theorem removeLanes_of_none (h : ∀ e ∈ s.table, named e.key.lane = false) : removeLanes named s = s := by
  refine if_neg fun hany => ?_
  obtain ⟨e, he, hn⟩ := List.any_eq_true.mp hany
  exact Bool.false_ne_true ((h e he).symm.trans hn)

end

section
variable {s : State} {i : Fin 8} {mask : Byte}

theorem argLanes_of_front (h : FrontOrder s i 8 [mask]) (l : Lane) :
    argLanes (takeOrder i s) i l = mask.getLsbD l.num := by
  have a1 : orderArg s i 1 = mask := orderArg_of_front h 0 (by simp)
  rw [argLanes, orderArg_takeOrder, a1]

theorem takeRow_forgetCandidates (h : FrontOrder s i 8 [mask]) (hm : mask.toNat ≤ 15) :
    exec .forgetCandidates s = .next (finish (forgetCandidates i (takeOrder i s))) := by
  have a1 : orderArg s i 1 = mask := orderArg_of_front h 0 (by simp)
  refine congrArg Host.Outcome.next (takeRow_of_front h (by unfold orderRow; rw [orderCode_of_front h]; rfl) ?_)
  unfold badArgument
  rw [orderCode_of_front h]
  simp [a1, badIf, hm]

end

end Sys2Proof.Machine

namespace Sys2Proof.Proofs
open Sys2Proof.Machine

/-- Settles O26, by whether a candidate of a named lane stands in the table. -/
theorem forgetCandidatesRemovesTheNamedLanes : Obligations.ForgetCandidatesRemovesTheNamedLanes := by
  intro s i mask h hm
  have hl := argLanes_of_front h
  refine ⟨fun hsome => ⟨_, takeRow_forgetCandidates h hm, ?_⟩, fun hnone => ?_⟩
  · have hthere : ∃ e ∈ (takeOrder i s).table, argLanes (takeOrder i s) i e.key.lane = true := by
      simp only [hl]
      exact hsome
    obtain ⟨hw, hrev⟩ := removeLanes_spec hthere
    rw [forgetCandidates, orderOk]
    generalize removeLanes _ (takeOrder i s) = w at hw hrev
    have hu := completeOrder_spec i .ok [] w
    generalize completeOrder i .ok [] w = u at hu
    have hut : u.table = w.table := by rw [hu.frame]
    have hslot := i.isLt
    refine ⟨fun e => ?_, ?_, ?_, hu.sameButSlot hw.outside, by rw [hu.frame, hw.frame]; rfl⟩
    · rw [hut, hw.mem_iff]
      simp only [List.mem_filter, hl, Bool.not_eq_true']
      rfl
    · have hafter : u.mem.num 0x700 2 = w.mem.num 0x700 2 := Memory.num_two_congr fun x h1 h2 =>
        hu.read (by rw [slotAddr_eq]; omega) (by rw [slotAddr_eq]; omega)
      have hbefore : (takeOrder i s).mem.num 0x700 2 = s.mem.num 0x700 2 := Memory.num_two_congr fun x h1 h2 =>
        takeOrder_read i s x (by rw [slotAddr_eq]; omega)
      rw [hafter, hrev, hbefore]
    · exact hu.completed (s := s) (by rw [hw.frame]) hw.port hw.grows
  · refine completesThrough_orderOnly (r := .ok) (takeRow_forgetCandidates h hm) ?_
    have hnothing : removeLanes (argLanes (takeOrder i s) i) (takeOrder i s) = takeOrder i s :=
      removeLanes_of_none fun e he => (hl _).trans (hnone e he)
    rw [forgetCandidates, orderOk, hnothing]

end Sys2Proof.Proofs
end

section
namespace Sys2Proof.Machine

/-! ## The publication of the part status block -/

theorem rewriteStatuses_spec (k : Nat) (s : State) : rewriteStatuses k s = { s with mem := (rewriteStatuses k s).mem }
    ∧ ∀ a, 42 ≤ a → (rewriteStatuses k s).mem.read a = s.mem.read a := by
  induction k generalizing s with
  | zero => exact ⟨rfl, fun _ _ => rfl⟩
  | succ k ih =>
    obtain ⟨hframe, hmem⟩ := ih (rewriteStatus s)
    refine ⟨hframe, fun a ha => (hmem a ha).trans ?_⟩
    exact Memory.read_rewrite_outside s.mem Config.statusBase statusSize _ a (.inr (by show 0 + 42 ≤ a; omega))

/-- What the publication of the part status block can change: the block, and the evaluations still to be shown (R159). -/
structure StatusFlushed (s u : State) : Prop where
  outside : ∀ a, 42 ≤ a → u.mem.read a = s.mem.read a
  grows : s.matrix.Grows u.matrix
  frame : u = { s with mem := u.mem, matrix := u.matrix }

theorem flushStatus_spec (s : State) : StatusFlushed s (flushStatus s) := by
  rcases flushStatus_cases s with ⟨-, -, e⟩ | ⟨-, -, e⟩ | ⟨-, e⟩
  · rw [e]
    exact ⟨fun _ _ => rfl, .refl _, rfl⟩
  · obtain ⟨-, hmem⟩ := rewriteStatuses_spec 1 s
    rw [e]
    exact ⟨hmem, .refl _, rfl⟩
  · obtain ⟨hframe, hmem⟩ := rewriteStatuses_spec s.matrix.unshown (modMatrix (fun m => { m with unshown := 0 }) s)
    rw [e, hframe]
    exact ⟨hmem, ⟨rfl, [], (List.append_nil _).symm⟩, rfl⟩

/-! ## The score tick and its parts -/

theorem tickIsDue_iff (s : State) : tickIsDue s = true ↔ s.tickDue = true ∧ s.time.uptime.toNat % 16 = 0 := by
  rw [tickIsDue, Bool.and_eq_true, decide_eq_true_eq]
  rfl

/-- A part of a score tick gives the table these entries, in table order, leaves the tick due or not, and changes nothing
else but what publishes the table (R62, R69). -/
structure TableTicked (s u : State) (t : List Entry) (due : Bool) : Prop where
  table : ∀ e, e ∈ u.table ↔ e ∈ t
  length : u.table.length = t.length
  due : u.tickDue = due
  outside : ∀ a, 42 ≤ a → ¬(0x700 ≤ a ∧ a < 0xA00) → u.mem.read a = s.mem.read a
  port : u.port = s.port ∨ u.port = raised s.port 0x08
  grows : s.matrix.Grows u.matrix
  frame : u = { s with table := u.table, tickDue := u.tickDue, mem := u.mem, port := u.port, matrix := u.matrix }

section
variable {s u : State} {t : List Entry} {due : Bool}

/-- The entries are those that the table holds. -/
theorem TableTicked.of_same (h : t = s.table) : TableTicked s (s.withTickDue due) t due where
  table _ := h ▸ Iff.rfl
  length := h ▸ rfl
  due := rfl
  outside _ _ _ := rfl
  port := .inl rfl
  grows := .refl _
  frame := rfl

theorem TableTicked.of_published (h : TablePublished (s.withTickDue due) u t) : TableTicked s u t due where
  table := h.mem_iff
  length := by rw [h.table, (ordered_perm t).length_eq]
  due := by
    rw [h.frame]
    rfl
  outside a _ ha := h.outside a (by omega)
  port := .inr h.port
  grows := h.grows
  frame := by
    rw [h.frame]
    rfl

/-- The part status block is published after it. -/
theorem TableTicked.flushed (h : TableTicked s u t due) : TableTicked s (flushStatus u) t due := by
  have hv := flushStatus_spec u
  generalize flushStatus u = v at hv
  have ht : v.table = u.table := by rw [hv.frame]
  have hd : v.tickDue = u.tickDue := by rw [hv.frame]
  have hp : v.port = u.port := by rw [hv.frame]
  exact {
    table := ht ▸ h.table
    length := ht ▸ h.length
    due := hd ▸ h.due
    outside := fun a ha hm => (hv.outside a ha).trans (h.outside a ha hm)
    port := hp ▸ h.port
    grows := h.grows.trans hv.grows
    frame := by rw [hv.frame, h.frame] }

theorem TableTicked.of_onChange {act : State → State} {occurs : Bool} (h : TableTicked s (act s) t due)
    (ho : occurs = true) : TableTicked s (onChange occurs act s) t due := by
  rw [onChange, if_pos ho]
  exact h.flushed

end

theorem tick_spec (s : State) :
    TableTicked s (tick s) ((s.table.filter fun e => !outlived s e).map (tickEntry s)) false := by
  unfold tick
  dsimp only
  split
  · next h =>
    have hnil : s.table = [] := List.isEmpty_iff.mp h
    exact .of_same (by rw [hnil]; rfl)
  · exact .of_published (publishTable_spec _ _)

theorem changeEntries_spec (p : Entry → Bool) (f : Entry → Entry) (s : State) :
    TableTicked s (changeEntries p f s) (s.table.map fun e => if p e then scored s (f e) else e) s.tickDue := by
  unfold changeEntries
  split
  · exact .of_published (publishTable_spec _ s)
  · next h =>
    have hno : ∀ e ∈ s.table, ¬p e = true := List.any_eq_false.mp (Bool.eq_false_iff.mpr h)
    exact .of_same ((List.map_congr_left fun e he => if_neg (hno e he)).trans (List.map_id' _))

theorem removeOutlived_spec (s : State) :
    TableTicked s (removeOutlived s) (s.table.filter fun e => !outlived s e) s.tickDue := by
  unfold removeOutlived
  split
  · exact .of_published (publishTable_spec _ s)
  · next h =>
    have hno : ∀ e ∈ s.table, ¬outlived s e = true := List.any_eq_false.mp (Bool.eq_false_iff.mpr h)
    exact .of_same (List.filter_eq_self.mpr fun e he => by rw [Bool.eq_false_iff.mpr (hno e he)]; rfl)

/-- With no tick due none of its commands has an effect (R62; log entry 3). -/
theorem exec_tickPart_of_not_due {s : State} (h : ¬tickIsDue s = true) {c : Instr}
    (hc : c ∈ [Instr.scoreTick, .barLift, .failDecay, .lifetimeRemoval]) : exec c s = .next s := by
  simp only [List.mem_cons, List.not_mem_nil, or_false] at hc
  rcases hc with rfl | rfl | rfl | rfl
  all_goals exact congrArg Host.Outcome.next (if_neg h)

/-! ## The entries at a score tick -/

theorem not_outlived_iff (s : State) (e : Entry) :
    (!outlived s e) = true ↔ min (s.time.uptime - e.updated).toNat 65535 < lifetimeOf s := by
  rw [outlived, Bool.not_eq_true', decide_eq_false_iff_not, Nat.not_le]
  rfl

theorem barDue_iff (s : State) (e : Entry) : barDue s e = true ↔ TimeUp s e.barred := (Proofs.timeUp_iff s e.barred).symm

theorem failDue_iff (s : State) (e : Entry) :
    failDue s e = true ↔ 0 < e.fails ∧ TimeUp s (some (e.failChange + BitVec.ofNat 32 (failDecayOf s))) := by
  rw [failDue, Bool.and_eq_true, decide_eq_true_eq, Proofs.timeUp_iff]
  rfl

theorem liftBar_eq (s : State) (e : Entry) :
    liftBar s e = { e with barred := if barDue s e then none else e.barred } := by
  unfold liftBar
  split <;> rfl

theorem decayFail_eq (s : State) (e : Entry) : decayFail s e = { e with
    fails := if failDue s e then e.fails - 1 else e.fails
    failChange := if failDue s e then s.now else e.failChange } := by
  unfold decayFail
  split <;> rfl

theorem tickEntry_eq (s : State) (e : Entry) : tickEntry s e = scored s { e with
    barred := if barDue s e then none else e.barred
    fails := if failDue s e then e.fails - 1 else e.fails
    failChange := if failDue s e then s.now else e.failChange } := by
  rw [tickEntry, liftBar_eq, decayFail_eq]
  rfl

section
variable (s : State) (e x : Entry)

/-- A bar whose time has come is lifted, and no other (R63). -/
def BarLifted : Prop := (TimeUp s e.barred → x.barred = none) ∧ (¬TimeUp s e.barred → x.barred = e.barred)

/-- A fail count above 0 whose decay period has passed falls by one, and no other (R64). -/
def FailDecayed : Prop :=
  (0 < e.fails ∧ TimeUp s (some (e.failChange + BitVec.ofNat 32 (failDecayOf s))) →
      x.fails = e.fails - 1 ∧ x.failChange = s.time.uptime)
    ∧ (¬(0 < e.fails ∧ TimeUp s (some (e.failChange + BitVec.ofNat 32 (failDecayOf s)))) →
      x.fails = e.fails ∧ x.failChange = e.failChange)

/-- An entry aged and scored, of the bar and the fails that it now has (R54, R62). -/
def AgedAndScored : Prop :=
  x = { e with
      age := min (s.time.uptime - e.updated).toNat 65535, barred := x.barred, fails := x.fails
      failChange := x.failChange, score := x.score }
    ∧ x.score = scoreValue x.level x.quality (genWeight s x.key.gen) x.age x.fails (s.lane x.key.lane).noResp
        x.barred.isSome

variable {s e x}

theorem barLifted_of (h : x.barred = if barDue s e then none else e.barred) : BarLifted s e x := by
  unfold BarLifted
  rw [← barDue_iff, h]
  exact ⟨fun hd => if_pos hd, fun hd => if_neg hd⟩

theorem failDecayed_of (hf : x.fails = if failDue s e then e.fails - 1 else e.fails)
    (hc : x.failChange = if failDue s e then s.now else e.failChange) : FailDecayed s e x := by
  unfold FailDecayed
  rw [← failDue_iff, hf, hc]
  exact ⟨fun hd => ⟨if_pos hd, if_pos hd⟩, fun hd => ⟨if_neg hd, if_neg hd⟩⟩

theorem agedAndScored_scored (h : x = { e with barred := x.barred, fails := x.fails, failChange := x.failChange }) :
    AgedAndScored s e (scored s x) := by
  rw [h]
  exact ⟨rfl, rfl⟩

variable (s e)

theorem tickEntry_spec :
    BarLifted s e (tickEntry s e) ∧ FailDecayed s e (tickEntry s e) ∧ AgedAndScored s e (tickEntry s e) := by
  rw [tickEntry_eq]
  exact ⟨barLifted_of rfl, failDecayed_of rfl rfl, agedAndScored_scored rfl⟩

theorem liftBar_scored_spec : BarLifted s e (scored s (liftBar s e)) ∧ (scored s (liftBar s e)).fails = e.fails
    ∧ (scored s (liftBar s e)).failChange = e.failChange ∧ AgedAndScored s e (scored s (liftBar s e)) := by
  rw [liftBar_eq]
  exact ⟨barLifted_of rfl, rfl, rfl, agedAndScored_scored rfl⟩

theorem decayFail_scored_spec : (scored s (decayFail s e)).barred = e.barred
    ∧ FailDecayed s e (scored s (decayFail s e)) ∧ AgedAndScored s e (scored s (decayFail s e)) := by
  rw [decayFail_eq]
  exact ⟨rfl, failDecayed_of rfl rfl, agedAndScored_scored rfl⟩

end

section
variable {s t : State} {p : Entry → Bool} {f : Entry → Entry} {e : Entry}
  (h : TableTicked s t (s.table.map fun e => if p e then scored s (f e) else e) s.tickDue)
include h

theorem TableTicked.mem_of_not (he : e ∈ s.table) (hp : ¬p e = true) : e ∈ t.table :=
  (h.table e).mpr (List.mem_map.mpr ⟨e, he, if_neg hp⟩)

theorem TableTicked.mem_scored (he : e ∈ s.table) (hp : p e = true) : scored s (f e) ∈ t.table :=
  (h.table _).mpr (List.mem_map.mpr ⟨e, he, if_pos hp⟩)

end

end Sys2Proof.Machine

namespace Sys2Proof.Proofs
open Sys2Proof.Machine

/-- Settles O54, by the entries that a tick and each of its parts give the table, and by what becomes of one entry. -/
theorem scoreTicksAgeLiftDecayAndRemove : Obligations.ScoreTicksAgeLiftDecayAndRemove := by
  intro s age lifts decays lifted decayed scoredAs frame
  refine ⟨fun hdue hmod => ?_, fun hnot c hc => ?_⟩
  · have hd : tickIsDue s = true := (tickIsDue_iff s).mpr ⟨hdue, hmod⟩
    have hframe : ∀ {t l due}, TableTicked s t l due → frame t := fun h => ⟨h.outside, h.port, h.grows, h.frame⟩
    have htick := (tick_spec s).of_onChange hd
    have hbar := (changeEntries_spec (barDue s) (liftBar s) s).of_onChange
      (act := fun s => changeEntries (barDue s) (liftBar s) s) hd
    have hfail := (changeEntries_spec (failDue s) (decayFail s) s).of_onChange
      (act := fun s => changeEntries (failDue s) (decayFail s) s) hd
    have hlife := (removeOutlived_spec s).of_onChange hd
    refine ⟨⟨_, rfl, htick.due, hframe htick, fun x hx => ?_, fun e he hage => ?_⟩,
      ⟨_, rfl, hbar.due.trans hdue, hframe hbar, hbar.length.trans (List.length_map _), fun e he hno => ?_,
        fun e he hup => ?_⟩,
      ⟨_, rfl, hfail.due.trans hdue, hframe hfail, hfail.length.trans (List.length_map _), fun e he hno => ?_,
        fun e he hup => ?_⟩,
      ⟨_, execLifetimeRemoval_eq s, hlife.due.trans hdue, hframe hlife, fun e => ?_⟩⟩
    · obtain ⟨e, he, rfl⟩ := List.mem_map.mp ((htick.table x).mp hx)
      obtain ⟨he, hage⟩ := List.mem_filter.mp he
      exact ⟨e, he, (not_outlived_iff s e).mp hage, tickEntry_spec s e⟩
    · have hstays : e ∈ s.table.filter fun e => !outlived s e :=
        List.mem_filter.mpr ⟨he, (not_outlived_iff s e).mpr hage⟩
      exact ⟨_, (htick.table _).mpr (List.mem_map_of_mem hstays), tickEntry_spec s e⟩
    · exact hbar.mem_of_not he ((barDue_iff s e).not.mpr hno)
    · obtain ⟨hlifted, hkept⟩ := liftBar_scored_spec s e
      obtain ⟨hup', -⟩ := hlifted
      exact ⟨_, hbar.mem_scored he ((barDue_iff s e).mpr hup), hup' hup, hkept⟩
    · exact hfail.mem_of_not he ((failDue_iff s e).not.mpr hno)
    · exact ⟨_, hfail.mem_scored he ((failDue_iff s e).mpr hup), decayFail_scored_spec s e⟩
    · rw [hlife.table, List.mem_filter, not_outlived_iff]
  · refine exec_tickPart_of_not_due (fun hd => ?_) hc
    obtain ⟨hdue, hmod⟩ := (tickIsDue_iff s).mp hd
    rcases hnot with h | h
    · exact Bool.false_ne_true (h.symm.trans hdue)
    · exact h hmod

end Sys2Proof.Proofs
end

section
namespace Sys2Proof.Machine

/-! ## The survey fields of a lane and the survey list -/

section
variable {s : State} {l m : Lane}

@[simp] theorem modScan_scan_same (l : Lane) (f : SurveyLane → SurveyLane) (s : State) :
    (modScan l f s).scan l = f (s.scan l) := Quad.get_set_same _ _ _
theorem modScan_scan_of_ne (h : m ≠ l) (f : SurveyLane → SurveyLane) (s : State) :
    (modScan l f s).scan m = s.scan m := Quad.get_set_of_ne _ h _

/-- Where a lane is put into a list by its due time: behind lanes that it does not precede, before the first one that it
precedes (R73). -/
structure InsertedDue (s : State) (l : Lane) (list new before behind : List Lane) : Prop where
  old : list = before ++ behind
  new : new = before ++ [l] ++ behind
  passed : ∀ m ∈ before, dueBefore s l m = false
  next : ∀ m ∈ behind.head?, dueBefore s l m = true

theorem insertDue_spec (s : State) (l : Lane) (list : List Lane) :
    ∃ before behind, InsertedDue s l list (insertDue s l list) before behind := by
  induction list with
  | nil => exact ⟨[], [], rfl, rfl, nofun, nofun⟩
  | cons m ms ih =>
    cases hm : dueBefore s l m with
    | true =>
      refine ⟨[], m :: ms, rfl, by rw [insertDue, if_pos hm]; rfl, nofun, fun x hx => ?_⟩
      obtain rfl := Option.some.inj hx
      exact hm
    | false =>
      obtain ⟨before, behind, h⟩ := ih
      refine ⟨m :: before, behind, by rw [h.old]; rfl, ?_, List.forall_mem_cons.mpr ⟨hm, h.passed⟩, h.next⟩
      rw [insertDue, if_neg (by rw [hm]; decide), h.new]
      rfl

theorem mem_insertDue (list : List Lane) : m ∈ insertDue s l list ↔ m = l ∨ m ∈ list := by
  obtain ⟨before, behind, h⟩ := insertDue_spec s l list
  rw [h.new, h.old]
  simp only [List.mem_append, List.mem_singleton]
  exact or_right_comm.trans or_comm

/-- The order of the list: the earlier due time across the wrap of uptime, then the lower lane number (R73). -/
theorem dueBefore_iff {x y : Seconds} (hx : (s.scan l).due = some x) (hy : (s.scan m).due = some y) :
    dueBefore s l m = true ↔ x = y ∧ l.num < m.num ∨ x ≠ y ∧ (y - x).toNat < 2147483648 := by
  have hl : s.due l = x := by rw [State.due, hx]; rfl
  have hm : s.due m = y := by rw [State.due, hy]; rfl
  unfold dueBefore reached
  rw [hl, hm]
  by_cases e : x = y <;> simp [e]

theorem listed_iff (s : State) (l : Lane) : s.survey.list.any (fun m => decide (m = l)) = true ↔ l ∈ s.survey.list := by
  simp

/-- A lane that is on the list keeps its place there (R73). -/
theorem joinList_of_listed (h : l ∈ s.survey.list) : joinList l s = markLane l s := if_pos ((listed_iff s l).mpr h)

theorem joinList_of_not_listed (h : l ∉ s.survey.list) :
    joinList l s = markLane l (s.withSurvey { s.survey with list := insertDue s l s.survey.list }) :=
  if_neg ((listed_iff s l).not.mpr h)

/-- A lane is on the survey list, and is to be considered there (R73). -/
structure ListJoined (s u : State) (l : Lane) : Prop where
  scan : u.scan l = { s.scan l with consider := true }
  otherScans : ∀ m, m ≠ l → u.scan m = s.scan m
  listed : ∀ m, m ∈ u.survey.list ↔ m = l ∨ m ∈ s.survey.list
  frame : u = { s with survey := { s.survey with list := u.survey.list, lanes := u.survey.lanes } }

theorem joinList_spec (l : Lane) (s : State) : ListJoined s (joinList l s) l := by
  by_cases h : l ∈ s.survey.list
  · rw [joinList_of_listed h]
    exact ⟨modScan_scan_same l _ s, fun _ hm => modScan_scan_of_ne hm _ s,
      fun m => ⟨.inr, fun e => e.elim (fun e => e ▸ h) id⟩, rfl⟩
  · rw [joinList_of_not_listed h]
    exact ⟨modScan_scan_same l _ _, fun _ hm => modScan_scan_of_ne hm _ _, fun _ => mem_insertDue _, rfl⟩

theorem fallsDue_iff (s : State) (l : Lane) : fallsDue s l = true ↔
    TimeUp s (s.scan l).due ∧ (s.scan l).stage.inFlight = false ∧ l ∉ s.survey.list := by
  rw [Proofs.timeUp_iff, fallsDue, Bool.and_eq_true, Bool.and_eq_true, Bool.not_eq_true', Bool.not_eq_true',
    ← listed_iff, Bool.not_eq_true, and_assoc]

theorem exec_surveyDue (l : Lane) (s : State) :
    exec (.surveyDue l) s = .next (if fallsDue s l then finish (joinList l s) else s) := rfl

/-! ## The end of a scan -/

/-- A request's status for a lane once its scan has ended (R82, R83). -/
theorem settleIn_of_pending {q : SurveyReq} (h : q.get l = some .pending) (v : ReqStatus) :
    (settleIn l v q).get l = some v ∧ ∀ m, m ≠ l → (settleIn l v q).get m = q.get m := by
  rw [settleIn, if_pos h]
  exact ⟨Quad.get_set_same _ _ _, fun _ hm => Quad.get_set_of_ne _ hm _⟩

@[simp] theorem modScan_lane (l m : Lane) (f : SurveyLane → SurveyLane) (s : State) :
    (modScan l f s).lane m = s.lane m := rfl
@[simp] theorem modLane_scan (l m : Lane) (f : LaneRec → LaneRec) (s : State) : (modLane l f s).scan m = s.scan m := rfl
@[simp] theorem tellRequests_scan (l m : Lane) (v : ReqStatus) (s : State) :
    (tellRequests l v s).scan m = s.scan m := rfl
@[simp] theorem tellRequests_lane (l m : Lane) (v : ReqStatus) (s : State) :
    (tellRequests l v s).lane m = s.lane m := rfl
@[simp] theorem queueScan_scan (l m : Lane) (tx : ScanTx) (s : State) : (queueScan l tx s).scan m = s.scan m := rfl

/-- A scan has ended (R78): its fields, the lane's outstanding tag and the requests that waited for it. -/
structure ScanEnded (s u : State) (l : Lane) (completed : Bool) : Prop where
  scan : u.scan l = { s.scan l with
    scanTag := none, timer := none, lastResult := if completed then .completed else .failed
    due := some (later s.now (surveyPeriod s)) }
  otherScans : ∀ m, m ≠ l → u.scan m = s.scan m
  lane : u.lane l = { s.lane l with outTag := (s.lane l).outTag.filter (fun t => decide (t.2 ≠ Owner.survey)) }
  otherLanes : ∀ m, m ≠ l → u.lane m = s.lane m
  rescans : ∀ n, u.survey.ctxReq.get n =
    (s.survey.ctxReq.get n).map (settleIn l (if completed then .completed else .failed))
  frame : u = { s with lanes := u.lanes, survey := { s.survey with
    lanes := u.survey.lanes, ctxReq := u.survey.ctxReq, orderReq := u.survey.orderReq } }

theorem endScan_spec (l : Lane) (completed : Bool) (s : State) : ScanEnded s (endScan l completed s) l completed where
  scan := by
    unfold endScan
    simp only [tellRequests_scan, dueLater, modScan_scan_same, modLane_scan]
    rfl
  otherScans m hm := by
    unfold endScan
    simp only [tellRequests_scan, dueLater, modScan_scan_of_ne hm, modLane_scan]
  lane := by
    unfold endScan
    simp only [tellRequests_lane, dueLater, modScan_lane, modLane_lane_same]
  otherLanes m hm := by
    unfold endScan
    simp only [tellRequests_lane, dueLater, modScan_lane, modLane_lane_of_ne hm]
  rescans n := by cases n <;> rfl
  frame := rfl

theorem scanExpired_iff (s : State) (l : Lane) :
    scanExpired s l = true ↔ (s.scan l).stage = .running ∧ TimeUp s (s.scan l).timer := by
  rw [Proofs.timeUp_iff, scanExpired, Bool.and_eq_true, decide_eq_true_eq]

/-- A scan that takes too long ends failed, and its abort is queued (R79). -/
def timeOutScan (l : Lane) (s : State) : State :=
  queueScan l .abort (modScan l (fun v => { v with stage := .aborting }) (endScan l false s))

theorem exec_scanTimeout (l : Lane) (s : State) :
    exec (.scanTimeout l) s = .next (if scanExpired s l then finish (timeOutScan l s) else s) := rfl

/-- What a scan's timeout leaves (R78, R79). -/
structure ScanTimedOut (s u : State) (l : Lane) : Prop where
  scan : u.scan l = { s.scan l with
    stage := .aborting, scanTag := none, timer := none, lastResult := .failed
    due := some (later s.now (surveyPeriod s)) }
  otherScans : ∀ m, m ≠ l → u.scan m = s.scan m
  queue : u.survey.queue = s.survey.queue ++ [(l, .abort)]
  list : u.survey.list = s.survey.list
  lane : u.lane l = { s.lane l with outTag := (s.lane l).outTag.filter (fun t => decide (t.2 ≠ Owner.survey)) }
  otherLanes : ∀ m, m ≠ l → u.lane m = s.lane m
  rescans : ∀ n, u.survey.ctxReq.get n = (s.survey.ctxReq.get n).map (settleIn l .failed)
  frame : u = { s with survey := u.survey, lanes := u.lanes }

theorem timeOutScan_spec (l : Lane) (s : State) : ScanTimedOut s (timeOutScan l s) l := by
  unfold timeOutScan
  have he := endScan_spec l false s
  generalize endScan l false s = t at he
  have hq : t.survey.queue = s.survey.queue := by rw [he.frame]
  have hl : t.survey.list = s.survey.list := by rw [he.frame]
  exact {
    scan := by
      rw [queueScan_scan, modScan_scan_same, he.scan]
      rfl
    otherScans := fun m hm => by rw [queueScan_scan, modScan_scan_of_ne hm, he.otherScans m hm]
    queue := congrArg (· ++ [(l, ScanTx.abort)]) hq
    list := hl
    lane := he.lane
    otherLanes := he.otherLanes
    rescans := he.rescans
    frame := by rw [he.frame]; rfl }

end

end Sys2Proof.Machine

namespace Sys2Proof.Proofs
open Sys2Proof.Machine

/-- Settles O52, by the place that the lane takes on the list, and by what a timed out scan leaves. -/
theorem surveyTimesListAndAbort : Obligations.SurveyTimesListAndAbort := by
  intro s l
  refine ⟨fun hdue hstage hlist => ?_, fun hnot => ?_, fun hrun htime => ?_, fun hnot => ?_⟩
  · have hstage : (s.scan l).stage.inFlight = false := by rcases hstage with e | e <;> rw [e] <;> rfl
    have hfalls := (fallsDue_iff s l).mpr ⟨hdue, hstage, hlist⟩
    refine ⟨joinList l s, by rw [exec_surveyDue, if_pos hfalls], ?_⟩
    obtain ⟨before, behind, hplace⟩ := insertDue_spec s l s.survey.list
    have hnew : (joinList l s).survey.list = before ++ [l] ++ behind := by
      rw [joinList_of_not_listed hlist, ← hplace.new]
      rfl
    have hu := joinList_spec l s
    exact ⟨⟨before, behind, hplace.old, hnew, hplace.passed, hplace.next⟩, fun m x y hx hy => dueBefore_iff hx hy,
      hu.scan, hu.otherScans, hu.frame⟩
  · rw [exec_surveyDue, if_neg]
    intro hfalls
    obtain ⟨hdue, hstage, hlist⟩ := (fallsDue_iff s l).mp hfalls
    rcases hnot with h | h | h
    · exact h hdue
    · exact hlist h
    · simp only [List.mem_cons, List.not_mem_nil, or_false] at h
      rcases h with e | e | e <;> rw [e] at hstage <;> cases hstage
  · have hu := timeOutScan_spec l s
    have hexpired := (scanExpired_iff s l).mpr ⟨hrun, htime⟩
    refine ⟨timeOutScan l s, by rw [exec_scanTimeout, if_pos hexpired], hu.scan, hu.otherScans, hu.queue, hu.list,
      by rw [hu.lane], fun tag htag => ?_, hu.otherLanes, fun n q hq hpend => ?_, hu.frame⟩
    · rw [hu.lane, htag]
      rfl
    · exact ⟨settleIn l .failed q, by rw [hu.rescans, hq]; rfl, settleIn_of_pending hpend .failed⟩
  · rw [exec_scanTimeout, if_neg ((scanExpired_iff s l).not.mpr hnot)]

end Sys2Proof.Proofs
end

section
namespace Sys2Proof.Machine

/-! ## What the survey engine gives up -/

section
variable {s t u : State}

/-- What the survey engine and the lane manager do to release a lane stays within the lanes, the survey fields, the link and
the mark for need. -/
def LanesOnly (s u : State) : Prop :=
  u = { s with lanes := u.lanes, survey := u.survey, link := u.link, needDue := u.needDue }

theorem LanesOnly.trans (h : LanesOnly s t) (k : LanesOnly t u) : LanesOnly s u := by
  unfold LanesOnly at *
  rw [k, h]

/-- A lane is lost to the survey engine, its owner not yet changed (R81). -/
structure ScanDropped (s u : State) (l : Lane) : Prop where
  owner : (u.lane l).owner = (s.lane l).owner
  others : ∀ m, m ≠ l → u.lane m = s.lane m
  frame : LanesOnly s u

theorem dropScan_lanes (l m : Lane) (s : State) : (dropScan l s).lane m = s.lane m := by
  unfold dropScan settleWait
  split <;> rfl

theorem dropScan_frame (l : Lane) (s : State) : LanesOnly s (dropScan l s) := by
  unfold dropScan settleWait
  split <;> rfl

/-- A scan in flight on a lane that is lost ends failed (R81). -/
theorem endScan_dropped (l : Lane) (completed : Bool) (s : State) : ScanDropped s (endScan l completed s) l := by
  have h := endScan_spec l completed s
  refine ⟨by rw [h.lane], h.otherLanes, ?_⟩
  unfold LanesOnly
  rw [h.frame]

theorem scanLost_spec (l : Lane) (s : State) : ScanDropped s (scanLost l s) l := by
  unfold scanLost
  by_cases hnone : (s.scan l).stage = .none
  · rw [if_pos hnone]
    exact ⟨rfl, fun _ _ => rfl, rfl⟩
  rw [if_neg hnone]
  have ht : ScanDropped s (if (s.scan l).stage.inFlight then endScan l false s else s) l := by
    split
    · exact endScan_dropped l false s
    · exact ⟨rfl, fun _ _ => rfl, rfl⟩
  generalize (if (s.scan l).stage.inFlight then endScan l false s else s) = t at ht
  have hl : ∀ m, (giveUpSurvey l (dropScan l t)).lane m = t.lane m := dropScan_lanes l (s := t)
  have hf : LanesOnly t (giveUpSurvey l (dropScan l t)) := (dropScan_frame l t).trans rfl
  dsimp only
  generalize giveUpSurvey l (dropScan l t) = w at hl hf
  exact ⟨by rw [modScan_lane, hl, ht.owner], fun m hm => by rw [modScan_lane, hl, ht.others m hm],
    (ht.frame.trans hf).trans rfl⟩

/-- A lane is not, or no longer, the survey engine's (R81). -/
structure SurveyReleased (s u : State) (l : Lane) : Prop where
  owner : (u.lane l).owner ≠ .survey
  others : ∀ m, m ≠ l → u.lane m = s.lane m
  frame : LanesOnly s u

theorem takeFromSurvey_spec (l : Lane) (s : State) : SurveyReleased s (takeFromSurvey l s) l := by
  unfold takeFromSurvey
  by_cases h : (s.lane l).owner = .survey
  · rw [if_pos h]
    have ht := scanLost_spec l s
    generalize scanLost l s = t at ht
    have hu := setOwner_spec l .none (staleTag l t)
    rw [releaseSurvey, if_pos (ht.owner.trans h)]
    generalize setOwner l .none (staleTag l t) = u at hu
    have hf : LanesOnly t u := by
      unfold LanesOnly
      rw [hu.frame]
      rfl
    refine ⟨by rw [hu.owner]; decide, fun m hm => ?_, ht.frame.trans hf⟩
    rw [hu.others m hm, staleTag, modLane_lane_of_ne hm, ht.others m hm]
  · rw [if_neg h]
    exact ⟨h, fun _ _ => rfl, rfl⟩

theorem foldl_takeFromSurvey_spec (ls : List Lane) (s : State) :
    LanesOnly s (ls.foldl (fun s l => takeFromSurvey l s) s)
      ∧ ∀ l, l ∈ ls ∨ (s.lane l).owner ≠ .survey →
        ((ls.foldl (fun s l => takeFromSurvey l s) s).lane l).owner ≠ .survey := by
  induction ls generalizing s with
  | nil => exact ⟨rfl, fun l h => h.resolve_left List.not_mem_nil⟩
  | cons a ls ih =>
    have ha := takeFromSurvey_spec a s
    obtain ⟨hframe, howner⟩ := ih (takeFromSurvey a s)
    refine ⟨ha.frame.trans hframe, fun l hl => howner l ?_⟩
    by_cases e : l = a
    · exact .inr (e ▸ ha.owner)
    · exact hl.imp (fun hm => (List.mem_cons.mp hm).resolve_left e) fun ho => by rwa [ha.others l e]

theorem mem_lanes (l : Lane) : l ∈ lanes := by cases l <;> decide

/-- When survey stops the engine keeps no lane (R81). -/
theorem surveyStop_spec (s : State) : LanesOnly s (surveyStop s) ∧ ∀ l, ((surveyStop s).lane l).owner ≠ .survey := by
  obtain ⟨hframe, howner⟩ := foldl_takeFromSurvey_spec lanes s
  exact ⟨hframe, fun l => howner l (.inl (mem_lanes l))⟩

/-! ## The power state -/

/-- The survey engine follows a change of level or of power state: it stops, resumes, or goes on as it was (R81, R182). -/
def surveyFollows (wasStopped : Bool) (s : State) : State :=
  if s.surveyStopped then (if wasStopped then s else surveyStop s) else (if wasStopped then markAll s else s)

/-- What the survey engine makes of a change, by whether it was stopped before (R81). -/
structure SurveyFollowed (s u : State) (wasStopped : Bool) : Prop where
  goesOn : s.surveyStopped = wasStopped → u = s
  stops : s.surveyStopped = true → wasStopped = false → ∀ l, (u.lane l).owner ≠ .survey
  frame : LanesOnly s u

theorem surveyFollows_spec (wasStopped : Bool) (s : State) :
    SurveyFollowed s (surveyFollows wasStopped s) wasStopped where
  goesOn h := by
    rw [surveyFollows, h]
    cases wasStopped <;> rfl
  stops h hb := by
    obtain ⟨-, howner⟩ := surveyStop_spec s
    rw [surveyFollows, if_pos h, hb]
    exact howner
  frame := by
    obtain ⟨hframe, -⟩ := surveyStop_spec s
    unfold surveyFollows
    split <;> split
    exacts [rfl, hframe, rfl, rfl]

theorem surveyStopped_iff (s : State) :
    s.surveyStopped = true ↔ s.supply.level = .critical ∨ s.supply.power = .dormant := by
  rw [State.surveyStopped, Bool.or_eq_true, decide_eq_true_eq, decide_eq_true_eq]

theorem surveyStopped_of_awake (h : s.supply.power ≠ .dormant) :
    s.surveyStopped = decide (s.supply.level = .critical) := by
  rw [State.surveyStopped, decide_eq_false h, Bool.or_false]

/-- The part status block with another power state is rewritten (R159, R182). -/
def publishPower (p : PowerState) (s : State) : State := rewriteStatus (modSupply (fun v => { v with power := p }) s)

theorem changePower_eq (p : PowerState) (s : State) :
    changePower p s = raise .supply (markNeed (surveyFollows s.surveyStopped (publishPower p s))) := rfl

/-- The power state has changed (R182): the part status block shows it, the survey engine has followed, SUPPLY is raised. -/
structure PowerChanged (s u : State) (p : PowerState) : Prop where
  supply : u.supply = { s.supply with power := p }
  shown : u.mem.read 3 = p.code
  revision : u.mem.num 0 2 = (s.mem.num 0 2 + 2) % 65536
  outside : SameOutside s u 0 42
  needDue : u.needDue = true
  goesOn : u.surveyStopped = s.surveyStopped → u.lanes = s.lanes ∧ u.survey = s.survey ∧ u.link = s.link
  stops : s.surveyStopped = false → u.surveyStopped = true → ∀ l, (u.lane l).owner ≠ .survey
  port : u.port = raised s.port 0x10
  grows : s.matrix.Grows u.matrix
  frame : u = { s with
    supply := u.supply, lanes := u.lanes, survey := u.survey, link := u.link, needDue := u.needDue, mem := u.mem
    port := u.port, matrix := u.matrix }

theorem changePower_spec (p : PowerState) (s : State) : PowerChanged s (changePower p s) p := by
  rw [changePower_eq]
  have hshown : (publishPower p s).mem.read 3 = p.code := by
    show (s.mem.rewrite 0 42 _).read 3 = _
    rw [Memory.rewrite, Memory.read_place]
    rfl
  have hrev : (publishPower p s).mem.num 0 2 = (s.mem.num 0 2 + 2) % 65536 :=
    Memory.num_rewrite s.mem 0 42 _ (by decide)
  have hout : SameOutside s (publishPower p s) 0 42 := fun a ha =>
    Memory.read_rewrite_outside s.mem 0 42 _ a (by omega)
  have hframe : publishPower p s = { s with
    supply := { s.supply with power := p }, mem := (publishPower p s).mem } := rfl
  generalize publishPower p s = t at hshown hrev hout hframe
  have hw := surveyFollows_spec s.surveyStopped t
  generalize surveyFollows s.surveyStopped t = w at hw
  have hu := raise_spec .supply (markNeed w)
  generalize raise .supply (markNeed w) = u at hu
  have huw : u = { w with needDue := true, port := u.port, matrix := u.matrix } := hu.frame
  have hwt : LanesOnly t w := hw.frame
  have hsup : u.supply = t.supply := by rw [huw, hwt]
  have hmem : u.mem = t.mem := by rw [huw, hwt]
  have hstopped : u.surveyStopped = t.surveyStopped := by rw [State.surveyStopped, hsup]; rfl
  have hlane : ∀ l, u.lane l = w.lane l := fun l => by rw [huw]; rfl
  exact {
    supply := by rw [hsup, hframe]
    shown := by rw [hmem, hshown]
    revision := by rw [hmem, hrev]
    outside := fun a ha => by rw [hmem, hout a ha]
    needDue := by rw [huw]
    goesOn := fun h => by
      rw [huw, hw.goesOn (hstopped.symm.trans h), hframe]
      exact ⟨rfl, rfl, rfl⟩
    stops := fun h hstop l => by
      rw [hlane]
      exact hw.stops (hstopped.symm.trans hstop) h l
    port := by rw [hu.port, markNeed, State.withNeedDue_port, hwt, hframe]; rfl
    grows := by
      have hm : (markNeed w).matrix = s.matrix := by rw [markNeed, State.withNeedDue_matrix, hwt, hframe]
      exact hm ▸ hu.grows
    frame := by rw [huw, hwt, hframe] }

end

/-! ## SET_POWER -/

section
variable {s w u : State} {i : Fin 8} {v : Supply} {p : PowerState}

/-- A SET_POWER has changed the power state and has completed (R173, R182, R183). -/
structure PowerOrdered (s u : State) (i : Fin 8) (v : Supply) : Prop where
  supply : u.supply = v
  shown : u.mem.read 3 = v.power.code
  revision : u.mem.num 0 2 = (s.mem.num 0 2 + 2) % 65536
  completed : OrderCompleted s u i 1 [] 0x11
  same : SameButSlot s u i 0 42
  frame : u = { s with
    supply := u.supply, lanes := u.lanes, survey := u.survey, link := u.link, needDue := true, mem := u.mem
    orders := u.orders, port := u.port, matrix := u.matrix }

/-- The change of power state, carried through the completion of its order; v is what the supply fields were at it. -/
theorem PowerChanged.ordered (h : PowerChanged ((takeOrder i s).withSupply v) w p) (hu : OrderEnds w u i .ok []) :
    PowerOrdered s u i { v with power := p } where
  supply := by rw [hu.frame]; exact h.supply
  shown := by
    rw [hu.read (by rw [slotAddr_eq]; omega) (by rw [slotAddr_eq]; omega)]
    exact h.shown
  revision := by
    have hafter : u.mem.num 0 2 = w.mem.num 0 2 := Memory.num_two_congr fun x h1 h2 =>
      hu.read (by rw [slotAddr_eq]; omega) (by rw [slotAddr_eq]; omega)
    have hbefore : (takeOrder i s).mem.num 0 2 = s.mem.num 0 2 := Memory.num_two_congr fun x h1 h2 =>
      takeOrder_read i s x (by rw [slotAddr_eq]; omega)
    rw [hafter, h.revision, ← hbefore]
    rfl
  completed := hu.completed (bits := 0x10) (by rw [h.frame]; rfl) h.port h.grows
  same := hu.sameButSlot h.outside
  frame := by
    have hw : w.needDue = true := h.needDue
    rw [hu.frame, h.frame, hw]
    rfl

/-- SET_POWER names another state than the present one (R182). -/
theorem setPower_changes {b : Byte} (h : FrontOrder s i 10 [b]) (hp : p = if b = 1 then .quiet else .active)
    (hne : s.supply.power ≠ p) : setPower i (takeOrder i s) = orderOk i (changePower p (takeOrder i s)) := by
  have a1 : orderArg s i 1 = b := orderArg_of_front h 0 (by simp)
  unfold setPower
  rw [orderArg_takeOrder, a1, ← hp]
  exact congrArg (orderOk i) (if_neg hne)

/-- Nothing stands against DORMANT, and the part is not DORMANT yet (R183). -/
theorem setPowerDormant_changes (hp : s.supply.power ≠ .dormant) (hb : ¬dormantBusy s = true) :
    setPowerDormant i s = orderOk i (enterDormant s) := by
  rw [setPowerDormant, if_neg hb, if_neg hp]

end

end Sys2Proof.Machine

namespace Sys2Proof.Proofs
open Sys2Proof.Machine

/-- Settles O29, by the change of the power state carried through the completion of the order. -/
theorem setPowerChangesThePowerState : Obligations.SetPowerChangesThePowerState := by
  intro s i
  refine ⟨fun b p hbp h => ?_, fun h hp hidle h0 h1 h5 => ?_⟩
  · obtain ⟨hb, harg, hne, hs, hp, hcode⟩ : b.toNat < 2 ∧ p = (if b = 1 then .quiet else .active)
        ∧ s.supply.power ≠ p ∧ s.supply.power ≠ .dormant ∧ p ≠ .dormant ∧ p.code = b := by
      rcases hbp with ⟨rfl, rfl, e⟩ | ⟨rfl, rfl, e⟩ <;> rw [e] <;> decide
    refine ⟨_, takeRow_setPower h hb, ?_⟩
    rw [setPower_changes h harg hne, orderOk]
    have hw : PowerChanged ((takeOrder i s).withSupply s.supply) (changePower p (takeOrder i s)) p :=
      changePower_spec p (takeOrder i s)
    generalize changePower p (takeOrder i s) = w at hw
    have hstopped : w.surveyStopped = s.surveyStopped := by
      rw [surveyStopped_of_awake (by rw [hw.supply]; exact hp), surveyStopped_of_awake hs, hw.supply]
      rfl
    obtain ⟨hlanes, hsurvey, hlink⟩ := hw.goesOn hstopped
    have hend := completeOrder_spec i .ok [] w
    generalize completeOrder i .ok [] w = u at hend
    have hu := hw.ordered hend
    have hl : u.lanes = s.lanes := by rw [hend.frame]; exact hlanes
    have hv : u.survey = s.survey := by rw [hend.frame]; exact hsurvey
    have hk : u.link = s.link := by rw [hend.frame]; exact hlink
    have hframe := hu.frame
    rw [hl, hv, hk] at hframe
    exact ⟨hu.supply, hu.shown.trans hcode, hu.revision, by rw [hframe], hu.completed, hu.same, hframe⟩
  · have hfree : ¬dormantBusy (takeOrder i s) = true := by
      show ¬dormantBusy s = true
      rw [dormantBusy_iff, h0, h1, h5]
      simp [hidle]
    refine ⟨_, takeRow_setPowerDormant h, ?_⟩
    rw [setPowerDormant_changes (s := takeOrder i s) hp hfree, orderOk]
    have hw : PowerChanged ((takeOrder i s).withSupply { s.supply with preDormant := s.supply.power })
      (enterDormant (takeOrder i s)) .dormant := changePower_spec .dormant _
    generalize enterDormant (takeOrder i s) = w at hw
    have hend := completeOrder_spec i .ok [] w
    generalize completeOrder i .ok [] w = u at hend
    have hu := hw.ordered hend
    refine ⟨hu.supply, hu.shown, by rw [hu.frame], fun hlevel l => ?_, hu.completed, hu.same, hu.frame⟩
    have hbefore : s.surveyStopped = false := (surveyStopped_of_awake hp).trans (decide_eq_false hlevel)
    have hafter : w.surveyStopped = true := (surveyStopped_iff w).mpr (.inr (by rw [hw.supply]))
    have hlane : u.lane l = w.lane l := by rw [hend.frame]; rfl
    rw [hlane]
    exact hw.stops hbefore hafter l

end Sys2Proof.Proofs
end

section
namespace Sys2Proof.Machine

/-! ## Immediate requests -/

section
variable {s t u : State} {q : SurveyReq} {l : Lane} {named : Lane → Bool}

/-- A lane's due time is the present uptime, and it is on the survey list (R72, R82). -/
def DueAtOnce (s : State) (l : Lane) : Prop := (s.scan l).due = some s.now ∧ l ∈ s.survey.list

/-- What an immediate request does to the lanes and the survey list (R82): lanes that are not pending in it keep their survey
fields, and none that is due at once leaves the list or gets another due time. -/
structure RequestAsked (s u : State) (q : SurveyReq) : Prop where
  stage : ∀ m, (u.scan m).stage = (s.scan m).stage
  keeps : ∀ m, DueAtOnce s m → DueAtOnce u m
  others : ∀ m, q.get m ≠ some .pending → u.scan m = s.scan m
  frame : u = { s with survey := { s.survey with list := u.survey.list, lanes := u.survey.lanes } }

theorem RequestAsked.refl (s : State) (q : SurveyReq) : RequestAsked s s q :=
  ⟨fun _ => rfl, fun _ => id, fun _ _ => rfl, rfl⟩

theorem RequestAsked.trans (h : RequestAsked s t q) (k : RequestAsked t u q) : RequestAsked s u q :=
  ⟨fun m => (k.stage m).trans (h.stage m), fun m e => k.keeps m (h.keeps m e),
    fun m hm => (k.others m hm).trans (h.others m hm), by rw [k.frame, h.frame]⟩

/-- A lane of a request that no scan is in flight on falls due at once; the others stay as they were (R82). -/
theorem dueOnRequest_spec (h : q.get l = some .pending) (s : State) :
    RequestAsked s (dueOnRequest l s) q ∧ DueAtOnce (dueOnRequest l s) l := by
  unfold dueOnRequest
  have ht : (modScan l (fun v => { v with due := some s.now }) s).scan l = { s.scan l with due := some s.now } :=
    modScan_scan_same l _ s
  have hother : ∀ m, m ≠ l → (modScan l (fun v => { v with due := some s.now }) s).scan m = s.scan m :=
    fun m hm => modScan_scan_of_ne hm _ s
  have hframe : modScan l (fun v => { v with due := some s.now }) s = { s with survey := { s.survey with
    lanes := (modScan l (fun v => { v with due := some s.now }) s).survey.lanes } } := rfl
  generalize modScan l (fun v => { v with due := some s.now }) s = t at ht hother hframe
  have hu := joinList_spec l t
  generalize joinList l t = u at hu
  have hscan : ∀ m, m ≠ l → u.scan m = s.scan m := fun m hm => (hu.otherScans m hm).trans (hother m hm)
  have hown : u.scan l = { s.scan l with due := some s.now, consider := true } := by rw [hu.scan, ht]
  have hnow : u.now = s.now := by rw [hu.frame, hframe]; rfl
  have hlist : ∀ m, m ∈ u.survey.list ↔ m = l ∨ m ∈ s.survey.list := fun m => by rw [hu.listed, hframe]
  have hdue : DueAtOnce u l := ⟨by rw [hown, hnow], (hlist l).mpr (.inl rfl)⟩
  refine ⟨⟨fun m => ?_, fun m hm => ?_, fun m hm => hscan m fun e => hm (e ▸ h), ?_⟩, hdue⟩
  · by_cases e : m = l
    · rw [e, hown]
    · rw [hscan m e]
  · by_cases e : m = l
    · exact e ▸ hdue
    · obtain ⟨hd, hin⟩ := hm
      exact ⟨by rw [hscan m e, hnow, hd], (hlist m).mpr (.inr hin)⟩
  · rw [hu.frame, hframe]

theorem requestDue_spec (q : SurveyReq) (s : State) (l : Lane) : RequestAsked s (requestDue q s l) q
    ∧ (q.get l = some .pending → (s.scan l).stage.inFlight = false → DueAtOnce (requestDue q s l) l) := by
  unfold requestDue
  split
  · next h =>
    obtain ⟨hp, -⟩ := h
    obtain ⟨hasked, hdue⟩ := dueOnRequest_spec hp s
    exact ⟨hasked, fun _ _ => hdue⟩
  · next h => exact ⟨.refl s q, fun hp hf => absurd ⟨hp, hf⟩ h⟩

theorem foldl_requestDue_spec (q : SurveyReq) (ls : List Lane) (s : State) :
    RequestAsked s (ls.foldl (requestDue q) s) q ∧ ∀ l ∈ ls, q.get l = some .pending →
      (s.scan l).stage.inFlight = false → DueAtOnce (ls.foldl (requestDue q) s) l := by
  induction ls generalizing s with
  | nil => exact ⟨.refl s q, nofun⟩
  | cons a ls ih =>
    obtain ⟨hfirst, hdue⟩ := requestDue_spec q s a
    obtain ⟨hrest, hdues⟩ := ih (requestDue q s a)
    refine ⟨hfirst.trans hrest, fun l hl hp hf => ?_⟩
    rcases List.mem_cons.mp hl with rfl | hl
    · exact hrest.keeps l (hdue hp hf)
    · exact hdues l hl hp (by rw [hfirst.stage, hf])

theorem requestDues_spec (q : SurveyReq) (s : State) : RequestAsked s (requestDues q s) q
    ∧ ∀ l, q.get l = some .pending → (s.scan l).stage.inFlight = false → DueAtOnce (requestDues q s) l := by
  obtain ⟨hasked, hdue⟩ := foldl_requestDue_spec q lanes s
  exact ⟨hasked, fun l => hdue l (mem_lanes l)⟩

/-- A request without a pending lane makes no lane due. -/
theorem requestDues_of_none (h : ∀ l, q.get l ≠ some .pending) (s : State) : requestDues q s = s := by
  have hdue : ∀ s l, requestDue q s l = s := fun s l => if_neg fun hp => h l hp.1
  simp only [requestDues, lanes, List.foldl_cons, List.foldl_nil, hdue]

theorem owner_isCtx_iff (o : Owner) : o.isCtx = true ↔ ∃ n, o = .ctx n := by
  cases o <;> simp [Owner.isCtx]

/-- What makes a request find a lane SKIPPED (R82). -/
theorem skippedNow_iff (s : State) (l : Lane) : skippedNow s l = true ↔ SkippedForSurvey s l := by
  have hq : s.queued l = false ↔ ∀ e ∈ s.startq, e.lane ≠ l := by simp [State.queued]
  unfold skippedNow SkippedForSurvey LaneRec.usable
  simp only [Bool.or_eq_true, Bool.and_eq_true, Bool.not_eq_true', surveyStopped_iff, owner_isCtx_iff, ← hq]
  cases (s.lane l).state <;> cases (s.lane l).forcedOff <;> simp [or_assoc]

theorem newRequest_get (s : State) (named : Lane → Bool) (l : Lane) :
    (newRequest s named).get l = requestStatus s named l := by cases l <;> rfl

theorem newRequest_of_unnamed (h : named l = false) : (newRequest s named).get l = none := by
  rw [newRequest_get, requestStatus, h]
  rfl

theorem newRequest_of_skipped (h : named l = true) (hs : SkippedForSurvey s l) :
    (newRequest s named).get l = some .skipped := by
  rw [newRequest_get, requestStatus, h, (skippedNow_iff s l).mpr hs]
  rfl

theorem newRequest_of_pending (h : named l = true) (hs : ¬SkippedForSurvey s l) :
    (newRequest s named).get l = some .pending := by
  rw [newRequest_get, requestStatus, h, Bool.eq_false_iff.mpr ((skippedNow_iff s l).not.mpr hs)]
  rfl

/-! ## Complete requests -/

theorem complete_iff (q : SurveyReq) : complete q = true ↔ ∀ l, q.get l ≠ some .pending := by
  rw [complete, List.all_eq_true]
  exact ⟨fun h l => of_decide_eq_true (h l (mem_lanes l)), fun h l _ => decide_eq_true (h l)⟩

theorem not_complete_of_pending (h : ∃ l, q.get l = some .pending) : complete q = false :=
  Bool.eq_false_iff.mpr fun hc => h.elim fun l hl => (complete_iff q).mp hc l hl

/-- While each request of an order has a pending lane, no order completes (R83). -/
theorem completeSurveys_of_pending (h : ∀ x ∈ s.survey.orderReq, ∃ l, x.2.get l = some .pending) :
    completeSurveys s = s := by
  have hnone : completeRequests s = [] := List.filter_eq_nil_iff.mpr fun x hx => by
    rw [not_complete_of_pending (h x hx)]
    decide
  rw [completeSurveys, hnone]
  rfl

/-- A lane mask of up to four bits is made of the lanes that it names (R83). -/
theorem statusMask_of_named {mask : Byte} {v : ReqStatus} (hm : mask.toNat ≤ 15)
    (h : ∀ l, q.get l = some v ↔ mask.getLsbD l.num = true) : statusMask q v = mask := by
  have hbits : ∀ l, decide (q.get l = some v) = mask.getLsbD l.num := fun l => by
    rw [Bool.eq_iff_iff, decide_eq_true_eq, h l]
  simp only [statusMask, hbits]
  obtain ⟨k, hk, rfl⟩ : ∃ k ≤ 15, mask = BitVec.ofNat 8 k := ⟨mask.toNat, hm, by simp⟩
  interval_cases k <;> rfl

theorem statusMask_of_absent {v : ReqStatus} (h : ∀ l, q.get l ≠ some v) : statusMask q v = 0 :=
  statusMask_of_named (by decide) fun l => ⟨fun e => absurd e (h l), fun e => by cases l <;> cases e⟩

/-! ## SURVEY_NOW -/

section
variable {i : Fin 8} {mask : Byte}

theorem takeRow_surveyNow (h : FrontOrder s i 7 [mask]) (hm : mask.toNat ≤ 15) :
    exec .surveyNow s = .next (finish (surveyNow i (takeOrder i s))) := by
  have a1 : orderArg s i 1 = mask := orderArg_of_front h 0 (by simp)
  refine congrArg Host.Outcome.next (takeRow_of_front h (by unfold orderRow; rw [orderCode_of_front h]; rfl) ?_)
  unfold badArgument
  rw [orderCode_of_front h]
  simp [a1, badIf, hm]

theorem argLanes_surveyNow (h : FrontOrder s i 7 [mask]) :
    argLanes (takeOrder i s) i = fun l => mask.getLsbD l.num := by
  have a1 : orderArg s i 1 = mask := orderArg_of_front h 0 (by simp)
  funext l
  rw [argLanes, orderArg_takeOrder, a1]

/-- An order that has entered its wait and completes at once has not waited. -/
theorem completeOrder_waitOrder (i : Fin 8) (w : Wait) (r : ResultCode) (d : List Byte) (s : State) :
    completeOrder i r d (waitOrder i w s) = completeOrder i r d s := by
  have hwaits : (s.orders.waits ++ [(i, w)]).filter (fun x => decide (x.1 ≠ i))
      = s.orders.waits.filter (fun x => decide (x.1 ≠ i)) := by
    rw [List.filter_append]
    simp
  unfold completeOrder waitOrder
  simp only [setSlotState, State.withOrders_orders, State.withMem_orders, hwaits]
  rfl

/-- A request whose lanes are all SKIPPED completes its order at once, and is gone (R83). -/
theorem completeSurveys_of_new (hold : ∀ x ∈ s.survey.orderReq, x.1 ≠ i ∧ ∃ l, x.2.get l = some .pending)
    (hq : ∀ l, q.get l ≠ some .pending) :
    completeSurveys (s.withSurvey { s.survey with orderReq := s.survey.orderReq ++ [(i, q)] }) =
      completeOrder i .ok [statusMask q .completed, statusMask q .failed, statusMask q .skipped] s := by
  have hnone : s.survey.orderReq.filter (fun x => complete x.2) = [] := List.filter_eq_nil_iff.mpr fun x hx => by
    rw [not_complete_of_pending (hold x hx).2]
    decide
  have hnew : completeRequests (s.withSurvey { s.survey with orderReq := s.survey.orderReq ++ [(i, q)] }) = [(i, q)] := by
    show (s.survey.orderReq ++ [(i, q)]).filter (fun x => complete x.2) = _
    rw [List.filter_append, hnone, List.filter_singleton, (complete_iff q).mpr hq]
    rfl
  have hkept : (s.survey.orderReq ++ [(i, q)]).filter (fun x => decide (x.1 ≠ i)) = s.survey.orderReq := by
    rw [List.filter_append, List.filter_eq_self.mpr fun x hx => decide_eq_true (hold x hx).1]
    simp
  have hdrop : dropOrderRequest i (s.withSurvey { s.survey with orderReq := s.survey.orderReq ++ [(i, q)] }) = s := by
    unfold dropOrderRequest
    simp only [State.withSurvey_survey, hkept]
    rfl
  rw [completeSurveys, hnew, List.foldl_cons, List.foldl_nil, completeSurvey, hdrop]

/-- A taken order that stands in a wait (R166, R168). -/
theorem orderWaits_of_waitOrder {w : Wait} (hm : u.mem = (takeOrder i s).mem)
    (ho : u.orders = (waitOrder i w (takeOrder i s)).orders) : OrderWaits s u i w 0 0 := by
  unfold OrderWaits SameButSlot State.slotState
  rw [hm, ho]
  exact ⟨takeOrder_slotState i s, fun a _ h _ => takeOrder_read i s a h,
    fun k h16 _ => takeOrder_read i s _ (by rw [slotAddr_eq]; omega), rfl, List.mem_append_right _ List.mem_cons_self⟩

/-- The state in which a SURVEY_NOW has been taken, waits, and its request stands (R82, R166). -/
def surveyAsked (i : Fin 8) (q : SurveyReq) (s : State) : State :=
  let t := waitOrder i .survey (takeOrder i s)
  t.withSurvey { t.survey with orderReq := t.survey.orderReq ++ [(i, q)] }

/-- The request that a mask makes (R82). -/
def maskRequest (s : State) (mask : Byte) : SurveyReq := newRequest s fun l => mask.getLsbD l.num

theorem maskRequest_get (s : State) (mask : Byte) (l : Lane) :
    (mask.getLsbD l.num = false → (maskRequest s mask).get l = none)
      ∧ (mask.getLsbD l.num = true → SkippedForSurvey s l → (maskRequest s mask).get l = some .skipped)
      ∧ (mask.getLsbD l.num = true → ¬SkippedForSurvey s l → (maskRequest s mask).get l = some .pending) :=
  ⟨newRequest_of_unnamed (s := s) (named := fun l => mask.getLsbD l.num),
    newRequest_of_skipped (s := s) (named := fun l => mask.getLsbD l.num),
    newRequest_of_pending (s := s) (named := fun l => mask.getLsbD l.num)⟩

theorem surveyNow_of_front (h : FrontOrder s i 7 [mask]) : surveyNow i (takeOrder i s) =
    completeSurveys (requestDues (maskRequest s mask) (surveyAsked i (maskRequest s mask) s)) := by
  unfold surveyNow
  rw [argLanes_surveyNow h]
  rfl

/-- With every named lane SKIPPED the order completes at once with its masks (R83). -/
theorem surveyNow_of_skipped (h : FrontOrder s i 7 [mask]) (hm : mask.toNat ≤ 15)
    (hold : ∀ x ∈ s.survey.orderReq, x.1 ≠ i ∧ ∃ l, x.2.get l = some .pending)
    (hs : ∀ l, mask.getLsbD l.num = true → SkippedForSurvey s l) :
    surveyNow i (takeOrder i s) = completeOrder i .ok [0, 0, mask] (takeOrder i s) := by
  have hget : ∀ l, (maskRequest s mask).get l = if mask.getLsbD l.num = true then some .skipped else none := fun l => by
    obtain ⟨hnone, hskip, -⟩ := maskRequest_get s mask l
    split
    · next hl => exact hskip hl (hs l hl)
    · next hl => exact hnone (Bool.eq_false_iff.mpr hl)
  have hother : ∀ v ≠ .skipped, ∀ l, (maskRequest s mask).get l ≠ some v := fun v hv l => by
    rw [hget]
    split
    · exact fun e => hv (Option.some.inj e).symm
    · exact nofun
  have hnamed : statusMask (maskRequest s mask) .skipped = mask := statusMask_of_named hm fun l => by
    rw [hget]
    cases mask.getLsbD l.num <;> simp
  have hdone := completeSurveys_of_new (s := waitOrder i .survey (takeOrder i s)) hold (hother .pending (by decide))
  rw [statusMask_of_absent (hother .completed (by decide)), statusMask_of_absent (hother .failed (by decide)), hnamed,
    completeOrder_waitOrder] at hdone
  rw [surveyNow_of_front h, requestDues_of_none (hother .pending (by decide))]
  exact hdone

/-- With a named lane not SKIPPED the order waits (R82, R83). -/
theorem surveyNow_of_pending (h : FrontOrder s i 7 [mask])
    (hold : ∀ x ∈ s.survey.orderReq, x.1 ≠ i ∧ ∃ l, x.2.get l = some .pending)
    (hs : ∃ l, mask.getLsbD l.num = true ∧ ¬SkippedForSurvey s l) :
    surveyNow i (takeOrder i s) = requestDues (maskRequest s mask) (surveyAsked i (maskRequest s mask) s) := by
  obtain ⟨l, hl, hs⟩ := hs
  obtain ⟨hasked, -⟩ := requestDues_spec (maskRequest s mask) (surveyAsked i (maskRequest s mask) s)
  rw [surveyNow_of_front h]
  refine completeSurveys_of_pending fun x hx => ?_
  rw [hasked.frame] at hx
  rcases List.mem_append.mp hx with hx | hx
  · exact (hold x hx).2
  · rw [List.mem_singleton.mp hx]
    obtain ⟨-, -, hpend⟩ := maskRequest_get s mask l
    exact ⟨l, hpend hl hs⟩

end

end

end Sys2Proof.Machine

namespace Sys2Proof.Proofs
open Sys2Proof.Machine

/-- Settles O25, by whether the request has a pending lane: with none its order completes at once, else its lanes fall
due. -/
theorem surveyNowMakesARequest : Obligations.SurveyNowMakesARequest := by
  intro s i mask h hm hold
  refine ⟨fun hs => ?_, fun hs => ⟨_, takeRow_surveyNow h hm, ?_⟩⟩
  · exact completesThrough_orderOnly (r := .ok) (takeRow_surveyNow h hm) (surveyNow_of_skipped h hm hold hs)
  · rw [surveyNow_of_pending h hold hs]
    have hq := maskRequest_get s mask
    generalize maskRequest s mask = q at hq
    obtain ⟨hasked, hdue⟩ := requestDues_spec q (surveyAsked i q s)
    generalize requestDues q (surveyAsked i q s) = u at hasked hdue
    have hframe := hasked.frame
    have hnow : u.now = s.time.uptime := by rw [hframe]; rfl
    refine ⟨⟨q, by rw [hframe]; rfl, hq⟩, fun l hl hs hstage => ?_, fun l hl => ?_, by rw [hframe]; rfl,
      by rw [hframe]; rfl, orderWaits_of_waitOrder (by rw [hframe]; rfl) (by rw [hframe]; rfl), by rw [hframe]; rfl⟩
    · have hflight : ((surveyAsked i q s).scan l).stage.inFlight = false := congrArg ScanStage.inFlight hstage
      obtain ⟨-, -, hpend⟩ := hq l
      obtain ⟨hd, hin⟩ := hdue l (hpend hl hs) hflight
      exact ⟨by rw [hd, hnow], hin⟩
    · obtain ⟨hnone, -⟩ := hq l
      exact hasked.others l (by rw [hnone hl]; exact nofun)

end Sys2Proof.Proofs
end

section
namespace Sys2Proof.Machine

/-! ## Event lines and the second -/

/-- A change of a lane's record leaves the rest as it is. -/
structure LaneChanged (s u : State) (l : Lane) (f : LaneRec → LaneRec) : Prop where
  lane : u.lane l = f (s.lane l)
  others : ∀ m, m ≠ l → u.lane m = s.lane m
  frame : u = { s with lanes := u.lanes }

theorem modLane_spec (l : Lane) (f : LaneRec → LaneRec) (s : State) : LaneChanged s (modLane l f s) l f :=
  ⟨modLane_lane_same l f s, fun _ hm => modLane_lane_of_ne hm f s, rfl⟩

/-- A lane's fetch has been armed by a sample of its event line, or has not (R102). -/
structure LineSampled (s u : State) (l : Lane) (arms : Bool) : Prop where
  lane : u.lane l = { s.lane l with fetchArmed := (s.lane l).fetchArmed || arms }
  others : ∀ m, m ≠ l → u.lane m = s.lane m
  frame : u = { s with lanes := u.lanes }

/-- A sample of a lane's event line, which arms its fetch or does not (R102). -/
def sampleLine (l : Lane) (arms : Bool) (s : State) : State :=
  if arms then modLane l (fun r => { r with fetchArmed := true }) s else s

theorem sampleLine_spec (l : Lane) (arms : Bool) (s : State) : LineSampled s (sampleLine l arms s) l arms := by
  unfold sampleLine
  cases arms with
  | true =>
    obtain ⟨hlane, hothers, hframe⟩ := modLane_spec l (fun r => { r with fetchArmed := true }) s
    exact ⟨by rw [Bool.or_true]; exact hlane, hothers, hframe⟩
  | false => exact ⟨by rw [Bool.or_false]; rfl, fun _ _ => rfl, rfl⟩

theorem exec_eventLineChange (l : Lane) (asserted : Bool) (s : State) : exec (.eventLineChange l asserted) s =
    .next (finish (sampleLine l ((s.lane l).power && (!asserted || !s.env.evt.get l))
      (s.withEnv { s.env with evt := s.env.evt.set l asserted }))) := rfl

theorem sampleEvt_eq (s : State) (l : Lane) :
    sampleEvt s l = sampleLine l ((s.lane l).power && !s.env.evt.get l) s := rfl

/-- The event lines of some lanes have been sampled (R102). -/
structure LinesSampled (s u : State) (ls : List Lane) : Prop where
  lanes : ∀ m, u.lane m = { s.lane m with fetchArmed :=
    (s.lane m).fetchArmed || (decide (m ∈ ls) && ((s.lane m).power && !s.env.evt.get m)) }
  frame : u = { s with lanes := u.lanes }

theorem foldl_sampleEvt_spec (ls : List Lane) (s : State) : LinesSampled s (ls.foldl sampleEvt s) ls := by
  induction ls generalizing s with
  | nil => exact ⟨fun m => by simp, rfl⟩
  | cons a ls ih =>
    have ht := sampleLine_spec a ((s.lane a).power && !s.env.evt.get a) s
    have hu := ih (sampleEvt s a)
    rw [List.foldl_cons]
    rw [sampleEvt_eq] at hu ⊢
    generalize sampleLine a _ s = t at ht hu
    have he : t.env = s.env := by rw [ht.frame]
    refine ⟨fun m => ?_, by rw [hu.frame, ht.frame]⟩
    rw [hu.lanes, he]
    by_cases hm : m = a
    · rw [hm, ht.lane]
      cases (s.lane a).fetchArmed <;> simp
    · rw [ht.others m hm]
      simp [hm]

theorem sampleEvts_spec (s : State) (l : Lane) : (sampleEvts s).lane l = { s.lane l with fetchArmed :=
    (s.lane l).fetchArmed || ((s.lane l).power && !s.env.evt.get l) } := by
  have h : (sampleEvts s).lane l = _ := (foldl_sampleEvt_spec lanes s).lanes l
  rw [h, decide_eq_true (mem_lanes l), Bool.true_and]

theorem exec_uptimeSecond (s : State) :
    exec .uptimeSecond s = .next (finish (rewriteStatus (sampleEvts (riseSecond s)))) := rfl

/-- Four bytes of a number, read back as one. -/
theorem natOf_bytesOf_four {v : Nat} (h : v < 4294967296) : natOf (bytesOf 4 v) = v := by
  simp only [bytesOf, natOf, BitVec.toNat_ofNat]
  omega

/-- A number of four bytes is read out of a rewritten block where the block's content holds those bytes. -/
theorem num_four_rewrite (m : Memory) (base size k : Nat) (before behind : List Byte) (v : BitVec 32)
    (hk : before.length = k) (hs : k + 6 ≤ size) :
    (m.rewrite base size (before ++ bytesOf 4 v.toNat ++ behind)).num (base + 2 + k) 4 = v.toNat := by
  have hread : (m.rewrite base size (before ++ bytesOf 4 v.toNat ++ behind)).bytes (base + 2 + k) 4
      = bytesOf 4 v.toNat := by
    refine List.ext_getElem (by simp [Memory.bytes, bytesOf]) fun i h1 h2 => ?_
    have hi : i < 4 := by simpa [Memory.bytes] using h1
    have hat : base + 2 + k + i - base = 2 + (k + i) := by omega
    simp only [Memory.bytes, List.getElem_map, List.getElem_range', Nat.one_mul, Memory.rewrite, Memory.read_place]
    rw [if_pos (by omega), hat, List.getElem?_append_right (by simp [bytesOf])]
    rw [show 2 + (k + i) - (bytesOf 2 (m.num base 2 + 2)).length = k + i by simp [bytesOf],
      List.append_assoc, List.getElem?_append_right (by omega), hk, Nat.add_sub_cancel_left,
      List.getElem?_append_left h2, List.getElem?_eq_getElem h2]
    rfl
  rw [Memory.num, hread, natOf_bytesOf_four v.isLt]

/-- The part status block up to the counts of time, from offset 2 (12.3). -/
def statusHead (s : State) : List Byte :=
  [s.rst.cause.code, s.supply.power.code, s.supply.level.code, flagByte s.plan.loaded, flagByte s.matrix.loaded,
    s.matrix.fns.setWidth 8]
  ++ bytesOf 2 s.supply.battery ++ bytesOf 2 (signed16 s.supply.t10) ++ bytesOf 2 s.supply.vmin
  ++ [BitVec.ofNat 8 s.startq.length]
  ++ ((s.startq.map (fun (e : QueueEntry) => BitVec.ofNat 8 e.lane.num)) ++ List.replicate 4 0xFF).take 4 ++ [0]

/-- The part status block beyond the counts of time (12.3). -/
def statusCounts (c : Counters) : List Byte :=
  bytesOf 2 c.overwritten ++ bytesOf 2 c.dropped ++ bytesOf 2 c.discarded ++ bytesOf 2 c.stale
  ++ bytesOf 2 c.windowFaults ++ bytesOf 2 c.linkTimeouts ++ bytesOf 2 c.tamper

theorem statusHead_length (s : State) : (statusHead s).length = 18 := by
  simp [statusHead, bytesOf]

theorem statusContent_eq (s : State) : statusContent s = statusHead s ++ bytesOf 4 s.time.uptime.toNat
    ++ (bytesOf 4 s.time.clock.toNat ++ statusCounts s.counters) := by
  simp only [statusContent, statusHead, statusCounts, List.append_assoc]

/-- A rewrite of the part status block shows both counts of time (R159). -/
structure StatusRewritten (s u : State) : Prop where
  uptime : u.mem.num 20 4 = s.time.uptime.toNat
  clock : u.mem.num 24 4 = s.time.clock.toNat
  revision : u.mem.num 0 2 = (s.mem.num 0 2 + 2) % 65536
  outside : SameOutside s u 0 42
  frame : u = { s with mem := u.mem }

theorem rewriteStatus_spec (s : State) : StatusRewritten s (rewriteStatus s) where
  uptime := by
    show (s.mem.rewrite 0 42 (statusContent s)).num (0 + 2 + 18) 4 = _
    rw [statusContent_eq]
    exact num_four_rewrite _ 0 42 18 _ _ _ (statusHead_length s) (by decide)
  clock := by
    show (s.mem.rewrite 0 42 (statusContent s)).num (0 + 2 + 22) 4 = _
    rw [statusContent_eq, ← List.append_assoc]
    exact num_four_rewrite _ 0 42 22 _ _ _
      (by rw [List.length_append, statusHead_length]; rfl) (by decide)
  revision := Memory.num_rewrite s.mem 0 42 _ (by decide)
  outside := fun a ha => Memory.read_rewrite_outside s.mem 0 42 _ a (by omega)
  frame := rfl

theorem riseSecond_tickDue (s : State) : (riseSecond s).tickDue = true ↔ (s.time.uptime + 1).toNat % 16 = 0 :=
  decide_eq_true_iff

end Sys2Proof.Machine

namespace Sys2Proof.Proofs
open Sys2Proof.Machine

/-- Settles O47, by the sample that the change makes. -/
theorem eventLineChangesArmTheFetch : Obligations.EventLineChangesArmTheFetch := by
  intro s l level
  refine ⟨_, exec_eventLineChange l level s, ?_⟩
  have hu := sampleLine_spec l ((s.lane l).power && (!level || !s.env.evt.get l))
    (s.withEnv { s.env with evt := s.env.evt.set l level })
  generalize sampleLine l _ _ = u at hu
  exact ⟨by rw [hu.frame]; rfl, hu.lane, hu.others, by rw [hu.frame]; rfl⟩

/-- Settles O56, by the rise of the counts, the samples of the lines, and the rewrite of the block. -/
theorem secondsRiseAndArePublished : Obligations.SecondsRiseAndArePublished := by
  intro s
  refine ⟨_, exec_uptimeSecond s, ?_⟩
  have hlanes := sampleEvts_spec (riseSecond s)
  have hsampled : sampleEvts (riseSecond s) = { riseSecond s with lanes := (sampleEvts (riseSecond s)).lanes } :=
    (foldl_sampleEvt_spec lanes (riseSecond s)).frame
  generalize sampleEvts (riseSecond s) = t at hlanes hsampled
  have htime : t.time = ⟨s.time.uptime + 1, s.time.clock + 1, (s.time.ms / 1000 + 1) * 1000⟩ := by
    rw [hsampled]
    rfl
  have hmem : t.mem = s.mem := by rw [hsampled]; rfl
  have htick : t.tickDue = (riseSecond s).tickDue := by rw [hsampled]
  have hu := rewriteStatus_spec t
  generalize rewriteStatus t = u at hu
  have hut : u.time = t.time := by rw [hu.frame]
  have hud : u.tickDue = t.tickDue := by rw [hu.frame]
  have hul : ∀ l, u.lane l = t.lane l := fun l => by rw [hu.frame]; rfl
  refine ⟨by rw [hut, htime], ?_, ?_, ?_, by rw [hut, hu.uptime], by rw [hut, hu.clock], by rw [hu.revision, hmem],
    by rw [hud, htick, riseSecond_tickDue], fun l => by rw [hul, hlanes]; rfl,
    fun a ha => by rw [hu.outside a ha, hmem], by rw [hu.frame, hsampled]; rfl⟩
  all_goals
    rw [hut, htime]
    dsimp only
    omega

end Sys2Proof.Proofs
end

section
namespace Sys2Proof.Machine

/-! ## The lane timers -/

section
variable {s : State} {l : Lane}

/-- A lane takes a state: its record changes, the survey list looks at the lane again, and need is to be evaluated. -/
structure LaneStateSet (s u : State) (l : Lane) (st : LaneState) : Prop where
  lane : u.lane l = { s.lane l with state := st }
  others : ∀ m, m ≠ l → u.lane m = s.lane m
  scan : u.scan l = { s.scan l with consider := true }
  otherScans : ∀ m, m ≠ l → u.scan m = s.scan m
  frame : u = { s with
    lanes := u.lanes, survey := { s.survey with lanes := u.survey.lanes }, needDue := true }

theorem setLaneState_spec (l : Lane) (st : LaneState) (s : State) : LaneStateSet s (setLaneState l st s) l st where
  lane := modLane_lane_same l (fun r => { r with state := st }) s
  others := fun _ hm => modLane_lane_of_ne hm (fun r => { r with state := st }) s
  scan := modScan_scan_same l (fun v => { v with consider := true }) (modLane l (fun r => { r with state := st }) s)
  otherScans := fun _ hm =>
    modScan_scan_of_ne hm (fun v => { v with consider := true }) (modLane l (fun r => { r with state := st }) s)
  frame := rfl

/-- What the expiry of the restart timer makes of a lane's record (R98). -/
def restarted (s : State) (l : Lane) (r : LaneRec) : LaneRec :=
  { r with restarts := r.restarts + 1, restartTimer := none, standby := standbySetting s l }

theorem exec_restartTimerExpiry (l : Lane) (s : State) : exec (.restartTimerExpiry l) s =
    .next (onEvent (decide ((s.lane l).state = .faulted) && expired s.now (s.lane l).restartTimer)
      (fun s => setLaneState l .off (modLane l (restarted s l) s)) s) := rfl

theorem restartDue_iff (s : State) (l : Lane) :
    (decide ((s.lane l).state = .faulted) && expired s.now (s.lane l).restartTimer) = true
      ↔ (s.lane l).state = .faulted ∧ TimeUp s (s.lane l).restartTimer := by
  rw [Proofs.timeUp_iff, Bool.and_eq_true, decide_eq_true_eq]

theorem addMaint_eq (l : Lane) (k : MaintKind) (s : State) : addMaint l k s = s.withLink { s.link with maint :=
    if (l, k) ∈ s.link.maint then s.link.maint else s.link.maint ++ [(l, k)] } := by
  have h : s.link.maint.any (fun x => decide (x = (l, k))) = true ↔ (l, k) ∈ s.link.maint := by simp
  unfold addMaint
  by_cases hin : (l, k) ∈ s.link.maint
  · rw [if_pos (h.mpr hin), if_pos hin]
    rfl
  · rw [if_neg (h.not.mpr hin), if_neg hin]
    rfl

theorem exec_probeTimerExpiry (l : Lane) (s : State) : exec (.probeTimerExpiry l) s =
    .next (onEvent
      (decide ((s.lane l).state = .ready) && decide ((s.lane l).owner = .none) && expired s.now (s.lane l).probeTimer)
      (fun s => addMaint l .probe (modLane l (fun r => { r with probeTimer := none }) s)) s) := rfl

theorem probeDue_iff (s : State) (l : Lane) :
    (decide ((s.lane l).state = .ready) && decide ((s.lane l).owner = .none) && expired s.now (s.lane l).probeTimer)
        = true
      ↔ (s.lane l).state = .ready ∧ (s.lane l).owner = .none ∧ TimeUp s (s.lane l).probeTimer := by
  rw [Proofs.timeUp_iff, Bool.and_eq_true, Bool.and_eq_true, decide_eq_true_eq, decide_eq_true_eq, and_assoc]

theorem longReady_iff (s : State) (l : Lane) : longReady s l = true ↔ (s.lane l).state = .ready
    ∧ ∃ since, (s.lane l).readySince = some since ∧ 600 ≤ (s.time.uptime - since).toNat := by
  unfold longReady
  rw [Bool.and_eq_true, decide_eq_true_eq]
  cases (s.lane l).readySince with
  | none => simp
  | some since =>
    refine and_congr_right fun _ => decide_eq_true_iff.trans ⟨fun h => ⟨since, rfl, h⟩, ?_⟩
    rintro ⟨x, hx, h⟩
    obtain rfl := Option.some.inj hx
    exact h

theorem exec_restartsReset (l : Lane) (s : State) : exec (.restartsReset l) s =
    .next (if longReady s l then flushLane l (modLane l (fun r => { r with restarts := 0 }) s) else s) := rfl

/-- What the publication of a lane can change: its status block, and what a raise of LANE changes (R86). -/
structure LaneFlushed (s u : State) (l : Lane) : Prop where
  outside : SameOutside s u (0x600 + 64 * l.num) 36
  frame : u = { s with mem := u.mem, port := u.port, matrix := u.matrix }

theorem writeLane_outside (l : Lane) (s : State) : SameOutside s (writeLane l s) (0x600 + 64 * l.num) 36 := fun a ha =>
  Memory.read_rewrite_outside s.mem (0x600 + 64 * l.num) 36 _ a (by omega)

theorem rewriteLane_spec (l : Lane) (s : State) : LaneFlushed s (rewriteLane l s) l := by
  unfold rewriteLane
  dsimp only
  split
  · have hu := raise_spec .lane (writeLane l s)
    generalize raise .lane (writeLane l s) = u at hu
    exact ⟨fun a ha => by rw [hu.frame]; exact writeLane_outside l s a ha, by rw [hu.frame]; rfl⟩
  · exact ⟨writeLane_outside l s, rfl⟩

theorem flushLane_spec (l : Lane) (s : State) : LaneFlushed s (flushLane l s) l := by
  unfold flushLane
  split
  · exact ⟨fun _ _ => rfl, rfl⟩
  · split
    · exact rewriteLane_spec l s
    · exact ⟨fun _ _ => rfl, rfl⟩

end

end Sys2Proof.Machine

namespace Sys2Proof.Proofs
open Sys2Proof.Machine

/-- Settles O49, timer by timer. -/
theorem laneTimersRestartAndProbe : Obligations.LaneTimersRestartAndProbe := by
  intro s l
  refine ⟨fun hs ht => ?_, fun hs ho ht => ?_, fun since hs hr h => ?_, fun h => ?_, fun h => ?_, fun h => ?_⟩
  · refine ⟨_, (exec_restartTimerExpiry l s).trans
      (congrArg Host.Outcome.next (if_pos ((restartDue_iff s l).mpr ⟨hs, ht⟩))), ?_⟩
    dsimp only
    have ht := modLane_spec l (restarted s l) s
    generalize modLane l (restarted s l) s = t at ht
    have hu := setLaneState_spec l .off t
    generalize setLaneState l .off t = u at hu
    exact ⟨by rw [hu.lane, ht.lane]; rfl, fun m hm => by rw [hu.others m hm, ht.others m hm], by rw [hu.frame],
      by rw [hu.frame, ht.frame]⟩
  · refine ⟨_, (exec_probeTimerExpiry l s).trans
      (congrArg Host.Outcome.next (if_pos ((probeDue_iff s l).mpr ⟨hs, ho, ht⟩))), ?_⟩
    dsimp only
    rw [addMaint_eq]
    have ht := modLane_spec l (fun r => { r with probeTimer := none }) s
    exact ⟨ht.lane, ht.others, rfl, rfl⟩
  · refine ⟨_, (exec_restartsReset l s).trans
      (congrArg Host.Outcome.next (if_pos ((longReady_iff s l).mpr ⟨hs, since, hr, h⟩))), ?_⟩
    have ht := modLane_spec l (fun r => { r with restarts := 0 }) s
    generalize modLane l _ s = t at ht
    have hu := flushLane_spec l t
    generalize flushLane l t = u at hu
    have hul : ∀ m, u.lane m = t.lane m := fun m => by rw [hu.frame]; rfl
    exact ⟨by rw [hul, ht.lane], fun m hm => by rw [hul, ht.others m hm],
      fun a ha => by rw [hu.outside a ha, ht.frame], by rw [hu.frame, ht.frame]⟩
  · exact (exec_restartTimerExpiry l s).trans
      (congrArg Host.Outcome.next (if_neg ((restartDue_iff s l).not.mpr h)))
  · exact (exec_probeTimerExpiry l s).trans (congrArg Host.Outcome.next (if_neg ((probeDue_iff s l).not.mpr h)))
  · exact (exec_restartsReset l s).trans (congrArg Host.Outcome.next (if_neg ((longReady_iff s l).not.mpr h)))

end Sys2Proof.Proofs
end

section
namespace Sys2Proof.Machine

/-! ## Work of the lane manager and the survey engine on one lane -/

section
variable {s t u : State} {l m : Lane}

theorem raised_eight_twice (p : Port) : raised (raised p 0x08) 0x08 = raised p 0x08 := raised_raised p 0x08 0x08

/-- Work on one lane leaves the other lanes, their survey fields and their candidates as they are, puts no lane into the start
queue and none of the lane's candidates into a table without them, takes back no mark for need, and writes nothing but the
candidate mirror. -/
structure LaneWork (s u : State) (l : Lane) : Prop where
  lanes : ∀ m, m ≠ l → u.lane m = s.lane m
  scans : ∀ m, m ≠ l → u.scan m = s.scan m
  table : ∀ e, e.key.lane ≠ l → (e ∈ u.table ↔ e ∈ s.table)
  gone : (∀ e ∈ s.table, e.key.lane ≠ l) → ∀ e ∈ u.table, e.key.lane ≠ l
  queue : ∀ e ∈ u.startq, e ∈ s.startq
  needDue : s.needDue = true → u.needDue = true
  outside : SameOutside s u 0x700 0x300
  port : u.port = s.port ∨ u.port = raised s.port 0x08
  grows : s.matrix.Grows u.matrix
  frame : u = { s with
    lanes := u.lanes, survey := u.survey, link := u.link, startq := u.startq, table := u.table, needDue := u.needDue
    mem := u.mem, port := u.port, matrix := u.matrix }

theorem LaneWork.trans (h : LaneWork s t l) (k : LaneWork t u l) : LaneWork s u l where
  lanes := fun m hm => (k.lanes m hm).trans (h.lanes m hm)
  scans := fun m hm => (k.scans m hm).trans (h.scans m hm)
  table := fun e he => (k.table e he).trans (h.table e he)
  gone := fun hs => k.gone (h.gone hs)
  queue := fun e he => h.queue e (k.queue e he)
  needDue := fun hs => k.needDue (h.needDue hs)
  outside := fun a ha => (k.outside a ha).trans (h.outside a ha)
  port := by
    rcases k.port with e | e <;> rcases h.port with e' | e' <;> rw [e, e']
    · exact .inl rfl
    · exact .inr rfl
    · exact .inr rfl
    · exact .inr (raised_eight_twice _)
  grows := h.grows.trans k.grows
  frame := by rw [k.frame, h.frame]

/-- What makes no change of the table works on the lane when it leaves the other lanes and their survey fields. -/
theorem LaneWork.of_quiet (hl : ∀ m, m ≠ l → u.lane m = s.lane m) (hs : ∀ m, m ≠ l → u.scan m = s.scan m)
    (hq : ∀ e ∈ u.startq, e ∈ s.startq) (hn : s.needDue = true → u.needDue = true)
    (hf : u = { s with
      lanes := u.lanes, survey := u.survey, link := u.link, startq := u.startq, needDue := u.needDue }) :
    LaneWork s u l where
  lanes := hl
  scans := hs
  table := fun e _ => by rw [hf]
  gone := fun h => by rw [hf]; exact h
  queue := hq
  needDue := hn
  outside := fun a _ => by rw [hf]
  port := .inl (by rw [hf])
  grows := by
    have e : u.matrix = s.matrix := by rw [hf]
    exact e ▸ .refl _
  frame := by
    have ht : u.table = s.table := by rw [hf]
    have hm : u.mem = s.mem := by rw [hf]
    have hp : u.port = s.port := by rw [hf]
    have hx : u.matrix = s.matrix := by rw [hf]
    rw [ht, hm, hp, hx]
    exact hf

theorem LaneWork.refl (s : State) (l : Lane) : LaneWork s s l :=
  .of_quiet (fun _ _ => rfl) (fun _ _ => rfl) (fun _ => id) id rfl

theorem modLane_work (l : Lane) (f : LaneRec → LaneRec) (s : State) : LaneWork s (modLane l f s) l :=
  .of_quiet (fun _ hm => modLane_lane_of_ne hm f s) (fun _ _ => rfl) (fun _ => id) id rfl

theorem modScan_work (l : Lane) (f : SurveyLane → SurveyLane) (s : State) : LaneWork s (modScan l f s) l :=
  .of_quiet (fun _ _ => rfl) (fun _ hm => modScan_scan_of_ne hm f s) (fun _ => id) id rfl

theorem modLink_work (l : Lane) (f : Link → Link) (s : State) : LaneWork s (modLink f s) l :=
  .of_quiet (fun _ _ => rfl) (fun _ _ => rfl) (fun _ => id) id rfl

theorem giveUp_work (l : Lane) (p : Transaction → Bool) (s : State) : LaneWork s (giveUp p s) l := modLink_work l _ s

theorem markNeed_work (l : Lane) (s : State) : LaneWork s (markNeed s) l :=
  .of_quiet (fun _ _ => rfl) (fun _ _ => rfl) (fun _ => id) (fun _ => rfl) rfl

/-- The survey engine's list, queue and requests are not a lane's survey fields. -/
theorem withSurvey_work {v : Survey} (hv : v.lanes = s.survey.lanes) (l : Lane) : LaneWork s (s.withSurvey v) l :=
  .of_quiet (fun _ _ => rfl) (fun m _ => congrArg (Quad.get · m) hv) (fun _ => id) id rfl

theorem dequeue_work (l : Lane) (s : State) : LaneWork s (dequeue l s) l :=
  .of_quiet (fun _ _ => rfl) (fun _ _ => rfl) (fun _ he => (List.mem_filter.mp he).1) id rfl

theorem dequeue_queue (l : Lane) (s : State) : ∀ e ∈ (dequeue l s).startq, e.lane ≠ l := fun e he => by
  simpa using (List.mem_filter.mp he).2

theorem setLaneState_work (l : Lane) (st : LaneState) (s : State) : LaneWork s (setLaneState l st s) l :=
  ((modLane_work l _ s).trans (modScan_work l _ _)).trans (markNeed_work l _)

/-! ### The table -/

@[simp] theorem publishTable_lane (t : List Entry) (s : State) (m : Lane) : (publishTable t s).lane m = s.lane m := by
  rw [(publishTable_spec t s).frame]
  rfl

@[simp] theorem publishTable_scan (t : List Entry) (s : State) (m : Lane) : (publishTable t s).scan m = s.scan m := by
  rw [(publishTable_spec t s).frame]
  rfl

/-- A publication that keeps the other lanes' candidates is work on the lane. -/
theorem publishTable_work {t : List Entry} (ht : ∀ e, e.key.lane ≠ l → (e ∈ t ↔ e ∈ s.table))
    (hg : (∀ e ∈ s.table, e.key.lane ≠ l) → ∀ e ∈ t, e.key.lane ≠ l) : LaneWork s (publishTable t s) l := by
  have hu := publishTable_spec t s
  have hl := publishTable_lane t s
  have hs := publishTable_scan t s
  generalize publishTable t s = u at hu hl hs
  have hq : u.startq = s.startq := by rw [hu.frame]
  have hn : u.needDue = s.needDue := by rw [hu.frame]
  exact {
    lanes := fun m _ => hl m
    scans := fun m _ => hs m
    table := fun e he => (hu.mem_iff e).trans (ht e he)
    gone := fun h e he => hg h e ((hu.mem_iff e).mp he)
    queue := fun e he => hq ▸ he
    needDue := fun h => hn.trans h
    outside := hu.outside
    port := .inr hu.port
    grows := hu.grows
    frame := by rw [hu.frame] }

theorem rescoreLane_work (l : Lane) (s : State) : LaneWork s (rescoreLane l s) l := by
  unfold rescoreLane
  split
  · refine publishTable_work (fun e he => ?_) fun h e he => ?_
    · rw [List.mem_map]
      constructor
      · rintro ⟨x, hx, rfl⟩
        by_cases hxl : x.key.lane = l
        · rw [if_pos hxl] at he
          exact absurd hxl he
        · rwa [if_neg hxl]
      · exact fun hin => ⟨e, hin, if_neg he⟩
    · obtain ⟨x, hx, rfl⟩ := List.mem_map.mp he
      rw [if_neg (h x hx)]
      exact h x hx
  · exact .refl s l

@[simp] theorem rescoreLane_lane (l m : Lane) (s : State) : (rescoreLane l s).lane m = s.lane m := by
  unfold rescoreLane
  split
  · exact publishTable_lane _ s m
  · rfl

@[simp] theorem rescoreLane_scan (l m : Lane) (s : State) : (rescoreLane l s).scan m = s.scan m := by
  unfold rescoreLane
  split
  · exact publishTable_scan _ s m
  · rfl

theorem setNoResp_of_eq {n : Nat} (h : (s.lane l).noResp = n) : setNoResp l n s = s := if_pos h

theorem setNoResp_work (l : Lane) (n : Nat) (s : State) : LaneWork s (setNoResp l n s) l := by
  unfold setNoResp
  split
  · exact .refl s l
  · exact (modLane_work l _ s).trans (rescoreLane_work l _)

@[simp] theorem setNoResp_lane (l : Lane) (n : Nat) (s : State) :
    (setNoResp l n s).lane l = { s.lane l with noResp := n } := by
  unfold setNoResp
  split
  · next h => rw [← h]
  · rw [rescoreLane_lane, modLane_lane_same]

@[simp] theorem setNoResp_scan (l m : Lane) (n : Nat) (s : State) : (setNoResp l n s).scan m = s.scan m := by
  unfold setNoResp
  split
  · rfl
  · rw [rescoreLane_scan, modLane_scan]

theorem removeLane_eq (l : Lane) (s : State) :
    removeLane l s = modLane l (fun r => { r with removed := true }) (removeLanes (fun m => decide (m = l)) s) := rfl

theorem removeLanes_work (l : Lane) (s : State) : LaneWork s (removeLanes (fun m => decide (m = l)) s) l := by
  unfold removeLanes
  split
  · refine publishTable_work (fun e he => ?_) fun h e he => h e (List.mem_filter.mp he).1
    simp [he]
  · exact .refl s l

theorem removeLane_work (l : Lane) (s : State) : LaneWork s (removeLane l s) l :=
  (removeLanes_work l s).trans (modLane_work l _ _)

@[simp] theorem removeLane_lane (l : Lane) (s : State) :
    (removeLane l s).lane l = { s.lane l with removed := true } := by
  have h : (removeLanes (fun m => decide (m = l)) s).lane l = s.lane l := by
    unfold removeLanes
    split
    · exact publishTable_lane _ s l
    · rfl
  rw [removeLane_eq, modLane_lane_same, h]

@[simp] theorem removeLane_scan (l m : Lane) (s : State) : (removeLane l s).scan m = s.scan m := by
  rw [removeLane_eq, modLane_scan]
  unfold removeLanes
  split
  · exact publishTable_scan _ s m
  · rfl

theorem removeLane_gone (l : Lane) (s : State) : ∀ e ∈ (removeLane l s).table, e.key.lane ≠ l := by
  rw [removeLane_eq]
  by_cases h : ∃ e ∈ s.table, decide (e.key.lane = l) = true
  · have hu := (removeLanes_spec (named := fun m => decide (m = l)) h).1
    intro e he
    have hin := (hu.mem_iff e).mp he
    simpa using (List.mem_filter.mp hin).2
  · have hnone : ∀ e ∈ s.table, decide (e.key.lane = l) = false := fun e he =>
      Bool.eq_false_iff.mpr fun hl => h ⟨e, he, hl⟩
    rw [removeLanes_of_none (named := fun m => decide (m = l)) hnone]
    exact fun e he => of_decide_eq_false (hnone e he)

/-- The table after work on a lane that has left it without the lane's candidates. -/
theorem LaneWork.mem_iff (h : LaneWork s u l) (hg : ∀ e ∈ u.table, e.key.lane ≠ l) (e : Entry) :
    e ∈ u.table ↔ e ∈ s.table ∧ e.key.lane ≠ l :=
  ⟨fun he => ⟨(h.table e (hg e he)).mp he, hg e he⟩, fun ⟨he, hl⟩ => (h.table e hl).mpr he⟩

/-! ### The survey engine -/

theorem tellRequests_work (l k : Lane) (v : ReqStatus) (s : State) : LaneWork s (tellRequests k v s) l :=
  withSurvey_work (by rfl) l

theorem leaveList_work (l : Lane) (s : State) : LaneWork s (leaveList l s) l :=
  withSurvey_work (by rfl) l

theorem leaveList_listed (l : Lane) (s : State) : l ∉ (leaveList l s).survey.list := by simp [leaveList]

theorem joinList_work (l : Lane) (s : State) : LaneWork s (joinList l s) l := by
  have hu := joinList_spec l s
  generalize joinList l s = u at hu
  exact .of_quiet (fun m _ => by rw [hu.frame]; rfl) hu.otherScans (fun e he => by rw [hu.frame] at he; exact he)
    (fun h => by rw [hu.frame]; exact h) (by rw [hu.frame])

theorem dropScan_work (l : Lane) (s : State) : LaneWork s (dropScan l s) l := by
  unfold dropScan settleWait
  split
  · exact (withSurvey_work (by rfl) l).trans (modLink_work l _ _)
  · exact withSurvey_work (by rfl) l

@[simp] theorem dropScan_scan (l m : Lane) (s : State) : (dropScan l s).scan m = s.scan m := by
  unfold dropScan settleWait
  split <;> rfl

theorem endScan_work (l : Lane) (completed : Bool) (s : State) : LaneWork s (endScan l completed s) l := by
  unfold endScan
  exact (((modLane_work l _ s).trans (modScan_work l _ _)).trans (modScan_work l _ _)).trans (tellRequests_work l l _ _)

/-- The holders of a lane's tag that a scan's end leaves (R78, R103). -/
def tagAfterScan (stage : ScanStage) (tag : Option (Nat × Owner)) : Option (Nat × Owner) :=
  if stage.inFlight then tag.filter (fun t => decide (t.2 ≠ Owner.survey)) else tag

theorem tagAfterScan_none (stage : ScanStage) : tagAfterScan stage none = none := by
  unfold tagAfterScan
  split <;> rfl

/-- A lane is lost to the survey engine (R81): its scan is over, and its tag with it. -/
structure ScanGone (s u : State) (l : Lane) : Prop where
  lane : u.lane l = { s.lane l with outTag := tagAfterScan (s.scan l).stage (s.lane l).outTag }
  stage : (u.scan l).stage = .none
  startq : u.startq = s.startq
  work : LaneWork s u l
  frame : LanesOnly s u

theorem scanLost_gone (l : Lane) (s : State) : ScanGone s (scanLost l s) l := by
  have hframe := (scanLost_spec l s).frame
  unfold scanLost at hframe ⊢
  by_cases hnone : (s.scan l).stage = .none
  · rw [if_pos hnone]
    exact ⟨by rw [hnone]; rfl, hnone, rfl, .refl s l, rfl⟩
  rw [if_neg hnone] at hframe ⊢
  have ht : LaneWork s (if (s.scan l).stage.inFlight then endScan l false s else s) l := by
    split
    · exact endScan_work l false s
    · exact .refl s l
  have htl : (if (s.scan l).stage.inFlight then endScan l false s else s).lane l
      = { s.lane l with outTag := tagAfterScan (s.scan l).stage (s.lane l).outTag } := by
    unfold tagAfterScan
    split
    · exact (endScan_spec l false s).lane
    · rfl
  generalize (if (s.scan l).stage.inFlight then endScan l false s else s) = t at ht htl hframe
  have hd : LaneWork t (giveUpSurvey l (dropScan l t)) l := (dropScan_work l t).trans (giveUp_work l _ _)
  have hdl : (giveUpSurvey l (dropScan l t)).lane l = t.lane l := dropScan_lanes l l t
  dsimp only at hframe ⊢
  generalize giveUpSurvey l (dropScan l t) = d at hd hdl hframe
  refine ⟨by rw [modScan_lane, hdl, htl], by rw [modScan_scan_same], by rw [hframe], ?_, hframe⟩
  exact (ht.trans hd).trans (modScan_work l _ _)

/-! ### Owners -/

theorem considerRing_work (l : Lane) (s : State) : LaneWork s (considerRing l s) l := by
  unfold considerRing
  split
  · rw [addMaint_eq]
    exact .of_quiet (fun _ _ => rfl) (fun _ _ => rfl) (fun _ => id) id rfl
  · exact .refl s l

@[simp] theorem considerRing_lane (l m : Lane) (s : State) : (considerRing l s).lane m = s.lane m := by
  unfold considerRing
  split
  · rw [addMaint_eq]
    rfl
  · rfl

@[simp] theorem considerRing_scan (l m : Lane) (s : State) : (considerRing l s).scan m = s.scan m := by
  unfold considerRing
  split
  · rw [addMaint_eq]
    rfl
  · rfl

theorem startProbe_work (l : Lane) (s : State) : LaneWork s (startProbe l s) l := by
  unfold startProbe
  split
  · exact modLane_work l _ s
  · exact .refl s l

/-- The probe timer of a lane that is READY without owner starts; the others' stays as it was (R95). -/
def probeStarted (s : State) (r : LaneRec) : Option Seconds :=
  if r.state = .ready ∧ r.owner = .none then some (later s.now (probeIntervalOf s)) else r.probeTimer

theorem startProbe_lane (l : Lane) (s : State) :
    (startProbe l s).lane l = { s.lane l with probeTimer := probeStarted s (s.lane l) } := by
  unfold startProbe probeStarted
  split
  · rw [modLane_lane_same]
  · rfl

@[simp] theorem startProbe_scan (l m : Lane) (s : State) : (startProbe l s).scan m = s.scan m := by
  unfold startProbe
  split <;> rfl

/-- A lane has lost its owner (R89). -/
structure Disowned (s u : State) (l : Lane) : Prop where
  lane : u.lane l = { s.lane l with owner := .none, probeTimer := (u.lane l).probeTimer }
  probe : (s.lane l).state ≠ .ready → (u.lane l).probeTimer = (s.lane l).probeTimer
  stage : (u.scan l).stage = (s.scan l).stage
  startq : u.startq = s.startq
  needDue : u.needDue = true
  work : LaneWork s u l
  frame : LanesOnly s u

theorem setOwner_none (l : Lane) (s : State) :
    setOwner l .none s = considerRing l (startProbe l (owning l .none s)) := rfl

theorem disown_spec (l : Lane) (s : State) : Disowned s (setOwner l .none s) l := by
  have hframe := (setOwner_spec l .none s).frame
  have hneed : (setOwner l .none s).needDue = (owning l .none s).needDue := by rw [(setOwner_upkeep l .none s).frame]
  rw [setOwner_none] at hframe hneed ⊢
  have ho : (owning l .none s).lane l = { s.lane l with owner := .none } :=
    modLane_lane_same l (fun r => { r with owner := .none }) s
  have hw : LaneWork s (owning l .none s) l :=
    ((modLane_work l _ s).trans (modScan_work l _ _)).trans (markNeed_work l _)
  have hlane : (considerRing l (startProbe l (owning l .none s))).lane l
      = { s.lane l with owner := .none, probeTimer := probeStarted (owning l .none s) { s.lane l with owner := .none } } := by
    rw [considerRing_lane, startProbe_lane, ho]
  exact {
    lane := by rw [hlane]
    probe := fun h => by
      rw [hlane]
      exact if_neg fun hr => h hr.1
    stage := by
      rw [considerRing_scan, startProbe_scan]
      rw [owning, markNeed, markLane, State.scan, State.withNeedDue_survey, ← State.scan, modScan_scan_same, modLane_scan]
    startq := by rw [hframe]
    needDue := hneed
    work := (hw.trans (startProbe_work l _)).trans (considerRing_work l _)
    frame := hframe }

/-- A lane that no context owns has been taken from the survey engine, if the engine had it (R81). -/
structure SurveyTaken (s u : State) (l : Lane) : Prop where
  lane : u.lane l = { s.lane l with
    owner := .none, outTag := (u.lane l).outTag, probeTimer := (u.lane l).probeTimer }
  startq : u.startq = s.startq
  work : LaneWork s u l
  frame : LanesOnly s u

theorem takeFromSurvey_taken (h : ∀ n, (s.lane l).owner ≠ .ctx n) : SurveyTaken s (takeFromSurvey l s) l := by
  unfold takeFromSurvey
  by_cases ho : (s.lane l).owner = .survey
  · rw [if_pos ho]
    have ht := scanLost_gone l s
    generalize scanLost l s = t at ht
    have hto : (t.lane l).owner = .survey := by rw [ht.lane, ho]
    rw [releaseSurvey, if_pos hto]
    have hv : LaneChanged t (staleTag l t) l (fun r => { r with outTag := none }) := modLane_spec l _ t
    have hvw : LaneWork t (staleTag l t) l := modLane_work l _ t
    generalize staleTag l t = v at hv hvw
    have hu := disown_spec l v
    generalize setOwner l .none v = u at hu
    refine ⟨by rw [hu.lane, hv.lane, ht.lane], by rw [hu.startq, hv.frame, ht.startq],
      (ht.work.trans hvw).trans hu.work, ht.frame.trans (.trans ?_ hu.frame)⟩
    unfold LanesOnly
    rw [hv.frame]
  · rw [if_neg ho]
    have hnone : (s.lane l).owner = .none := by
      cases e : (s.lane l).owner with
      | none => rfl
      | survey => exact absurd e ho
      | ctx n => exact absurd e (h n)
    exact ⟨by rw [← hnone], rfl, .refl s l, rfl⟩

/-! ### Power -/

theorem withdrawLane_work (l : Lane) (s : State) : LaneWork s (withdrawLane l s) l :=
  ((modLink_work l _ s).trans (dropScan_work l _)).trans (giveUp_work l _ _)

@[simp] theorem withdrawLane_lane (l m : Lane) (s : State) : (withdrawLane l s).lane m = s.lane m :=
  dropScan_lanes l m _

@[simp] theorem withdrawLane_scan (l m : Lane) (s : State) : (withdrawLane l s).scan m = s.scan m :=
  dropScan_scan l m _

/-- A lane's power has been cut (R85, R96). -/
structure PowerCut (s u : State) (l : Lane) : Prop where
  lane : u.lane l = { s.lane l with
    power := false, camp := none, outTag := none, ringToRefuse := false, fetchArmed := false, readySince := none
    pdPending := false, startTimer := none, probeTimer := none, standby := (u.lane l).standby, noResp := 0 }
  work : LaneWork s u l

theorem cutPower_spec (l : Lane) (s : State) : PowerCut s (cutPower l s) l := by
  refine ⟨?_, ((modLane_work l _ s).trans (withdrawLane_work l _)).trans (setNoResp_work l 0 _)⟩
  unfold cutPower
  simp only [setNoResp_lane, withdrawLane_lane, modLane_lane_same]

@[simp] theorem cutPower_scan (l m : Lane) (s : State) : (cutPower l s).scan m = s.scan m := by
  unfold cutPower
  rw [setNoResp_scan, withdrawLane_scan, modLane_scan]

theorem powerOff_spec (l : Lane) (s : State) : PowerCut s (powerOff l s) l := by
  have ht := scanLost_gone l s
  rw [powerOff]
  generalize scanLost l s = t at ht
  have hu := cutPower_spec l t
  generalize cutPower l t = u at hu
  exact ⟨by rw [hu.lane, ht.lane], ht.work.trans hu.work⟩

theorem powerOff_stage (l : Lane) (s : State) : ((powerOff l s).scan l).stage = .none := by
  rw [powerOff, cutPower_scan]
  exact (scanLost_gone l s).stage

/-! ### Due times -/

/-- A lane has no due time and is not on the survey list (R72, R73). -/
structure NeverDue (s u : State) (l : Lane) : Prop where
  scan : u.scan l = { s.scan l with due := none }
  listed : l ∉ u.survey.list
  lane : u.lane l = s.lane l
  work : LaneWork s u l
  frame : u = { s with survey := u.survey }

theorem dueNever_spec (l : Lane) (s : State) : NeverDue s (dueNever l s) l where
  scan := modScan_scan_same l (fun v => { v with due := none }) s
  listed := leaveList_listed l _
  lane := rfl
  work := (modScan_work l _ s).trans (leaveList_work l _)
  frame := rfl

/-- A lane falls due at once: its due time is the present uptime, and it is on the survey list (R72, R73). -/
structure DueSet (s u : State) (l : Lane) : Prop where
  scan : (u.scan l).due = some s.now
  listed : l ∈ u.survey.list
  lane : u.lane l = s.lane l
  work : LaneWork s u l
  frame : u = { s with survey := u.survey }

theorem dueNow_eq (l : Lane) (s : State) :
    dueNow l s = joinList l (modScan l (fun v => { v with due := some s.now }) (leaveList l s)) := rfl

theorem dueNow_spec (l : Lane) (s : State) : DueSet s (dueNow l s) l := by
  rw [dueNow_eq]
  have htw : LaneWork s (modScan l (fun v => { v with due := some s.now }) (leaveList l s)) l :=
    (leaveList_work l s).trans (modScan_work l _ _)
  have hts : ((modScan l (fun v => { v with due := some s.now }) (leaveList l s)).scan l).due = some s.now := by
    rw [modScan_scan_same]
  have htf : modScan l (fun v => { v with due := some s.now }) (leaveList l s) = { s with
    survey := (modScan l (fun v => { v with due := some s.now }) (leaveList l s)).survey } := rfl
  generalize modScan l (fun v => { v with due := some s.now }) (leaveList l s) = t at htw hts htf
  have hu := joinList_spec l t
  have huw := joinList_work l t
  generalize joinList l t = u at hu huw
  exact ⟨by rw [hu.scan, hts], (hu.listed l).mpr (.inl rfl), by rw [hu.frame, htf]; rfl, htw.trans huw,
    by rw [hu.frame, htf]⟩

end

end Sys2Proof.Machine
end

section
namespace Sys2Proof.Machine

/-! ## LANE_CONTROL -/

section
variable {s u : State} {i : Fin 8} {l : Lane}

theorem isCtx_of_free (h : ∀ n, (s.lane l).owner ≠ .ctx n) : (s.lane l).owner.isCtx = false := by
  cases ho : (s.lane l).owner with
  | none => rfl
  | survey => rfl
  | ctx n => exact absurd ho (h n)

/-- A taken order that stands in a wait, its rule having written elsewhere than in the slots (R166, R168). -/
theorem orderWaits_of_outside {w : Wait} {base n : Nat} (hb : 0x200 ≤ base) (hm : SameOutside (takeOrder i s) u base n)
    (ho : u.orders = (waitOrder i w (takeOrder i s)).orders) : OrderWaits s u i w base n := by
  have hi := i.isLt
  have hslot : u.mem.read (slotAddr i) = (takeOrder i s).mem.read (slotAddr i) :=
    hm _ (by rw [slotAddr_eq]; omega)
  refine ⟨hslot.trans (takeOrder_slotState i s), fun a ha h _ => ?_, fun k h16 h32 => ?_, by rw [ho]; rfl,
    by rw [ho]; exact List.mem_append_right _ List.mem_cons_self⟩
  · rw [hm a ha, takeOrder_read i s a h]
  · rw [hm _ (by omega), takeOrder_read i s _ (by rw [slotAddr_eq]; omega)]

/-! ### RESET -/

/-- A lane as a LANE_CONTROL RESET leaves it before its identification begins: cut from power, without place in the start queue,
candidates, restarts, cause and restart timer (R99). -/
def stripLane (l : Lane) (s : State) : State :=
  modLane l (fun r => { r with restarts := 0, cause := .none, restartTimer := none })
    (removeLane l (powerOff l (dequeue l (takeFromSurvey l s))))

theorem laneReset_of_front (h : FrontOrder s i 9 [BitVec.ofNat 8 l.num, 0]) (ho : ∀ n, (s.lane l).owner ≠ .ctx n) :
    laneReset i (takeOrder i s) =
      waitOrder i (.ident l) (beginIdent l (dueNever l (stripLane l (takeOrder i s)))) := by
  unfold laneReset
  rw [argLane_takeOrder, argLane_of_front h]
  have e : ((takeOrder i s).lane l).owner.isCtx = false := isCtx_of_free ho
  dsimp only
  rw [e]
  rfl

/-- What the rule of LANE_CONTROL RESET has made of a lane before its identification begins (R99). -/
structure LaneStripped (s u : State) (l : Lane) : Prop where
  lane : u.lane l = { s.lane l with
    owner := .none, power := false, camp := none, outTag := none, ringToRefuse := false, fetchArmed := false
    readySince := none, pdPending := false, startTimer := none, probeTimer := none, noResp := 0, removed := true
    restarts := 0, cause := .none, restartTimer := none, standby := (u.lane l).standby }
  stage : (u.scan l).stage = .none
  queue : ∀ e ∈ u.startq, e.lane ≠ l
  gone : ∀ e ∈ u.table, e.key.lane ≠ l
  work : LaneWork s u l

theorem stripLane_spec (h : ∀ n, (s.lane l).owner ≠ .ctx n) : LaneStripped s (stripLane l s) l := by
  unfold stripLane
  have ha := takeFromSurvey_taken h
  generalize takeFromSurvey l s = a at ha
  have hbl : (dequeue l a).lane l = a.lane l := rfl
  have hbq := dequeue_queue l a
  have hbw := dequeue_work l a
  generalize dequeue l a = b at hbl hbq hbw
  have hc := powerOff_spec l b
  have hcs := powerOff_stage l b
  generalize powerOff l b = c at hc hcs
  have hdl := removeLane_lane l c
  have hds := removeLane_scan l l c
  have hdg := removeLane_gone l c
  have hdw := removeLane_work l c
  generalize removeLane l c = d at hdl hds hdg hdw
  have hu := modLane_spec l (fun r => { r with restarts := 0, cause := .none, restartTimer := none }) d
  have huw := modLane_work l (fun r => { r with restarts := 0, cause := .none, restartTimer := none }) d
  have hus := modLane_scan l l (fun r => { r with restarts := 0, cause := .none, restartTimer := none }) d
  generalize modLane l _ d = u at hu huw hus
  exact {
    lane := by rw [hu.lane, hdl, hc.lane, hbl, ha.lane]
    stage := by rw [hus, hds, hcs]
    queue := fun e he => hbq e (hc.work.queue e (hdw.queue e (huw.queue e he)))
    gone := huw.gone hdg
    work := (((ha.work.trans hbw).trans hc.work).trans hdw).trans huw }

/-- A lane's record with its identification begun (R87, R99). -/
def LaneRec.identifying (ms : Nat) (r : LaneRec) : LaneRec :=
  { r with identity := 0xFFFF, ident := some { read := 0, bits := 0, ends := ms + Config.identityMs } }

theorem beginIdent_eq (l : Lane) (s : State) :
    beginIdent l s = setLaneState l .absent (modLane l (LaneRec.identifying s.time.ms) s) := rfl

/-- A lane's identification has begun (R87, R99). -/
structure IdentBegun (s u : State) (l : Lane) : Prop where
  lane : u.lane l = { s.lane l with
    state := .absent, identity := 0xFFFF, ident := some { read := 0, bits := 0, ends := s.time.ms + 10 } }
  scan : u.scan l = { s.scan l with consider := true }
  list : u.survey.list = s.survey.list
  startq : u.startq = s.startq
  work : LaneWork s u l

theorem beginIdent_spec (l : Lane) (s : State) : IdentBegun s (beginIdent l s) l := by
  rw [beginIdent_eq]
  have ht := modLane_spec l (LaneRec.identifying s.time.ms) s
  have htw := modLane_work l (LaneRec.identifying s.time.ms) s
  generalize modLane l _ s = t at ht htw
  have hu := setLaneState_spec l .absent t
  have huw := setLaneState_work l .absent t
  generalize setLaneState l .absent t = u at hu huw
  exact {
    lane := by rw [hu.lane, ht.lane]; rfl
    scan := by rw [hu.scan, ht.frame]; rfl
    list := by rw [hu.frame, ht.frame]
    startq := by rw [hu.frame, ht.frame]
    work := htw.trans huw }

/-! ### FORCE_OFF and AUTO -/

/-- A lane's forced-off flag takes a value, and the lane manager and the survey engine look at the lane again (R98). -/
def flagLane (v : Bool) (l : Lane) (s : State) : State :=
  markNeed (markLane l (modLane l (fun r => { r with forcedOff := v }) s))

theorem flagLane_lane (v : Bool) (l : Lane) (s : State) :
    (flagLane v l s).lane l = { s.lane l with forcedOff := v } :=
  modLane_lane_same l (fun r => { r with forcedOff := v }) s

theorem flagLane_work (v : Bool) (l : Lane) (s : State) : LaneWork s (flagLane v l s) l :=
  ((modLane_work l _ s).trans (modScan_work l _ _)).trans (markNeed_work l _)

/-- What FORCE_OFF does to a lane that is not ABSENT, its flag set (R99). -/
def forceLane (l : Lane) (s : State) : State :=
  dequeue l (modLane l (fun r => { r with restartTimer := none }) (removeLane l (takeFromSurvey l s)))

theorem laneForceOff_of_front (h : FrontOrder s i 9 [BitVec.ofNat 8 l.num, 1]) (ho : ∀ n, (s.lane l).owner ≠ .ctx n)
    (hf : (s.lane l).forcedOff = false) : laneForceOff i (takeOrder i s) = orderOk i
      (if (s.lane l).state = .absent then flagLane true l (takeOrder i s)
        else forceLane l (flagLane true l (takeOrder i s))) := by
  unfold laneForceOff
  rw [argLane_takeOrder, argLane_of_front h]
  have e : ((takeOrder i s).lane l).owner.isCtx = false := isCtx_of_free ho
  have f : ((takeOrder i s).lane l).forcedOff = false := hf
  have g : ((flagLane true l (takeOrder i s)).lane l).state = (s.lane l).state := by
    rw [flagLane_lane]
    rfl
  dsimp only
  rw [e, f, if_neg Bool.false_ne_true, if_neg Bool.false_ne_true, ← flagLane, g]
  exact (apply_ite (orderOk i) _ _ _).symm

/-- A lane forced off has lost its hold by the survey engine, its restart timer, its place in the start queue and its
candidates (R99). -/
structure LaneForced (s u : State) (l : Lane) : Prop where
  lane : u.lane l = { s.lane l with
    owner := .none, restartTimer := none, removed := true, outTag := (u.lane l).outTag
    probeTimer := (u.lane l).probeTimer }
  queue : ∀ e ∈ u.startq, e.lane ≠ l
  gone : ∀ e ∈ u.table, e.key.lane ≠ l
  work : LaneWork s u l

theorem forceLane_spec (h : ∀ n, (s.lane l).owner ≠ .ctx n) : LaneForced s (forceLane l s) l := by
  unfold forceLane
  have ha := takeFromSurvey_taken h
  generalize takeFromSurvey l s = a at ha
  have hbl := removeLane_lane l a
  have hbg := removeLane_gone l a
  have hbw := removeLane_work l a
  generalize removeLane l a = b at hbl hbg hbw
  have hc := modLane_spec l (fun r => { r with restartTimer := none }) b
  have hcw := modLane_work l (fun r => { r with restartTimer := none }) b
  generalize modLane l _ b = c at hc hcw
  have hul : (dequeue l c).lane l = c.lane l := rfl
  have huw := dequeue_work l c
  have huq := dequeue_queue l c
  generalize dequeue l c = u at hul huw huq
  exact {
    lane := by rw [hul, hc.lane, hbl, ha.lane]
    queue := huq
    gone := huw.gone (hcw.gone hbg)
    work := ((ha.work.trans hbw).trans hcw).trans huw }

/-- The restart timer of a FAULTED lane, but not by its identity, starts anew when its restarts allow (R98, R99). -/
def restartFlagged (l : Lane) (s : State) : State :=
  if (s.lane l).state = .faulted ∧ (s.lane l).cause ≠ .identity then startRestart l s else s

theorem laneAuto_of_front (h : FrontOrder s i 9 [BitVec.ofNat 8 l.num, 2]) (hf : (s.lane l).forcedOff = true) :
    laneAuto i (takeOrder i s) = orderOk i (restartFlagged l (flagLane false l (takeOrder i s))) := by
  unfold laneAuto
  rw [argLane_takeOrder, argLane_of_front h]
  exact if_pos hf

theorem startRestart_lane (l : Lane) (s : State) : (startRestart l s).lane l = { s.lane l with
    restartTimer := if (s.lane l).restarts < 3 then some (later s.now (restartDelayOf s))
      else (s.lane l).restartTimer } := by
  unfold startRestart
  split
  · rw [modLane_lane_same]
  · rfl

theorem startRestart_frame (l : Lane) (s : State) : startRestart l s = { s with lanes := (startRestart l s).lanes } := by
  unfold startRestart
  split <;> rfl

theorem startRestart_work (l : Lane) (s : State) : LaneWork s (startRestart l s) l := by
  unfold startRestart
  split
  · exact modLane_work l _ s
  · exact .refl s l

theorem restartFlagged_lane (l : Lane) (s : State) : (restartFlagged l s).lane l = { s.lane l with
    restartTimer := if (s.lane l).state = .faulted ∧ (s.lane l).cause ≠ .identity ∧ (s.lane l).restarts < 3 then
      some (later s.now (restartDelayOf s)) else (s.lane l).restartTimer } := by
  unfold restartFlagged
  by_cases h : (s.lane l).state = .faulted ∧ (s.lane l).cause ≠ .identity
  · obtain ⟨hs, hc⟩ := h
    rw [if_pos ⟨hs, hc⟩, startRestart_lane]
    simp only [hs, hc, ne_eq, not_false_eq_true, true_and]
  · rw [if_neg h, if_neg fun hr => h ⟨hr.1, hr.2.1⟩]

theorem restartFlagged_frame (l : Lane) (s : State) :
    restartFlagged l s = { s with lanes := (restartFlagged l s).lanes } := by
  unfold restartFlagged
  split
  · exact startRestart_frame l s
  · rfl

theorem restartFlagged_work (l : Lane) (s : State) : LaneWork s (restartFlagged l s) l := by
  unfold restartFlagged
  split
  · exact startRestart_work l s
  · exact .refl s l

/-- What the part reads of a 16-bit setting does not change where the settings block does not. -/
theorem setting16_congr {s t : State} (hs : t.snap = s.snap)
    (hm : ∀ a, 0x200 ≤ a → a < 0x400 → t.mem.read a = s.mem.read a) {off : Nat} (ho : off < 0x1FF) :
    setting16 t off = setting16 s off :=
  Memory.num_two_congr fun x h1 h2 => hostMem_read_congr hs
    (hm x (by simp only [Config.settingsBase] at h1; omega) (by simp only [Config.settingsBase] at h2; omega))

/-- No timer setting changes where the settings block does not (R157). -/
theorem timerSetting_congr {s t : State} (hs : t.snap = s.snap)
    (hm : ∀ a, 0x200 ≤ a → a < 0x400 → t.mem.read a = s.mem.read a) {k : Nat} (hk : k < 16) (lo hi : Nat) :
    timerSetting t k lo hi = timerSetting s k lo hi := by
  rw [timerSetting, timerSetting, setting16_congr hs hm (by omega)]

theorem restartDelayOf_takeOrder (i : Fin 8) (s : State) : restartDelayOf (takeOrder i s) = restartDelayOf s := by
  have hi := i.isLt
  exact timerSetting_congr (k := 10) (s := s) (t := takeOrder i s) rfl
    (fun a h _ => takeOrder_read i s a (by rw [slotAddr_eq]; omega)) (by decide) _ _

end

end Sys2Proof.Machine

namespace Sys2Proof.Proofs
open Sys2Proof.Machine

/-- Settles O27, by the lane's parting with what it had and then the begin of its identification. -/
theorem laneResetCutsAndIdentifiesTheLane : Obligations.LaneResetCutsAndIdentifiesTheLane := by
  intro s i l h ho
  refine ⟨_, takeRow_laneReset h, ?_⟩
  rw [laneReset_of_front h ho]
  have ha : LaneStripped (takeOrder i s) (stripLane l (takeOrder i s)) l := stripLane_spec ho
  generalize stripLane l (takeOrder i s) = a at ha
  have hb := dueNever_spec l a
  generalize dueNever l a = b at hb
  have hc := beginIdent_spec l b
  generalize beginIdent l b = c at hc
  have hw : LaneWork (takeOrder i s) c l := (ha.work.trans hb.work).trans hc.work
  have hlane : c.lane l = { (s.lane l) with
      state := .absent, owner := .none, power := false, camp := none, outTag := none, ringToRefuse := false
      fetchArmed := false, readySince := none, pdPending := false, startTimer := none, probeTimer := none, noResp := 0
      removed := true, restarts := 0, cause := .none, restartTimer := none, standby := (a.lane l).standby
      identity := 0xFFFF, ident := some { read := 0, bits := 0, ends := s.time.ms + 10 } } := by
    have hms : b.time.ms = s.time.ms := by rw [hb.frame, ha.work.frame]; rfl
    rw [hc.lane, hb.lane, ha.lane, hms]
    rfl
  have hscan : c.scan l = { a.scan l with due := none, consider := true } := by rw [hc.scan, hb.scan]
  have horders : (waitOrder i (.ident l) c).orders = (waitOrder i (.ident l) (takeOrder i s)).orders := by
    rw [waitOrder, waitOrder, State.withOrders_orders, hw.frame]
    rfl
  have hul : (waitOrder i (.ident l) c).lane l = c.lane l := rfl
  have hus : (waitOrder i (.ident l) c).scan l = c.scan l := rfl
  beta_reduce
  rw [hul, hus, hlane, hscan]
  refine ⟨rfl, rfl, rfl, rfl, rfl, rfl, rfl, rfl, rfl, rfl, rfl, rfl, rfl, rfl, ?_, ?_, ?_,
    hw.mem_iff (fun e he => hc.work.gone (hb.work.gone ha.gone) e he), fun m hm => ⟨hw.lanes m hm, hw.scans m hm⟩,
    orderWaits_of_outside (by decide) hw.outside horders, ?_⟩
  · show (a.scan l).stage.inFlight = false
    rw [ha.stage]
    rfl
  · show l ∉ c.survey.list
    rw [hc.list]
    exact hb.listed
  · exact fun e he => ha.queue e (hb.work.queue e (hc.work.queue e he))
  · rw [waitOrder, hw.frame]
    rfl

/-- Settles O28, by the flag's change and what follows it. -/
theorem forceOffAndAutoSetTheFlag : Obligations.ForceOffAndAutoSetTheFlag := by
  intro s i l
  refine ⟨fun h ho hf => ⟨_, takeRow_laneForceOff h, ?_⟩, fun h hf => ⟨_, takeRow_laneAuto h, ?_⟩⟩
  · rw [laneForceOff_of_front h ho hf, orderOk]
    have ha : (flagLane true l (takeOrder i s)).lane l = { s.lane l with forcedOff := true } :=
      flagLane_lane true l (takeOrder i s)
    have haw := flagLane_work true l (takeOrder i s)
    have han : (flagLane true l (takeOrder i s)).needDue = true := rfl
    have hat : (flagLane true l (takeOrder i s)).table = s.table := rfl
    have haq : (flagLane true l (takeOrder i s)).startq = s.startq := rfl
    generalize flagLane true l (takeOrder i s) = a at ha haw han hat haq
    have hforced : LaneForced a (forceLane l a) l := forceLane_spec fun n => by rw [ha]; exact ho n
    generalize forceLane l a = b at hforced
    have hw : LaneWork (takeOrder i s) (if (s.lane l).state = .absent then a else b) l := by
      split
      · exact haw
      · exact haw.trans hforced.work
    have hn : (if (s.lane l).state = .absent then a else b).needDue = true := by
      split
      · exact han
      · exact hforced.work.needDue han
    have hc : ((if (s.lane l).state = .absent then a else b).lane l).forcedOff = true
        ∧ ((if (s.lane l).state = .absent then a else b).lane l).state = (s.lane l).state := by
      split
      · rw [ha]
        exact ⟨rfl, rfl⟩
      · rw [hforced.lane, ha]
        exact ⟨rfl, rfl⟩
    have hpresent : (s.lane l).state ≠ .absent → (if (s.lane l).state = .absent then a else b) = b := fun hp => if_neg hp
    have habsent : (s.lane l).state = .absent → (if (s.lane l).state = .absent then a else b) = a := fun hp => if_pos hp
    generalize (if (s.lane l).state = .absent then a else b) = c at hw hn hc hpresent habsent
    have hu := completeOrder_spec i .ok [] c
    generalize completeOrder i .ok [] c = u at hu
    have hul : ∀ m, u.lane m = c.lane m := fun m => by rw [hu.frame]; rfl
    have hut : u.table = c.table := by rw [hu.frame]
    have huq : u.startq = c.startq := by rw [hu.frame]
    obtain ⟨hflag, hstate⟩ := hc
    refine ⟨by rw [hul, hflag], by rw [hul, hstate], by rw [hu.frame]; exact hn, fun hp => ?_, fun hp => ?_,
      fun m hm => by rw [hul, hw.lanes m hm]; rfl, orderDone_of_mem hu.mem, hu.sameButSlot hw.outside, ?_⟩
    · obtain rfl := hpresent hp
      rw [hul, hut, huq, hforced.lane]
      exact ⟨rfl, rfl, hforced.queue, hw.mem_iff hforced.gone⟩
    · rw [hut, huq, habsent hp]
      exact ⟨hat, haq⟩
    · rw [hu.frame, hw.frame]
      rfl
  · rw [laneAuto_of_front h hf, orderOk]
    have ha : (flagLane false l (takeOrder i s)).lane l = { s.lane l with forcedOff := false } :=
      flagLane_lane false l (takeOrder i s)
    have haw := flagLane_work false l (takeOrder i s)
    have haf : flagLane false l (takeOrder i s) = { takeOrder i s with
      lanes := (flagLane false l (takeOrder i s)).lanes, survey := (flagLane false l (takeOrder i s)).survey
      needDue := true } := rfl
    have had : restartDelayOf (flagLane false l (takeOrder i s)) = restartDelayOf s := restartDelayOf_takeOrder i s
    generalize flagLane false l (takeOrder i s) = a at ha haw haf had
    have hb := restartFlagged_lane l a
    have hbw := restartFlagged_work l a
    have hbf := restartFlagged_frame l a
    generalize restartFlagged l a = b at hb hbw hbf
    have hbm : b.mem = (takeOrder i s).mem := by rw [hbf, haf]
    have hu := completeOrder_spec i .ok [] b
    generalize completeOrder i .ok [] b = u at hu
    have hul : ∀ m, u.lane m = b.lane m := fun m => by rw [hu.frame]; rfl
    have hnow : a.now = s.time.uptime := by rw [haf]; rfl
    refine ⟨by rw [hul, hb, ha, hnow, had]; rfl, fun m hm => ?_, ?_,
      hu.completed (bits := 0) (by rw [hbf, haf]) ?_ (by rw [hbf, haf]; exact .refl _),
      hu.sameButSlot fun x _ => by rw [hbm], ?_⟩
    · rw [hul, hbw.lanes m hm, haw.lanes m hm]
      rfl
    · rw [hu.frame, hbf, haf]
    · rw [hbf, haf, raised_zero]
      rfl
    · rw [hu.frame, hbf, haf]
      rfl

end Sys2Proof.Proofs
end

section
namespace Sys2Proof.Machine

/-! ## Identification -/

section
variable {s u : State} {l : Lane}

/-- One sense line's bit in the identity (R87). -/
theorem senseBit_getLsbD (sense : BitVec 4) (i j k : Nat) (hk : k < 16) :
    (if sense.getLsbD i then BitVec.ofNat 16 (2 ^ (4 * i + j)) else 0).getLsbD k
      = (sense.getLsbD i && decide (4 * i + j = k)) := by
  cases sense.getLsbD i with
  | true => rw [if_pos rfl, BitVec.getLsbD_ofNat, Nat.testBit_two_pow, decide_eq_true hk]
  | false => simp

/-- A read puts sense line i in bit 4i + read, and leaves the other bits (R87). -/
theorem putSense_getLsbD (bits : BitVec 16) (j : Fin 4) (sense : BitVec 4) {k : Nat} (hk : k < 16) :
    (putSense bits j sense).getLsbD k
      = (bits.getLsbD k || (decide (k % 4 = j.val) && sense.getLsbD (k / 4))) := by
  have hj := j.isLt
  have hplace : ∀ i, decide (4 * i + j.val = k) = (decide (k / 4 = i) && decide (k % 4 = j.val)) := fun i => by
    rw [← Bool.decide_and, decide_eq_decide]
    omega
  unfold putSense
  simp only [BitVec.getLsbD_or, senseBit_getLsbD _ _ _ _ hk, hplace]
  obtain h | h | h | h : k / 4 = 0 ∨ k / 4 = 1 ∨ k / 4 = 2 ∨ k / 4 = 3 := by omega
  all_goals
    rw [h]
    simp [Bool.and_comm]

theorem exec_identityRead {i : Ident} (h : (s.lane l).ident = some i) (sense : BitVec 4) :
    exec (.identityRead l sense) s = .next (onEvent (decide (i.ends ≤ s.time.ms)) (takeRead l i sense) s) := by
  show execIdentityRead l sense s = _
  unfold execIdentityRead
  rw [h]

/-- A lane's record with the next read of its identification under way (R87). -/
def LaneRec.readOn (i : Ident) (sense : BitVec 4) (r : LaneRec) : LaneRec :=
  { r with ident := some { read := i.read + 1, bits := putSense i.bits i.read sense, ends := i.ends + 10 } }

theorem takeRead_of_next {i : Ident} (h : i.read ≠ 3) (sense : BitVec 4) (s : State) :
    takeRead l i sense s = modLane l (LaneRec.readOn i sense) s := by
  obtain ⟨read, bits, ends⟩ := i
  fin_cases read
  · rfl
  · rfl
  · rfl
  · exact absurd rfl h

theorem takeRead_of_last {i : Ident} (h : i.read = 3) (sense : BitVec 4) (s : State) : takeRead l i sense s =
    completeReset (publishIdentity l (completeIdents l (identified l (putSense i.bits 3 sense) s))) := by
  unfold takeRead
  rw [h]

theorem idMask_eq_zero_iff (id : BitVec 16) : idMask id = 0 ↔ id.toNat / 256 % 16 = 0 := by
  rw [idMask, ← BitVec.toNat_inj, BitVec.toNat_ofNat]
  rfl

/-- A lane's record as the fourth read has given it its identity (R88). -/
def LaneRec.identifiedAs (id : BitVec 16) (standby : Standby) (r : LaneRec) : LaneRec :=
  { r with identity := id, ident := none, standby := standby }

/-- The state that a lane has by its identity (R88). -/
def stateByIdentity (l : Lane) (id : BitVec 16) (s : State) : State :=
  if id = 0xFFFF then dueNever l (removeLane l (setLaneState l .absent s))
  else if id = 0 ∨ idMask id = 0 then
    dueNow l (removeLane l (setLaneState l .faulted (modLane l (fun r => { r with cause := .identity }) s)))
  else dueNow l (setLaneState l .off s)

theorem identified_eq (l : Lane) (id : BitVec 16) (s : State) : identified l id s =
    stateByIdentity l id (modLane l (LaneRec.identifiedAs id (standbySetting s l)) s) := rfl

/-- A lane has a state by its identity (R72, R88). -/
structure StateByIdentity (s u : State) (l : Lane) (id : BitVec 16) : Prop where
  lane : u.lane l = { s.lane l with
    state := (u.lane l).state, cause := (u.lane l).cause, removed := (u.lane l).removed }
  absent : id = 0xFFFF → (u.lane l).state = .absent ∧ (u.scan l).due = none ∧ l ∉ u.survey.list
  faulted : id ≠ 0xFFFF → id.toNat / 256 % 16 = 0 → (u.lane l).state = .faulted ∧ (u.lane l).cause = .identity
  off : id ≠ 0xFFFF → id.toNat / 256 % 16 ≠ 0 → (u.lane l).state = .off ∧ (u.lane l).cause = (s.lane l).cause
  due : (u.lane l).state ≠ .absent → (u.scan l).due = some s.now ∧ l ∈ u.survey.list
  gone : (u.lane l).state ≠ .off → ∀ e ∈ u.table, e.key.lane ≠ l
  needDue : u.needDue = true
  work : LaneWork s u l

theorem stateByIdentity_of_blank (l : Lane) (s : State) : StateByIdentity s (stateByIdentity l 0xFFFF s) l 0xFFFF := by
  rw [stateByIdentity, if_pos rfl]
  have hb := setLaneState_spec l .absent s
  have hbw := setLaneState_work l .absent s
  generalize setLaneState l .absent s = b at hb hbw
  have hcl := removeLane_lane l b
  have hcg := removeLane_gone l b
  have hcw := removeLane_work l b
  generalize removeLane l b = c at hcl hcg hcw
  have hu := dueNever_spec l c
  generalize dueNever l c = u at hu
  have hlane : u.lane l = { s.lane l with state := .absent, removed := true } := by rw [hu.lane, hcl, hb.lane]
  have hneed : b.needDue = true := by rw [hb.frame]
  exact {
    lane := by rw [hlane]
    absent := fun _ => ⟨by rw [hlane], by rw [hu.scan], hu.listed⟩
    faulted := fun h => absurd rfl h
    off := fun h => absurd rfl h
    due := fun h => absurd (by rw [hlane]) h
    gone := fun _ => hu.work.gone hcg
    needDue := hu.work.needDue (hcw.needDue hneed)
    work := (hbw.trans hcw).trans hu.work }

theorem stateByIdentity_of_unfit {id : BitVec 16} (h : id ≠ 0xFFFF) (hg : id.toNat / 256 % 16 = 0) (l : Lane)
    (s : State) : StateByIdentity s (stateByIdentity l id s) l id := by
  rw [stateByIdentity, if_neg h, if_pos (.inr ((idMask_eq_zero_iff id).mpr hg))]
  have hb := modLane_spec l (fun r => { r with cause := .identity }) s
  have hbw := modLane_work l (fun r => { r with cause := .identity }) s
  generalize modLane l _ s = b at hb hbw
  have hc := setLaneState_spec l .faulted b
  have hcw := setLaneState_work l .faulted b
  generalize setLaneState l .faulted b = c at hc hcw
  have hdl := removeLane_lane l c
  have hdg := removeLane_gone l c
  have hdw := removeLane_work l c
  generalize removeLane l c = d at hdl hdg hdw
  have hu := dueNow_spec l d
  generalize dueNow l d = u at hu
  have hlane : u.lane l = { s.lane l with cause := .identity, state := .faulted, removed := true } := by
    rw [hu.lane, hdl, hc.lane, hb.lane]
  have hw : LaneWork s d l := (hbw.trans hcw).trans hdw
  have hneed : c.needDue = true := by rw [hc.frame]
  have hnow : d.now = s.now := by rw [hw.frame]; rfl
  exact {
    lane := by rw [hlane]
    absent := fun e => absurd e h
    faulted := fun _ _ => by rw [hlane]; exact ⟨rfl, rfl⟩
    off := fun _ e => absurd hg e
    due := fun _ => ⟨by rw [hu.scan, hnow], hu.listed⟩
    gone := fun _ => hu.work.gone hdg
    needDue := hu.work.needDue (hdw.needDue hneed)
    work := hw.trans hu.work }

theorem stateByIdentity_of_fit {id : BitVec 16} (h : id ≠ 0xFFFF) (hg : id.toNat / 256 % 16 ≠ 0) (l : Lane)
    (s : State) : StateByIdentity s (stateByIdentity l id s) l id := by
  have hne : ¬(id = 0 ∨ idMask id = 0) := by
    rw [idMask_eq_zero_iff]
    rintro (rfl | e)
    · exact hg rfl
    · exact hg e
  rw [stateByIdentity, if_neg h, if_neg hne]
  have hb := setLaneState_spec l .off s
  have hbw := setLaneState_work l .off s
  generalize setLaneState l .off s = b at hb hbw
  have hu := dueNow_spec l b
  generalize dueNow l b = u at hu
  have hlane : u.lane l = { s.lane l with state := .off } := by rw [hu.lane, hb.lane]
  have hneed : b.needDue = true := by rw [hb.frame]
  have hnow : b.now = s.now := by rw [hb.frame]; rfl
  exact {
    lane := by rw [hlane]
    absent := fun e => absurd e h
    faulted := fun _ e => absurd e hg
    off := fun _ _ => by rw [hlane]; exact ⟨rfl, rfl⟩
    due := fun _ => ⟨by rw [hu.scan, hnow], hu.listed⟩
    gone := fun e => absurd (by rw [hlane]) e
    needDue := hu.work.needDue hneed
    work := hbw.trans hu.work }

theorem stateByIdentity_spec (l : Lane) (id : BitVec 16) (s : State) :
    StateByIdentity s (stateByIdentity l id s) l id := by
  by_cases h : id = 0xFFFF
  · rw [h]
    exact stateByIdentity_of_blank l s
  · by_cases hg : id.toNat / 256 % 16 = 0
    · exact stateByIdentity_of_unfit h hg l s
    · exact stateByIdentity_of_fit h hg l s

/-! ### The orders that wait for it -/

/-- A completed order stays as it is when the order of another slot completes. -/
theorem OrderEnds.keeps_done {w u : State} {j k : Fin 8} {r : ResultCode} {d e : List Byte} {b : Byte}
    (h : OrderEnds w u j r d) (hk : k ≠ j) (hd : OrderDone w k b e) : OrderDone u k b e := by
  have hne : k.val ≠ j.val := fun e => hk (Fin.ext e)
  have hread : ∀ x, x < 32 → u.mem.read (0x100 + 32 * k.val + x) = w.mem.read (0x100 + 32 * k.val + x) := fun x hx =>
    h.read (by rw [slotAddr_eq]; omega) (by rw [slotAddr_eq]; omega)
  obtain ⟨hstate, hresult, hzero, hdetail⟩ := hd
  refine ⟨?_, by rw [hread 16 (by decide), hresult], by rw [hread 17 (by decide), hzero], fun x hx => ?_⟩
  · exact (hread 0 (by decide)).trans hstate
  · rw [Nat.add_assoc, hread (18 + x) (by omega), ← Nat.add_assoc, hdetail x hx]

/-- Some orders have completed with OK (R99, R167). -/
structure OrdersEnded (s u : State) (ks : List (Fin 8)) : Prop where
  done : ∀ k ∈ ks, OrderDone u k 1 []
  keeps : ∀ k, OrderDone s k 1 [] → OrderDone u k 1 []
  waits : ∀ k ∈ ks, ∀ w, (k, w) ∉ u.orders.waits
  sub : ∀ x ∈ u.orders.waits, x ∈ s.orders.waits
  ready : u.port.ready = s.port.ready
  frame : u = { s with mem := u.mem, orders := u.orders, port := u.port, matrix := u.matrix }

theorem foldl_orderOk_spec (ks : List (Fin 8)) (s : State) :
    OrdersEnded s (ks.foldl (fun s i => completeOrder i .ok [] s) s) ks := by
  induction ks generalizing s with
  | nil => exact ⟨nofun, fun _ => id, nofun, fun _ => id, rfl, rfl⟩
  | cons k ks ih =>
    rw [List.foldl_cons]
    have ht := completeOrder_spec k .ok [] s
    generalize completeOrder k .ok [] s = t at ht
    have hu := ih t
    generalize ks.foldl _ t = u at hu
    have hkd : OrderDone t k 1 [] := orderDone_of_mem ht.mem
    have hwaits : ∀ x, x ∈ t.orders.waits ↔ x ∈ s.orders.waits ∧ x.1 ≠ k := fun x => by
      rw [ht.orders, List.mem_filter, decide_eq_true_eq]
    exact {
      done := List.forall_mem_cons.mpr ⟨hu.keeps k hkd, hu.done⟩
      keeps := fun j hj => hu.keeps j (by
        by_cases e : j = k
        · exact e ▸ hkd
        · exact ht.keeps_done e hj)
      waits := List.forall_mem_cons.mpr ⟨fun w hw => ((hwaits _).mp (hu.sub _ hw)).2 rfl, hu.waits⟩
      sub := fun x hx => ((hwaits x).mp (hu.sub x hx)).1
      ready := by rw [hu.ready, ht.port]; rfl
      frame := by rw [hu.frame, ht.frame] }

theorem completeIdents_spec (l : Lane) (s : State) : OrdersEnded s (completeIdents l s)
    ((s.orders.waits.filter (fun x => decide (x.2 = Wait.ident l))).map Prod.fst) := foldl_orderOk_spec _ s

theorem mem_identWaits {k : Fin 8} (h : (k, Wait.ident l) ∈ s.orders.waits) :
    k ∈ (s.orders.waits.filter (fun x => decide (x.2 = Wait.ident l))).map Prod.fst :=
  List.mem_map.mpr ⟨_, List.mem_filter.mpr ⟨h, decide_eq_true rfl⟩, rfl⟩

/-- Once the ready flag is set no reset is left to complete, and nothing of one is to be published (R86, R162). -/
theorem completeReset_of_ready (h : s.port.ready = true) : completeReset (publishIdentity l s) = s := by
  rw [publishIdentity, if_pos h]
  exact if_neg fun hr => Bool.false_ne_true (hr.1.symm.trans h)

end

end Sys2Proof.Machine

namespace Sys2Proof.Proofs
open Sys2Proof.Machine

/-- Settles O50, by the read's place in the identification. -/
theorem identityReadsGiveTheLaneItsState : Obligations.IdentityReadsGiveTheLaneItsState := by
  intro s l i sense h
  have hexec := exec_identityRead h sense
  refine ⟨fun hms => ?_, fun hms hread => ⟨_, hexec.trans (congrArg Host.Outcome.next (if_pos (decide_eq_true hms))), ?_⟩,
    fun hms hread hready => ⟨_, hexec.trans (congrArg Host.Outcome.next (if_pos (decide_eq_true hms))), ?_⟩⟩
  · exact hexec.trans (congrArg Host.Outcome.next (if_neg (by simpa using hms)))
  · rw [takeRead_of_next hread]
    have hu := modLane_spec l (LaneRec.readOn i sense) s
    exact ⟨⟨_, hu.lane, fun k hk => putSense_getLsbD _ _ _ hk⟩, hu.others, hu.frame⟩
  · rw [takeRead_of_last hread]
    have hbits := fun k (hk : k < 16) => putSense_getLsbD i.bits 3 sense hk
    generalize putSense i.bits 3 sense = id at hbits
    rw [identified_eq]
    have ha := modLane_spec l (LaneRec.identifiedAs id (standbySetting s l)) s
    have haw := modLane_work l (LaneRec.identifiedAs id (standbySetting s l)) s
    generalize modLane l _ s = a at ha haw
    have ht := stateByIdentity_spec l id a
    generalize stateByIdentity l id a = t at ht
    have hw := haw.trans ht.work
    have hident : (t.lane l).ident = none ∧ (t.lane l).identity = id := by
      rw [ht.lane, ha.lane]
      exact ⟨rfl, rfl⟩
    have hcause : (a.lane l).cause = (s.lane l).cause := by rw [ha.lane]; rfl
    have hnow : a.now = s.time.uptime := by rw [ha.frame]; rfl
    obtain ⟨hnone, hid⟩ := hident
    have hu := completeIdents_spec l t
    generalize completeIdents l t = u at hu
    have htready : t.port.ready = true := by
      rcases hw.port with e | e <;> rw [e] <;> exact hready
    have hready' : u.port.ready = true := by rw [hu.ready, htready]
    rw [completeReset_of_ready hready']
    have hlane : ∀ m, u.lane m = t.lane m := fun m => by rw [hu.frame]; rfl
    have hscan : u.scan l = t.scan l := by rw [hu.frame]; rfl
    have hlist : u.survey.list = t.survey.list := by rw [hu.frame]
    have htable : u.table = t.table := by rw [hu.frame]
    have hwaits : t.orders = s.orders := by rw [hw.frame]
    beta_reduce
    rw [hlane, hscan, hlist, htable, hid, ← hcause, ← hnow]
    refine ⟨hnone, hbits, ht.absent, ht.faulted, ht.off, ht.due, fun hs => hw.mem_iff (ht.gone hs), fun k hk => ?_,
      fun m hm => by rw [hlane, hw.lanes m hm], by rw [hu.frame]; exact ht.needDue, by rw [hu.frame, hw.frame],
      by rw [hu.frame, hw.frame]⟩
    have hin := mem_identWaits (hwaits ▸ hk : (k, Wait.ident l) ∈ t.orders.waits)
    exact ⟨hu.done k hin, hu.waits k hin⟩

end Sys2Proof.Proofs
end

section
namespace Sys2Proof.Machine

/-! ## Faults -/

section
variable {s b c u v : State} {l : Lane} {cause : FaultCause} {n : Cp} {a : AttemptStep}

/-- The record of a lane as a fault shuts it down (R96, R97). -/
def LaneRec.faultCounted (cause : FaultCause) (r : LaneRec) : LaneRec :=
  { r with cause := cause, noResp := if cause = .noResponse then 0 else r.noResp }

theorem shutFaulted_eq (l : Lane) (cause : FaultCause) (s : State) : shutFaulted l cause s =
    setOwner l .none (removeLane l (dequeue l (setLaneState l .faulted
      (cutPower l (modLane l (LaneRec.faultCounted cause) s))))) := rfl

/-- A lane's record once it has faulted, but for its restart timer (R97). -/
def LaneRec.faulted (cause : FaultCause) (standby : Standby) (r : LaneRec) : LaneRec :=
  { r with
    state := .faulted, cause := cause, power := false, owner := .none, camp := none, outTag := none, noResp := 0
    startTimer := none, probeTimer := none, readySince := none, ringToRefuse := false, fetchArmed := false
    pdPending := false, removed := true, standby := standby }

/-- A lane has been shut down by a fault (R97, steps 1 to 3 but the publication). -/
structure LaneShut (s u : State) (l : Lane) (cause : FaultCause) : Prop where
  lane : u.lane l = (s.lane l).faulted cause (u.lane l).standby
  queue : ∀ e ∈ u.startq, e.lane ≠ l
  gone : ∀ e ∈ u.table, e.key.lane ≠ l
  work : LaneWork s u l

theorem shutFaulted_spec (l : Lane) (cause : FaultCause) (s : State) : LaneShut s (shutFaulted l cause s) l cause := by
  rw [shutFaulted_eq]
  have ha := modLane_spec l (LaneRec.faultCounted cause) s
  have haw := modLane_work l (LaneRec.faultCounted cause) s
  generalize modLane l _ s = a at ha haw
  have hb := cutPower_spec l a
  generalize cutPower l a = b at hb
  have hc := setLaneState_spec l .faulted b
  have hcw := setLaneState_work l .faulted b
  generalize setLaneState l .faulted b = c at hc hcw
  have hdl : (dequeue l c).lane l = c.lane l := rfl
  have hdq := dequeue_queue l c
  have hdw := dequeue_work l c
  generalize dequeue l c = d at hdl hdq hdw
  have hel := removeLane_lane l d
  have heg := removeLane_gone l d
  have hew := removeLane_work l d
  generalize removeLane l d = e at hel heg hew
  have hu := disown_spec l e
  generalize setOwner l .none e = u at hu
  have hlane : e.lane l = { (s.lane l).faulted cause (b.lane l).standby with owner := (s.lane l).owner } := by
    rw [hel, hdl, hc.lane, hb.lane, ha.lane]
    rfl
  have hprobe : (u.lane l).probeTimer = none := by
    rw [hu.probe (by rw [hlane]; exact nofun), hlane]
    rfl
  exact {
    lane := by
      rw [hu.lane, hprobe, hlane]
      rfl
    queue := fun x hx => hdq x (hew.queue x (hu.work.queue x hx))
    gone := hu.work.gone heg
    work := ((((haw.trans hb.work).trans hcw).trans hdw).trans hew).trans hu.work }

/-- A fault of a lane up to the point at which the contexts are told (R97): shut down, shown, and lost to the survey engine. -/
def showFault (l : Lane) (cause : FaultCause) (s : State) : State := scanLost l (showLane l (shutFaulted l cause s))

theorem faultLane_eq (l : Lane) (cause : FaultCause) (s : State) : faultLane l cause s =
    startRestart l (tellFault .p1 l (tellFault .p0 l (showFault l cause s))) := rfl

/-- What a fault has changed before the contexts are told (R97). -/
structure FaultShown (s u : State) (l : Lane) (cause : FaultCause) : Prop where
  lane : u.lane l = (s.lane l).faulted cause (u.lane l).standby
  lanes : ∀ m, m ≠ l → u.lane m = s.lane m
  queue : ∀ e ∈ u.startq, e.lane ≠ l
  table : ∀ e, e ∈ u.table ↔ e ∈ s.table ∧ e.key.lane ≠ l
  state : u.mem.read (0x602 + 64 * l.num) = 4
  owner : u.mem.read (0x603 + 64 * l.num) = 0
  revision : u.mem.num (0x600 + 64 * l.num) 2 = (s.mem.num (0x600 + 64 * l.num) 2 + 2) % 65536
  outside : ∀ a, ¬(0x700 ≤ a ∧ a < 0xA00) → ¬(0x600 + 64 * l.num ≤ a ∧ a < 0x600 + 64 * l.num + 36) →
    u.mem.read a = s.mem.read a
  port : u.port = raised s.port 0x04 ∨ u.port = raised s.port 0x0C
  grows : s.matrix.Grows u.matrix
  frame : u = { s with
    lanes := u.lanes, survey := u.survey, link := u.link, startq := u.startq, table := u.table, needDue := u.needDue
    mem := u.mem, port := u.port, matrix := u.matrix }

theorem lane_num_le_three (l : Lane) : l.num ≤ 3 := by cases l <;> decide

theorem showFault_spec (l : Lane) (cause : FaultCause) (s : State) : FaultShown s (showFault l cause s) l cause := by
  unfold showFault
  have ha := shutFaulted_spec l cause s
  generalize shutFaulted l cause s = a at ha
  have hb := raise_spec .lane (writeLane l a)
  rw [← showLane] at hb
  generalize showLane l a = b at hb
  have hu := scanLost_gone l b
  generalize scanLost l b = u at hu
  have hbl : ∀ m, b.lane m = a.lane m := fun m => by rw [hb.frame]; rfl
  have hum : u.mem = a.mem.rewrite (laneAddr l) laneSize (laneContent (a.lane l) (a.scan l)) := by
    rw [hu.frame, hb.frame]
    rfl
  have hup : u.port = raised a.port 0x04 := by rw [hu.frame, hb.port]; rfl
  have htable : u.table = a.table := by rw [hu.frame, hb.frame]; rfl
  have hqueue : u.startq = a.startq := by rw [hu.startq, hb.frame]; rfl
  have hblock : ∀ k, k < 34 → u.mem.read (0x600 + 64 * l.num + 2 + k)
      = ((laneContent (a.lane l) (a.scan l))[k]?).getD 0 := fun k hk => by
    rw [hum, Memory.rewrite, Memory.read_place, if_pos (by unfold laneAddr laneSize Config.laneBase; omega),
      List.getElem?_append_right (by simp only [bytesOf, laneAddr, Config.laneBase, List.length_cons, List.length_nil]; omega)]
    congr 2
    simp only [bytesOf, laneAddr, Config.laneBase, List.length_cons, List.length_nil]
    omega
  have htag : (a.lane l).outTag = none := by rw [ha.lane]; rfl
  have hl3 := lane_num_le_three l
  exact {
    lane := by
      rw [hu.lane, hbl, htag, tagAfterScan_none, ha.lane]
      rfl
    lanes := fun m hm => by rw [hu.work.lanes m hm, hbl, ha.work.lanes m hm]
    queue := fun e he => ha.queue e (hqueue ▸ he)
    table := fun e => by rw [htable]; exact ha.work.mem_iff ha.gone e
    state := by
      have h := hblock 0 (by decide)
      rw [ha.lane] at h
      rw [show 0x602 + 64 * l.num = 0x600 + 64 * l.num + 2 + 0 by omega, h]
      rfl
    owner := by
      have h := hblock 1 (by decide)
      rw [ha.lane] at h
      rw [show 0x603 + 64 * l.num = 0x600 + 64 * l.num + 2 + 1 by omega, h]
      rfl
    revision := by
      have hsame : a.mem.num (0x600 + 64 * l.num) 2 = s.mem.num (0x600 + 64 * l.num) 2 :=
        Memory.num_two_congr fun x _ h2 => ha.work.outside x (by omega)
      rw [hum, ← hsame]
      exact Memory.num_rewrite a.mem (laneAddr l) laneSize _ (by decide)
    outside := fun x h1 h2 => by
      rw [hum, Memory.read_rewrite_outside _ _ _ _ _ (by unfold laneAddr laneSize Config.laneBase; omega),
        ha.work.outside x (by omega)]
    port := by
      rcases ha.work.port with e | e <;> rw [hup, e]
      · exact .inl rfl
      · exact .inr (raised_raised _ _ _)
    grows := by
      have hx : u.matrix = b.matrix := by rw [hu.frame]
      exact hx ▸ ha.work.grows.trans hb.grows
    frame := by
      rw [hu.frame, hb.frame, ha.work.frame]
      rfl }

/-- A lane that has been shut down and shown has faulted, whatever the contexts that were told have made of it (R97, R98). -/
theorem FaultShown.faulted (hb : FaultShown s b l cause) (hc : c = { b with
      ctxs := c.ctxs, recs := c.recs, link := c.link, lamps := c.lamps, matrix := c.matrix, needDue := c.needDue }) :
    LaneFaulted s (startRestart l c) l cause := by
  have hcl : ∀ m, c.lane m = b.lane m := fun m => by rw [hc]; rfl
  have hnow : c.now = s.time.uptime := by rw [hc, hb.frame]; rfl
  have hl3 := lane_num_le_three l
  have hdelay : restartDelayOf c = restartDelayOf s :=
    timerSetting_congr (k := 10) (s := s) (t := c) (by rw [hc, hb.frame])
      (fun x _ h2 => by rw [hc]; exact hb.outside x (by omega) (by omega)) (by decide) _ _
  have hlane := startRestart_lane l c
  have hframe := startRestart_frame l c
  have hlanes := (startRestart_work l c).lanes
  generalize startRestart l c = u at hlane hframe hlanes
  rw [hcl, hb.lane, hnow, hdelay] at hlane
  exact {
    lane := by
      rw [hlane]
      exact ⟨rfl, rfl, rfl, rfl, rfl, rfl, rfl, rfl, rfl, rfl⟩
    restart := by
      rw [hlane]
      exact ⟨rfl, fun h => if_pos h⟩
    queue := fun e he => hb.queue e (by rw [hframe, hc] at he; exact he)
    table := fun e => by rw [hframe, hc]; exact hb.table e
    lanes := fun m hm => by rw [hlanes m hm, hcl, hb.lanes m hm] }

/-! ### The contexts that are told -/

/-- A context that neither claims a lane nor waits for it does not see its fault (R23). -/
theorem tellFault_of_none (h1 : (s.ctx n).lane ≠ some l) (h2 : (s.ctx n).pendingClaim ≠ some l) :
    tellFault n l s = s := by
  unfold tellFault
  rw [if_neg h1]
  exact if_neg h2

theorem tellFaults_of_none (h : ∀ n, (s.ctx n).lane ≠ some l ∧ (s.ctx n).pendingClaim ≠ some l) :
    tellFault .p1 l (tellFault .p0 l s) = s := by
  rw [tellFault_of_none (h .p0).1 (h .p0).2, tellFault_of_none (h .p1).1 (h .p1).2]

/-- One context alone sees the fault. -/
theorem tellFaults_of_one (h1 : (s.ctx n.other).lane ≠ some l) (h2 : (s.ctx n.other).pendingClaim ≠ some l)
    (hk : (tellFault n l s).ctx n.other = s.ctx n.other) :
    tellFault .p1 l (tellFault .p0 l s) = tellFault n l s := by
  cases n with
  | p0 =>
    have hother : (tellFault .p0 l s).ctx .p1 = s.ctx .p1 := hk
    exact tellFault_of_none (by rw [hother]; exact h1) (by rw [hother]; exact h2)
  | p1 => rw [tellFault_of_none (n := .p0) h1 h2]

/-- A settled outcome leaves the pending claim as it is. -/
theorem settleOutcome_pendingClaim (h : OnStep s n a) (o : CallOutcome) :
    ((settleOutcome n o s).ctx n).pendingClaim = (s.ctx n).pendingClaim := by
  unfold settleOutcome setLast
  have hp := modRecord_spec n (fun r => { r with last := some o }) s
  generalize modRecord n _ s = p at hp
  have hq := endAttempt_spec n o p
  generalize endAttempt n o p = q at hq
  have hpc : p.ctx n = s.ctx n := by rw [hp.frame]; rfl
  have hplan : q.plan = s.plan := by rw [hq.frame, hp.frame]
  have hstep : OnStep q n a := by unfold OnStep; rw [hplan, hq.ctx, hpc]; exact h
  have hr := classStep_spec hstep o
  dsimp only
  rw [(setState_spec n _ _).ctx, hr.ctx, Context.classed_frame, hq.ctx, hpc]

/-- LANE_FAULT taken by a context on a step (R8, R23, R45): the candidate table is left alone (R46). -/
structure FaultTaken (s u : State) (n : Cp) (a : AttemptStep) : Prop where
  applied : OutcomeApplied s u n .laneFault a
  pendingClaim : (u.ctx n).pendingClaim = (s.ctx n).pendingClaim
  frame : u = { s with
    ctxs := u.ctxs, recs := u.recs, link := u.link, lamps := u.lamps, matrix := u.matrix }

theorem outcomeToTable_laneFault (k : Option CandKey) (s : State) : outcomeToTable k .laneFault s = s := by
  unfold outcomeToTable
  cases k with
  | none => rfl
  | some k => exact if_pos (.inr rfl)

theorem applyOutcome_laneFault (h : OnStep s n a) : FaultTaken s (applyOutcome n .laneFault s) n a := by
  unfold applyOutcome
  rw [outcomeToTable_laneFault]
  have hb := stopAsking_spec n s
  generalize stopStep n (dropRequest n s) = b at hb
  have hplan : b.plan = s.plan := by rw [hb.frame]
  have hstep : OnStep b n a := by unfold OnStep; rw [hplan, hb.ctx]; exact h
  have hu := settleOutcome_spec hstep (o := .laneFault) (by decide) (by decide)
  have hp := settleOutcome_pendingClaim hstep .laneFault
  generalize settleOutcome n .laneFault b = u at hu hp
  exact {
    applied := outcomeApplied_of_read hu.applied hb.ctx hb.otherCtx (by rw [hb.frame]) (by rw [hb.frame])
    pendingClaim := by rw [hp, hb.ctx]
    frame := by rw [hu.frame, hb.frame] }

/-- What a settled outcome says of the state after it is of its contexts and records alone. -/
theorem outcomeApplied_of_result {o : CallOutcome} (h : OutcomeApplied s u n o a) (hc : v.ctxs = u.ctxs)
    (hr : v.recs = u.recs) : OutcomeApplied s v n o a := by
  have hctx : ∀ m, v.ctx m = u.ctx m := fun m => congrArg (Duo.get · m) hc
  have hrec : ∀ k, v.record k = u.record k := fun k => congrArg (fun r : Records => r.all[k]) hr
  obtain ⟨h1, h2, h3, h4, h5, h6, h7, h8, h9, h10⟩ := h
  unfold AttemptEnded at h2
  simp only [← hctx, ← hrec] at *
  exact ⟨h1, h2, h3, h4, h5, h6, h7, h8, h9, h10⟩

/-- A context that waits for its claimed lane loses the claim and takes LANE_FAULT (R23). -/
def voidClaim (n : Cp) (s : State) : State := modCtx n (fun c => { c with lane := none, op := none }) s

theorem onStep_congr {t : State} (hp : t.plan = s.plan) (hs : (t.ctx n).step = (s.ctx n).step) (h : OnStep s n a) :
    OnStep t n a := by
  unfold OnStep
  rw [hp, hs]
  exact h

theorem tellFault_of_claim (h : (s.ctx n).lane = some l) (hp : (s.ctx n).pendingClaim ≠ some l)
    (hs : (s.ctx n).state = .waitingLane) (ha : OnStep s n a) :
    tellFault n l s = applyOutcome n .laneFault (voidClaim n s) := by
  have hv : (voidClaim n s).ctx n = { s.ctx n with lane := none, op := none } := modCtx_ctx _ _ _
  have hby : faultByState n (voidClaim n s) = applyOutcome n .laneFault (voidClaim n s) := by
    have hvs : ((voidClaim n s).ctx n).state = .waitingLane := by rw [hv]; exact hs
    unfold faultByState
    rw [hvs]
  have hu := applyOutcome_laneFault (onStep_congr (s := s) (n := n) (a := a) (t := voidClaim n s) rfl (by rw [hv]) ha)
  unfold tellFault
  rw [if_pos h, ← voidClaim, hby]
  exact if_neg (by rw [hu.pendingClaim, hv]; exact hp)

theorem tellFault_of_pending (h : (s.ctx n).pendingClaim = some l) (hl : (s.ctx n).lane ≠ some l) :
    tellFault n l s = applyOutcome n .laneFault (clearPendingClaim n s) := by
  unfold tellFault
  rw [if_neg hl]
  exact if_pos h

theorem exec_startTimeout (l : Lane) (s : State) : exec (.startTimeout l) s =
    .next (onEvent (decide ((s.lane l).state = .starting) && expired s.now (s.lane l).startTimer)
      (faultLane l .startTimeout) s) := rfl

theorem startTimeout_through (hs : (s.lane l).state = .starting) (ht : TimeUp s (s.lane l).startTimer)
    {P : State → Prop} (h : P (faultLane l .startTimeout s)) : CompletesThrough (.startTimeout l) s P := by
  have hdue : (decide ((s.lane l).state = .starting) && expired s.now (s.lane l).startTimer) = true := by
    rw [Bool.and_eq_true, decide_eq_true_eq, ← Proofs.timeUp_iff]
    exact ⟨hs, ht⟩
  exact ⟨_, (exec_startTimeout l s).trans (congrArg Host.Outcome.next (if_pos hdue)), h⟩

/-- The only context that a fault concerns takes LANE_FAULT on its step, its hold on the lane given up before (R23). -/
theorem faultLane_told {t : State} {x : Context} (hb : FaultShown s b l cause)
    (ht : tellFault n l b = applyOutcome n .laneFault t)
    (htf : t = { b with ctxs := t.ctxs, needDue := t.needDue }) (htc : t.ctx n = x) (hto : t.ctx n.other = s.ctx n.other)
    (hx : x.step = (s.ctx n).step) (h1 : (s.ctx n.other).lane ≠ some l) (h2 : (s.ctx n.other).pendingClaim ≠ some l)
    (ha : OnStep s n a) :
    let u := startRestart l (tellFault .p1 l (tellFault .p0 l b))
    LaneFaulted s u l cause ∧ (u.ctx n).pendingClaim = x.pendingClaim
      ∧ OutcomeApplied (withCtx s n x) u n .laneFault a := by
  have hbc : ∀ m, b.ctx m = s.ctx m := fun m => by rw [hb.frame]; rfl
  have hstep : OnStep t n a := onStep_congr (by rw [htf, hb.frame]) (by rw [htc, hx]) ha
  have hc := applyOutcome_laneFault hstep
  rw [← ht] at hc
  have hone : tellFault .p1 l (tellFault .p0 l b) = tellFault n l b :=
    tellFaults_of_one (by rw [hbc]; exact h1) (by rw [hbc]; exact h2) (by rw [hc.applied.otherCtx, hto, hbc])
  intro u
  have hu : u = startRestart l (tellFault n l b) := congrArg (startRestart l) hone
  generalize tellFault n l b = c at hc hu
  have huf : u = { c with lanes := u.lanes } := by rw [hu]; exact startRestart_frame l c
  have huc : u.ctxs = c.ctxs := by rw [huf]
  refine ⟨?_, ?_, ?_⟩
  · rw [hu]
    exact hb.faulted (by rw [hc.frame, htf])
  · have he : u.ctx n = c.ctx n := congrArg (Duo.get · n) huc
    rw [he, hc.pendingClaim, htc]
  · refine outcomeApplied_of_result (u := c) ?_ huc (by rw [huf])
    have hwc : (withCtx s n x).ctx n = x := Duo.get_set_same _ _ _
    have hwo : (withCtx s n x).ctx n.other = s.ctx n.other := Duo.get_set_other _ _ _
    exact outcomeApplied_of_read hc.applied (timer := x.stepTimer) (by rw [htc, hwc]) (by rw [hto, hwo])
      (by rw [htf, hb.frame]; rfl) (by rw [htf, hb.frame]; rfl)

end

end Sys2Proof.Machine

namespace Sys2Proof.Proofs
open Sys2Proof.Machine

/-- Settles O48, by the lane's own part of the fault and by what the context that holds it takes. -/
theorem startTimeoutFaultsTheLane : Obligations.StartTimeoutFaultsTheLane := by
  intro s l hs ht
  have hb := showFault_spec l .startTimeout s
  have hbc : ∀ m, (showFault l .startTimeout s).ctx m = s.ctx m := fun m => by rw [hb.frame]; rfl
  refine ⟨fun hnone => startTimeout_through hs ht ?_, fun n a hl hp hw h1 h2 ha => startTimeout_through hs ht ?_,
    fun n a hp hl _ h1 h2 ha => startTimeout_through hs ht ?_⟩
  all_goals
    rw [faultLane_eq]
    generalize showFault l .startTimeout s = b at hb hbc
  · rw [tellFaults_of_none fun n => by rw [hbc]; exact hnone n]
    have hu := hb.faulted (c := b) rfl
    have huf := startRestart_frame l b
    generalize startRestart l b = u at hu huf
    have hum : u.mem = b.mem := by rw [huf]
    have hup : u.port = b.port := by rw [huf]
    rw [hum, hup]
    exact ⟨hu, by rw [huf, hb.frame], by rw [huf, hb.frame], by rw [huf, hb.frame], hb.state, hb.owner, hb.revision,
      hb.outside, hb.port⟩
  · have hstep : OnStep b n a := onStep_congr (by rw [hb.frame]) (by rw [hbc]) ha
    have htold := tellFault_of_claim (by rw [hbc]; exact hl) (by rw [hbc]; exact hp) (by rw [hbc]; exact hw) hstep
    have hv : (voidClaim n b).ctx n = { s.ctx n with lane := none, op := none } := by
      rw [← hbc]
      exact modCtx_ctx _ _ _
    obtain ⟨hfaulted, -, happlied⟩ :=
      faultLane_told hb htold rfl hv ((modCtx_ctx_other _ _ _).trans (hbc _)) rfl h1 h2 ha
    exact ⟨hfaulted, happlied⟩
  · have htold := tellFault_of_pending (by rw [hbc]; exact hp) (by rw [hbc]; exact hl)
    have hv := clearPendingClaim_spec n b
    exact faultLane_told (x := { s.ctx n with pendingClaim := none }) hb htold hv.frame (by rw [hv.ctx, hbc])
      (by rw [hv.otherCtx, hbc]) rfl h1 h2 ha

end Sys2Proof.Proofs
end

section
namespace Sys2Proof.Machine

/-! ## Transactions that end -/

section
variable {s u : State} {x : Transaction} {f : ResponseFrame} {n : Cp} {a : AttemptStep}

/-! ### A response -/

theorem exec_responseFrame (hx : s.link.inFlight = some x) (f : ResponseFrame) : exec (.responseFrame f) s =
    .next (onEvent (frameMatches x f) (endAnswered x (judge x.code f)) s) := by
  have h : exec (.responseFrame f) s = execResponseFrame f s := rfl
  rw [h, execResponseFrame, hx]

theorem frameMatches_iff : frameMatches x f = true ↔ f.lane.toNat = x.lane.num ∧ f.tag.toNat = x.tag := by
  unfold frameMatches
  rw [Bool.and_eq_true, decide_eq_true_eq, decide_eq_true_eq]

/-- The result of a transaction whose frame has come on a lane that has answered before goes to its requester (R96, R101). -/
theorem response_through (hx : s.link.inFlight = some x) (hl : f.lane.toNat = x.lane.num) (ht : f.tag.toNat = x.tag)
    (hn : (s.lane x.lane).noResp = 0) {P : State → Prop} (h : P (settleResult x (judge x.code f) (freeLink s))) :
    CompletesThrough (.responseFrame f) s P := by
  have hset : setNoResp x.lane 0 (freeLink s) = freeLink s := setNoResp_of_eq hn
  refine ⟨settleResult x (judge x.code f) (freeLink s), ?_, h⟩
  rw [exec_responseFrame hx, onEvent, if_pos (frameMatches_iff.mpr ⟨hl, ht⟩), endAnswered, hset]

theorem judge_nak (code : ReqCode) (h : f.status = 1) : judge code f = .nak f.cause := by
  unfold judge
  rw [if_neg (by rw [h]; decide), if_pos h]

theorem judge_ack {code : ReqCode} (h : f.status = 0) (hd : dataNeeded code f.data ≤ f.data.length) :
    judge code f = .ack f.data := by
  unfold judge
  rw [if_pos h, if_neg (Nat.not_lt.mpr hd)]

/-! ### Results by code and requester -/

theorem settleResult_probe (hc : x.code = .probe) (hr : x.requester = .manager) (r : TxResult) (s : State) :
    settleResult x r s = startProbe x.lane s := by
  have hdel : (if x.wanted then deliver x r s else discardResult x r s) = s := by
    unfold deliver discardResult managerResult
    rw [hr, hc]
    split <;> rfl
  rw [settleResult, hdel, afterProbe, if_pos hc]

theorem settleResult_discarded (hw : x.wanted = false) (hf : x.code ≠ .fetchEvent) (hp : x.code ≠ .probe) (r : TxResult)
    (s : State) : settleResult x r s = s := by
  have hdis : discardResult x r s = s := by
    unfold discardResult
    split
    next h => exact absurd h hf
    next => rfl
  rw [settleResult, hw, if_neg Bool.false_ne_true, hdis, afterProbe, if_neg hp]

theorem settleResult_delivered (hw : x.wanted = true) (hp : x.code ≠ .probe) (r : TxResult) (s : State) :
    settleResult x r s = deliver x r s := by
  rw [settleResult, if_pos hw, afterProbe, if_neg hp]

theorem deliver_ctx (hr : x.requester = .ctx n) (r : TxResult) (s : State) : deliver x r s = ctxResult n x.code r s := by
  unfold deliver
  rw [hr]

theorem deliver_manager (hr : x.requester = .manager) (r : TxResult) (s : State) :
    deliver x r s = managerResult x.lane x.code r s := by
  unfold deliver
  rw [hr]

theorem settingUp_iff : settingUp s n = true ↔ (s.ctx n).state = .dialling ∨ (s.ctx n).state = .alerting := by
  unfold settingUp
  rw [Bool.or_eq_true, decide_eq_true_eq, decide_eq_true_eq]

/-! ### The NAK of a DIAL -/

/-- The outcome that ends an attempt leaves of the link what the context's giving up has left. -/
theorem applyOutcome_link (h : OnStep s n a) {o : CallOutcome} (hs : o.cls ≠ .success) (ht : o.cls ≠ .terminal)
    (hl : o ≠ .laneFault) (hc : o ≠ .connected) : (applyOutcome n o s).link = (dropRequest n s).link := by
  unfold applyOutcome
  have hbf := (stopAsking_spec n s).frame
  have hbc := (stopAsking_spec n s).ctx
  have hlink : (stopStep n (dropRequest n s)).link = (dropRequest n s).link := rfl
  rw [← hlink]
  generalize stopStep n (dropRequest n s) = b at hbf hbc
  have hd := (outcomeToTable_spec (s.ctx n).current ht hl hc b).frame
  generalize outcomeToTable (s.ctx n).current o b = d at hd
  have hdc : d.ctx n = b.ctx n := by rw [hd]; rfl
  have hstep : OnStep d n a := onStep_congr (by rw [hd, hbf]) (by rw [hdc, hbc]) h
  rw [(settleOutcome_spec hstep hs ht).frame, hd]

theorem dropRequest_inFlight_of_none (h : s.link.inFlight = none) : (dropRequest n s).link.inFlight = none := by
  have hm : (dropRequest n s).link.inFlight
    = s.link.inFlight.map (fun t => if decide (t.requester = .ctx n) then { t with wanted := false } else t) := rfl
  rw [hm, h]
  rfl

/-- The NAK of a DIAL that a busy or refusing network gives ends the attempt with that outcome (R43). -/
structure DialRefused (s u : State) (n : Cp) (o : CallOutcome) (a : AttemptStep) : Prop where
  applied : OutcomeApplied s u n o a
  link : u.link.inFlight = none
  takes : TableTakes s u (s.ctx n).current o
  lanes : u.lanes = s.lanes

theorem applyOutcome_freeLink (h : OnStep s n a) {o : CallOutcome} (ho : o = .numberRefused ∨ o = .networkBusy) :
    DialRefused s (applyOutcome n o (freeLink s)) n o a := by
  have hs : o.cls ≠ .success := by rcases ho with rfl | rfl <;> decide
  have ht : o.cls ≠ .terminal := by rcases ho with rfl | rfl <;> decide
  have hl : o ≠ .laneFault := by rcases ho with rfl | rfl <;> decide
  have hc : o ≠ .connected := by rcases ho with rfl | rfl <;> decide
  have hstep : OnStep (freeLink s) n a := h
  have hu := applyOutcome_spec hstep hs ht hl hc
  have hlink := applyOutcome_link hstep hs ht hl hc
  have hfree : (dropRequest n (freeLink s)).link.inFlight = none := dropRequest_inFlight_of_none rfl
  generalize applyOutcome n o (freeLink s) = u at hu hlink
  exact {
    applied := outcomeApplied_of_read hu.applied (timer := (s.ctx n).stepTimer) rfl rfl rfl rfl
    link := by rw [hlink, hfree]
    takes := tableTakes_congr (s := freeLink s) (t := s) rfl rfl rfl rfl hu.takes
    lanes := by rw [hu.frame]; rfl }

/-- The outcome of a DIAL's cause 1 or 2 (R43). -/
theorem dialFailed_of_cause {c : Byte} (h1 : 1 ≤ c.toNat) (h2 : c.toNat ≤ 2) (n : Cp) (s : State) :
    dialFailed n c.toNat s = applyOutcome n (if c = 1 then .numberRefused else .networkBusy) s := by
  obtain rfl | rfl : c = 1 ∨ c = 2 := by bv_omega
  · rfl
  · rfl

/-! ### The ACK of a TONES -/

theorem burstGroup_length (b : Burst) : (burstGroup b).length = min 8 (b.digits.length - b.next) := by
  rw [burstGroup, List.length_take, List.length_drop]

end

end Sys2Proof.Machine

namespace Sys2Proof.Proofs
open Sys2Proof.Machine

/-- Settles O44, by the requester and the code of the transaction whose response has come. -/
theorem responsesReachTheirRequester : Obligations.ResponsesReachTheirRequester := by
  intro s f x n
  refine ⟨fun h => ?_, fun hx hne => ?_, fun hx hl ht hn => ⟨fun hc hr hst ho => ?_, fun hw hf hp => ?_,
    fun a hw hc hr hst ha hnak h1 h2 => ?_, fun hw hc hr hst hack => ?_⟩⟩
  · have hresp : exec (.responseFrame f) s = execResponseFrame f s := rfl
    have htime : exec .responseTimeout s = execResponseTimeout s := rfl
    rw [hresp, htime, execResponseFrame, execResponseTimeout, h]
    exact ⟨rfl, rfl⟩
  · have hm : ¬frameMatches x f = true := fun hm => by
      obtain ⟨hl, ht⟩ := frameMatches_iff.mp hm
      exact hne.elim (· hl) (· ht)
    rw [exec_responseFrame hx, onEvent, if_neg hm]
  · refine response_through hx hl ht hn ?_
    rw [settleResult_probe hc hr]
    have hcond : ((freeLink s).lane x.lane).state = .ready ∧ ((freeLink s).lane x.lane).owner = .none := ⟨hst, ho⟩
    have hlane := startProbe_lane x.lane (freeLink s)
    rw [probeStarted, if_pos hcond] at hlane
    rw [startProbe, if_pos hcond] at hlane ⊢
    exact ⟨hlane, fun m hm => modLane_lane_of_ne hm _ _, rfl⟩
  · refine response_through hx hl ht hn ?_
    rw [settleResult_discarded hw hf hp]
    rfl
  · refine response_through hx hl ht hn ?_
    have hset : settingUp (freeLink s) n = true := settingUp_iff.mpr hst
    have hu := applyOutcome_freeLink (o := if f.cause = 1 then .numberRefused else .networkBusy) ha
      (by split <;> simp)
    rw [settleResult_delivered hw (by rw [hc]; decide), deliver_ctx hr, hc, judge_nak _ hnak, ctxResult, dialResult,
      if_pos hset, dialFailed_of_cause h1 h2]
    exact ⟨hu.applied, hu.link, hu.takes, hu.lanes⟩
  · refine response_through hx hl ht hn ?_
    have hsend : ¬((freeLink s).voice.burst.get n).stage ≠ .sending := not_not.mpr hst
    rw [settleResult_delivered hw (by rw [hc]; decide), deliver_ctx hr, hc, judge_ack hack (Nat.zero_le _), ctxResult,
      tonesResult, if_neg hsend, modBurst]
    refine ⟨?_, Duo.get_set_other _ _ _, rfl, rfl, rfl⟩
    rw [← burstGroup_length]
    exact Duo.get_set_same _ _ _

end Sys2Proof.Proofs
end

section
namespace Sys2Proof.Machine

/-! ### A response that does not come -/

section
variable {s u : State} {x : Transaction} {l : Lane}

theorem exec_responseTimeout (hx : s.link.inFlight = some x) : exec .responseTimeout s =
    .next (onEvent (decide (x.deadline ≤ s.time.ms)) (endUnanswered x) s) := by
  have h : exec .responseTimeout s = execResponseTimeout s := rfl
  rw [h, execResponseTimeout, hx]

theorem unanswered_through (hx : s.link.inFlight = some x) (hd : x.deadline ≤ s.time.ms) {P : State → Prop}
    (h : P (endUnanswered x s)) : CompletesThrough .responseTimeout s P :=
  ⟨_, (exec_responseTimeout hx).trans (congrArg Host.Outcome.next (if_pos (decide_eq_true hd))), h⟩

/-- The link is free, and a timeout more is counted (R101). -/
def timedOut (s : State) : State := countTimeout (freeLink s)

theorem countsAgainst_iff : countsAgainst s x = true ↔
    x.code ≠ .powerDown ∧ (s.lane x.lane).power = true ∧ (s.lane x.lane).state ≠ .faulted := by
  unfold countsAgainst
  rw [Bool.and_eq_true, Bool.and_eq_true, decide_eq_true_eq, decide_eq_true_eq, and_assoc]

theorem endUnanswered_third (hc : countsAgainst s x = true) (hn : (s.lane x.lane).noResp = 2) :
    endUnanswered x s = faultLane x.lane .noResponse (timedOut s) := by
  have hcount : countsAgainst (timedOut s) x = true := hc
  have hthree : 3 ≤ ((timedOut s).lane x.lane).noResp + 1 := hn ▸ Nat.le_refl _
  rw [endUnanswered, ← timedOut, if_pos hcount, if_pos hthree]

theorem endUnanswered_counted (hc : countsAgainst s x = true) (hn : (s.lane x.lane).noResp < 2) :
    endUnanswered x s =
      settleResult x .noResponse (setNoResp x.lane ((s.lane x.lane).noResp + 1) (timedOut s)) := by
  have hcount : countsAgainst (timedOut s) x = true := hc
  have hless : ¬3 ≤ ((timedOut s).lane x.lane).noResp + 1 := Nat.not_le.mpr (Nat.succ_lt_succ hn)
  rw [endUnanswered, ← timedOut, if_pos hcount, if_neg hless]
  rfl

theorem endUnanswered_uncounted (hc : ¬countsAgainst s x = true) :
    endUnanswered x s = settleResult x .noResponse (timedOut s) := by
  have hcount : ¬countsAgainst (timedOut s) x = true := hc
  rw [endUnanswered, ← timedOut, if_neg hcount]

/-- That a request got no response says nothing once its result has been given up (R101). -/
theorem settleResult_noResponse (hw : x.wanted = false) (hp : x.code ≠ .probe) (s : State) :
    settleResult x .noResponse s = s := by
  have hdis : discardResult x .noResponse s = s := by
    unfold discardResult
    split
    next h => exact nomatch h
    next => rfl
  rw [settleResult, hw, if_neg Bool.false_ne_true, hdis, afterProbe, if_neg hp]

/-- Scoring a lane's candidates again changes the table, and its mirror, alone (R68). -/
theorem rescoreLane_frame (l : Lane) (s : State) : rescoreLane l s = { s with
    table := (rescoreLane l s).table, mem := (rescoreLane l s).mem, port := (rescoreLane l s).port
    matrix := (rescoreLane l s).matrix } := by
  unfold rescoreLane
  split
  · exact (publishTable_spec _ s).frame
  · rfl

/-- A no-response count reaches the candidates of its lane and nothing else (R68, R96). -/
theorem setNoResp_frame (l : Lane) (n : Nat) (s : State) : setNoResp l n s = { s with
    lanes := (setNoResp l n s).lanes, table := (setNoResp l n s).table, mem := (setNoResp l n s).mem
    port := (setNoResp l n s).port, matrix := (setNoResp l n s).matrix } := by
  unfold setNoResp
  split
  · rfl
  · rw [rescoreLane_frame]
    rfl

/-- A fault of a lane that no context waits for or owns concerns the lane alone (R97). -/
structure FaultUntold (s u : State) (l : Lane) (cause : FaultCause) : Prop where
  faulted : LaneFaulted s u l cause
  frame : u = { s with
    lanes := u.lanes, survey := u.survey, link := u.link, startq := u.startq, table := u.table, needDue := u.needDue
    mem := u.mem, port := u.port, matrix := u.matrix }

theorem faultLane_untold (cause : FaultCause)
    (h : ∀ n, (s.ctx n).lane ≠ some l ∧ (s.ctx n).pendingClaim ≠ some l) :
    FaultUntold s (faultLane l cause s) l cause := by
  have hb := showFault_spec l cause s
  have hbc : ∀ n, (showFault l cause s).ctx n = s.ctx n := fun n => by rw [hb.frame]; rfl
  rw [faultLane_eq, tellFaults_of_none fun n => by rw [hbc]; exact h n]
  generalize showFault l cause s = b at hb
  exact ⟨hb.faulted rfl, by rw [startRestart_frame, hb.frame]⟩

end

end Sys2Proof.Machine

namespace Sys2Proof.Proofs
open Sys2Proof.Machine

/-- Settles O45, by whether the timeout counts against its lane and how many have come before it. -/
theorem responseTimeoutsCountAgainstTheLane : Obligations.ResponseTimeoutsCountAgainstTheLane := by
  intro s x hx
  refine ⟨fun hd => ?_, fun hd hw hpow hst => ⟨fun hn hc hp => ?_, fun hn hc hnone => ?_⟩, fun hd hw hc hr hpd => ?_⟩
  · rw [exec_responseTimeout hx, onEvent, if_neg (by rw [decide_eq_true_eq]; exact Nat.not_le.mpr hd)]
  · refine unanswered_through hx hd ?_
    rw [endUnanswered_counted (countsAgainst_iff.mpr ⟨hc, hpow, hst⟩) hn, settleResult_noResponse hw hp]
    have hl := setNoResp_lane x.lane ((s.lane x.lane).noResp + 1) (timedOut s)
    have hu := setNoResp_work x.lane ((s.lane x.lane).noResp + 1) (timedOut s)
    have hf := setNoResp_frame x.lane ((s.lane x.lane).noResp + 1) (timedOut s)
    generalize setNoResp x.lane _ (timedOut s) = u at hl hu hf
    exact ⟨hl, hu.lanes, by rw [hf]; rfl, by rw [hf]; rfl, by rw [hf]; rfl,
      fun e he hne => (hu.table e hne).mpr he, hu.outside⟩
  · refine unanswered_through hx hd ?_
    rw [endUnanswered_third (countsAgainst_iff.mpr ⟨hc, hpow, hst⟩) hn]
    have hu := faultLane_untold (s := timedOut s) .noResponse hnone
    generalize faultLane x.lane .noResponse (timedOut s) = u at hu
    have hf := hu.faulted
    exact ⟨⟨hf.lane, hf.restart, hf.queue, hf.table, hf.lanes⟩, by rw [hu.frame]; rfl, by rw [hu.frame]; rfl⟩
  · refine unanswered_through hx hd ?_
    have hnot : ¬countsAgainst s x = true := fun h => (countsAgainst_iff.mp h).1 hc
    have hpend : ((timedOut s).lane x.lane).pdPending = true := hpd
    rw [endUnanswered_uncounted hnot, settleResult_delivered hw (by rw [hc]; decide), deliver_manager hr, hc,
      managerResult, if_pos hpend]
    have hu := powerOff_spec x.lane (timedOut s)
    generalize powerOff x.lane (timedOut s) = u at hu
    rw [hu.lane]
    exact ⟨rfl, rfl, rfl, rfl, rfl, hu.work.lanes, by rw [hu.work.frame]; rfl⟩

end Sys2Proof.Proofs
end

section
namespace Sys2Proof.Machine

/-! ## Event words -/

section
variable {s u : State} {x : Transaction} {f : ResponseFrame} {l : Lane} {n : Cp}

/-! ### The word and its bytes -/

/-- The word that four bytes of a response's data make, the first byte its lowest (12.11). -/
def eventWord (kind result level tag : Byte) : BitVec 32 := tag ++ level ++ result ++ kind

theorem eventWord_toNat (kind result level tag : Byte) : (eventWord kind result level tag).toNat =
    kind.toNat + 256 * (result.toNat + 256 * (level.toNat + 256 * tag.toNat)) := by
  have hk := kind.isLt
  have hr := result.isLt
  have hl := level.isLt
  rw [eventWord, BitVec.toNat_append, BitVec.toNat_append, BitVec.toNat_append, ← Nat.shiftLeft_add_eq_or_of_lt hl,
    ← Nat.shiftLeft_add_eq_or_of_lt hr, ← Nat.shiftLeft_add_eq_or_of_lt hk]
  simp only [Nat.shiftLeft_eq]
  omega

theorem wordOf_eq (kind result level tag : Byte) (rest : List Byte) :
    wordOf (kind :: result :: level :: tag :: rest) = eventWord kind result level tag := by
  have hnum : natOf [kind, result, level, tag] = (eventWord kind result level tag).toNat := by
    rw [eventWord_toNat]
    rfl
  have hword : wordOf (kind :: result :: level :: tag :: rest) = BitVec.ofNat 32 (natOf [kind, result, level, tag]) := rfl
  rw [hword, hnum, BitVec.ofNat_toNat, BitVec.setWidth_eq]

@[simp] theorem wordKind_eventWord (kind result level tag : Byte) :
    wordKind (eventWord kind result level tag) = kind.toNat := by
  have hk := kind.isLt
  rw [wordKind, eventWord_toNat]
  omega

@[simp] theorem wordTag_eventWord (kind result level tag : Byte) :
    wordTag (eventWord kind result level tag) = tag.toNat := by
  have hk := kind.isLt
  have hr := result.isLt
  have hl := level.isLt
  rw [wordTag, eventWord_toNat]
  omega

/-! ### A fetch that is answered -/

/-- The link is free, and an event word is latched as its lane's last (R102). -/
def latched (l : Lane) (w : BitVec 32) (s : State) : State := modLane l (fun v => { v with lastWord := w }) (freeLink s)

@[simp] theorem latched_lane (l : Lane) (w : BitVec 32) (s : State) :
    (latched l w s).lane l = { s.lane l with lastWord := w } :=
  modLane_lane_same l (fun v => { v with lastWord := w }) (freeLink s)

theorem latched_lane_of_ne {m : Lane} (hm : m ≠ l) (w : BitVec 32) (s : State) : (latched l w s).lane m = s.lane m :=
  modLane_lane_of_ne hm (fun v => { v with lastWord := w }) (freeLink s)

theorem latched_frame (l : Lane) (w : BitVec 32) (s : State) : latched l w s = { s with
    lanes := (latched l w s).lanes, link := { s.link with inFlight := none } } := rfl

theorem settleResult_fetch (hc : x.code = .fetchEvent) (hr : x.requester = .manager) (hw : x.wanted = true) (r : TxResult)
    (s : State) : settleResult x r s = fetchResult x.lane r s := by
  rw [settleResult_delivered hw (by rw [hc]; decide), deliver_manager hr, hc]
  rfl

/-- The response of a fetch with a word in it latches the word and takes it (R102). -/
theorem word_through {kind result level tag : Byte} {rest : List Byte} (hx : s.link.inFlight = some x)
    (hl : f.lane.toNat = x.lane.num) (ht : f.tag.toNat = x.tag) (hn : (s.lane x.lane).noResp = 0)
    (hc : x.code = .fetchEvent) (hr : x.requester = .manager) (hw : x.wanted = true) (hack : f.status = 0)
    (hd : f.data = kind :: result :: level :: tag :: rest) {P : State → Prop}
    (h : P (takeWord x.lane (eventWord kind result level tag) (attachReport f.data)
      (latched x.lane (eventWord kind result level tag) s))) : CompletesThrough (.responseFrame f) s P := by
  refine response_through hx hl ht hn ?_
  have hlen : dataNeeded x.code f.data ≤ f.data.length := by
    rw [hc, hd]
    exact Nat.le_add_left 4 rest.length
  rw [settleResult_fetch hc hr hw, judge_ack hack hlen, fetchResult, hd, wordOf_eq, ← hd, ← latched]
  exact h

/-! ### Stale words -/

theorem wordKind_unknown {k : Nat} (h : k = 0 ∨ 12 < k) : WordKind.ofNum k = none := by
  rcases h with rfl | h
  · rfl
  · obtain ⟨m, rfl⟩ := Nat.exists_eq_add_of_le' h
    rfl

/-- A word whose kind carries a tag is matched with its lane's outstanding tag (R103). -/
theorem takeWord_tagged {w : BitVec 32} (h : wordKind w ∈ [2, 3, 4, 5, 6, 7] ∨ wordKind w = 8 ∧ wordTag w ≠ 0)
    (l : Lane) (report : Option AttachReport) (s : State) :
    ∃ k, takeWord l w report s = matchTag l k w report s := by
  unfold takeWord
  rcases h with h | ⟨h, htag⟩
  · simp only [List.mem_cons, List.not_mem_nil, or_false] at h
    rcases h with h | h | h | h | h | h <;> rw [h] <;> exact ⟨_, rfl⟩
  · rw [h]
    exact ⟨_, if_neg htag⟩

theorem matchTag_stale {w : BitVec 32} (h : wordTag w = 0 ∨ ∀ h, (s.lane l).outTag ≠ some (wordTag w, h))
    (k : WordKind) (report : Option AttachReport) : matchTag l k w report s = countStale s := by
  unfold matchTag
  cases hout : (s.lane l).outTag with
  | none => rfl
  | some p =>
    refine if_neg fun ⟨hne, heq⟩ => ?_
    rcases h with h | h
    · exact hne h
    · exact h p.2 (by rw [hout, heq])

theorem matchTag_taken {w : BitVec 32} {holder : Owner} (hne : wordTag w ≠ 0)
    (h : (s.lane l).outTag = some (wordTag w, holder)) (k : WordKind) (report : Option AttachReport) :
    matchTag l k w report s = taggedWord l k w report holder s := by
  unfold matchTag
  rw [h]
  exact if_pos ⟨hne, rfl⟩

/-! ### READY -/

/-- A lane's record as it enters READY, but for its no-response count (R92, R93). -/
def LaneRec.enterReady (since : Seconds) (r : LaneRec) : LaneRec :=
  { r with startTimer := none, camp := none, pdPending := false, readySince := some since }

/-- A lane's record once it has become READY without a no-response count (R92, R95). -/
def LaneRec.readied (s : State) (r : LaneRec) : LaneRec :=
  { r.enterReady s.now with
    state := .ready
    probeTimer := if r.owner = .none then some (later s.now (probeIntervalOf s)) else r.probeTimer }

/-- A lane has become READY, but for its due time (R92, R93, R95). -/
def readyEntered (l : Lane) (s : State) : State :=
  considerRing l (startProbe l (setNoResp l 0 (setLaneState l .ready (modLane l (LaneRec.enterReady s.now) s))))

theorem becomeReady_eq (l : Lane) (s : State) : becomeReady l s =
    if ((readyEntered l s).lane l).removed then
      dueNow l (modLane l (fun r => { r with removed := false }) (readyEntered l s))
    else readyEntered l s := rfl

theorem considerRing_frame (l : Lane) (s : State) : considerRing l s = { s with link := (considerRing l s).link } := by
  unfold considerRing
  split
  · rw [addMaint_eq]
    rfl
  · rfl

theorem startProbe_frame (l : Lane) (s : State) : startProbe l s = { s with lanes := (startProbe l s).lanes } := by
  unfold startProbe
  split <;> rfl

/-- A lane with no-response count 0 has become READY, but for its due time (R92, R95). -/
structure ReadyEntered (s u : State) (l : Lane) : Prop where
  lane : u.lane l = (s.lane l).readied s
  lanes : ∀ m, m ≠ l → u.lane m = s.lane m
  frame : u = { s with lanes := u.lanes, survey := u.survey, link := u.link, needDue := u.needDue }

theorem readyEntered_spec (hn : (s.lane l).noResp = 0) : ReadyEntered s (readyEntered l s) l := by
  unfold readyEntered
  have ha := modLane_spec l (LaneRec.enterReady s.now) s
  generalize modLane l _ s = a at ha
  have hb := setLaneState_spec l .ready a
  generalize setLaneState l .ready a = b at hb
  have hbl : b.lane l = { (s.lane l).enterReady s.now with state := .ready } := by rw [hb.lane, ha.lane]
  have hbf : b = { s with lanes := b.lanes, survey := b.survey, needDue := b.needDue } := by rw [hb.frame, ha.frame]
  have hint : probeIntervalOf b = probeIntervalOf s := by rw [hbf]; rfl
  have hnow : b.now = s.now := by rw [hbf]; rfl
  have hprobe : probeStarted b (b.lane l) = ((s.lane l).readied s).probeTimer := by
    unfold probeStarted
    rw [hnow, hint, hbl]
    simp only [true_and]
    rfl
  have hw := (startProbe_work l b).trans (considerRing_work l _)
  rw [setNoResp_of_eq (by rw [hbl]; exact hn)]
  refine ⟨?_, fun m hm => by rw [hw.lanes m hm, hb.others m hm, ha.others m hm], ?_⟩
  · rw [considerRing_lane, startProbe_lane, hprobe, hbl]
    rfl
  · rw [considerRing_frame, startProbe_frame, hbf]

/-- A lane with no-response count 0 has become READY, and is due at once if its candidates had been removed (R72, R92, R95). -/
structure LaneReadied (s u : State) (l : Lane) : Prop where
  lane : u.lane l = { (s.lane l).readied s with removed := false }
  due : (s.lane l).removed = true → (u.scan l).due = some s.now ∧ l ∈ u.survey.list
  lanes : ∀ m, m ≠ l → u.lane m = s.lane m
  frame : u = { s with lanes := u.lanes, survey := u.survey, link := u.link, needDue := u.needDue }

theorem becomeReady_spec (hn : (s.lane l).noResp = 0) : LaneReadied s (becomeReady l s) l := by
  rw [becomeReady_eq]
  have hc := readyEntered_spec hn
  generalize readyEntered l s = c at hc
  have hrem : (c.lane l).removed = (s.lane l).removed := by rw [hc.lane]; rfl
  by_cases hr : (s.lane l).removed = true
  · rw [if_pos (hrem.trans hr)]
    have hd := modLane_spec l (fun r => { r with removed := false }) c
    generalize modLane l _ c = d at hd
    have hu := dueNow_spec l d
    generalize dueNow l d = u at hu
    have hnow : d.now = s.now := by rw [hd.frame, hc.frame]; rfl
    exact ⟨by rw [hu.lane, hd.lane, hc.lane], fun _ => ⟨by rw [hu.scan, hnow], hu.listed⟩,
      fun m hm => by rw [hu.work.lanes m hm, hd.others m hm, hc.lanes m hm], by rw [hu.frame, hd.frame, hc.frame]⟩
  · rw [if_neg (by rwa [hrem])]
    refine ⟨?_, fun h => absurd h hr, hc.lanes, hc.frame⟩
    rw [← Bool.eq_false_iff.mpr (hrem ▸ hr), hc.lane]

/-! ### INCOMING_RING -/

/-- A watching context has begun to ring (R24, R118, R141). -/
structure RingBegun (s u : State) (n : Cp) (j : Fin 12) : Prop where
  ctx : u.ctx n = { s.ctx n with state := .ringing, cbTimer := none }
  otherCtx : u.ctx n.other = s.ctx n.other
  record : u.record j = { s.record j with offered := min ((s.record j).offered + 1) 65535 }
  others : ∀ k, k ≠ j → u.record k = s.record k
  ringer : (u.lamps.get n).ringer = some ⟨true, s.time.ms + 1000⟩
  grows : s.matrix.Grows u.matrix
  frame : u = { s with ctxs := u.ctxs, recs := u.recs, lamps := u.lamps, matrix := u.matrix }

theorem ring_spec {j : Fin 12} (hs : (s.ctx n).state = .callbackWatch) (hj : (s.ctx n).record = some j) :
    RingBegun s (ring n s) n j := by
  unfold ring
  rw [if_pos hs]
  have hac : (modCtx n (fun c => { c with cbTimer := none }) s).ctx n = { s.ctx n with cbTimer := none } :=
    modCtx_ctx n (fun c => { c with cbTimer := none }) s
  have hao := modCtx_ctx_other n (fun c => { c with cbTimer := none }) s
  have haf : modCtx n (fun c => { c with cbTimer := none }) s
    = { s with ctxs := (modCtx n (fun c => { c with cbTimer := none }) s).ctxs } := rfl
  generalize modCtx n (fun c => { c with cbTimer := none }) s = a at hac hao haf
  have hb := modRecord_spec n (fun r => { r with offered := satInc 65535 r.offered }) a
  generalize modRecord n _ a = b at hb
  have hu := setState_spec n .ringing b
  generalize setState n .ringing b = u at hu
  have hbc : ∀ m, b.ctx m = a.ctx m := fun m => by rw [hb.frame]; rfl
  have har : ∀ k, a.record k = s.record k := fun k => by rw [haf]; rfl
  have hur : ∀ k, u.record k = b.record k := fun k => by rw [hu.frame]; rfl
  have haj : (a.ctx n).record = some j := by rw [hac]; exact hj
  exact {
    ctx := by rw [hu.ctx, hbc, hac]
    otherCtx := by rw [hu.otherCtx, hbc, hao]
    record := by rw [hur, hb.own j haj, har, satInc_eq]
    others := fun k hk => by rw [hur, hb.others k (fun e => hk (Option.some.inj (e.symm.trans haj))), har]
    ringer := by
      have htime : b.time = s.time := by rw [hb.frame, haf]
      rw [hu.lamps, hbc, hac, htime, hs]
      rfl
    grows := by
      have hx : b.matrix = s.matrix := by rw [hb.frame, haf]
      exact hx ▸ hu.grows
    frame := by rw [hu.frame, hb.frame, haf] }

end

end Sys2Proof.Machine
end

section
namespace Sys2Proof.Machine

/-! ## CONNECTED -/

section
variable {s u : State} {l : Lane} {n : Cp} {j : Fin 12}

/-- The candidate of a call that has connected has no fails and keeps its bar; the others are as they were (R46, R61). -/
structure TableConnected (s u : State) (k : Option CandKey) : Prop where
  takes : ∀ e ∈ s.table, some e.key = k →
    ∃ y ∈ u.table, y.key = e.key ∧ y.fails = 0 ∧ y.last = some .connected ∧ y.barred = e.barred
  others : ∀ e ∈ s.table, some e.key ≠ k → e ∈ u.table
  outside : SameOutside s u 0x700 0x300
  frame : u = { s with table := u.table, mem := u.mem, port := u.port, matrix := u.matrix }

theorem TableConnected.of_absent {k : Option CandKey} (h : ∀ e ∈ s.table, some e.key ≠ k) : TableConnected s s k where
  takes := fun e he hk => absurd hk (h e he)
  others := fun _ he _ => he
  outside := fun _ _ => rfl
  frame := rfl

/-- CONNECTED, in an entry (R46). -/
theorem applyToEntry_connected (s : State) (e : Entry) :
    applyToEntry s .connected e = { e with fails := 0, failChange := s.now, last := some .connected } := rfl

theorem outcomeToTable_connected (k : Option CandKey) (s : State) :
    TableConnected s (outcomeToTable k .connected s) k := by
  unfold outcomeToTable
  cases k with
  | none => exact .of_absent fun _ _ => Option.some_ne_none _
  | some k =>
    dsimp only
    rw [if_neg (by decide), changeEntry]
    by_cases hs : (s.entry k).isSome = true
    · rw [if_pos hs]
      have hu := publishTable_spec (s.table.map fun e => if e.key = k then scored s (applyToEntry s .connected e) else e) s
      generalize publishTable _ s = u at hu
      have hm : ∀ e ∈ s.table, (if e.key = k then scored s (applyToEntry s .connected e) else e) ∈ u.table :=
        fun e he => by
          rw [hu.table]
          exact (ordered_perm _).mem_iff.mpr (List.mem_map_of_mem he)
      refine ⟨fun e he hk => ?_, fun e he hk => ?_, hu.outside, hu.frame⟩
      · have h := hm e he
        rw [if_pos (Option.some.inj hk), applyToEntry_connected] at h
        exact ⟨_, h, rfl, rfl, rfl, rfl⟩
      · have h := hm e he
        rwa [if_neg fun ek => hk (congrArg some ek)] at h
    · rw [if_neg hs]
      refine .of_absent fun e he hk => hs ?_
      rw [State.entry, List.find?_isSome]
      exact ⟨e, he, decide_eq_true (Option.some.inj hk)⟩

/-! ### The record -/

/-- A record has been published: it shows its context (R136, R137, R140). -/
structure RecordFlushed (s u : State) (n : Cp) : Prop where
  own : ∀ j, (s.ctx n).record = some j → u.record j = shownIn (s.ctx n) (s.record j)
  frame : u = { s with recs := u.recs, mem := u.mem }

theorem flushRecord_spec (n : Cp) (s : State) : RecordFlushed s (flushRecord n s) n := by
  unfold flushRecord
  cases h : (s.ctx n).record with
  | none => exact ⟨fun j hj => (nomatch h.symm.trans hj), rfl⟩
  | some i =>
    have hput : (putRecord i (shownIn (s.ctx n) (s.record i)) s).record i = shownIn (s.ctx n) (s.record i) :=
      putRecord_record_same _ _ _
    have hown : ∀ j, (s.ctx n).record = some j →
        (putRecord i (shownIn (s.ctx n) (s.record i)) s).record j = shownIn (s.ctx n) (s.record j) := fun j hj => by
      obtain rfl := Option.some.inj (h.symm.trans hj)
      exact hput
    dsimp only
    split <;> exact ⟨hown, rfl⟩

/-- A record's share of an entry into CONNECTED (R140, R141). -/
structure ConnectRecorded (s u : State) (n : Cp) : Prop where
  connects : ∀ j, (s.ctx n).record = some j → (u.record j).connects = min ((s.record j).connects + 1) 65535
  last : ∀ j, (s.ctx n).record = some j → (u.record j).last = (s.record j).last
  first : ∀ j, (s.ctx n).record = some j →
    (u.record j).firstConnect = some ((s.record j).firstConnect.getD s.time.clock)
  frame : u = { s with recs := u.recs, mem := u.mem, port := u.port, matrix := u.matrix }

theorem recordConnect_spec (n : Cp) (s : State) : ConnectRecorded s (recordConnect n s) n := by
  unfold recordConnect
  have ha := modRecord_spec n (fun r =>
    { r with connects := satInc 65535 r.connects, firstConnect := some (r.firstConnect.getD s.time.clock) }) s
  generalize modRecord n _ s = a at ha
  dsimp only
  split
  · have hb := flushRecord_spec n a
    generalize flushRecord n a = b at hb
    have hu := (raise_spec .record b).frame
    generalize raise .record b = u at hu
    have hac : a.ctx n = s.ctx n := by rw [ha.frame]; rfl
    have hown : ∀ j, (s.ctx n).record = some j → u.record j = shownIn (a.ctx n) (a.record j) := fun j hj => by
      have hrec : u.record j = b.record j := by rw [hu]; rfl
      rw [hrec, hb.own j (by rw [hac, hj])]
    exact ⟨fun j hj => by rw [hown j hj, ha.own j hj]; exact satInc_eq _ _,
      fun j hj => by rw [hown j hj, ha.own j hj]; rfl, fun j hj => by rw [hown j hj, ha.own j hj]; rfl,
      by rw [hu, hb.frame, ha.frame]⟩
  · exact ⟨fun j hj => by rw [ha.own j hj]; exact satInc_eq _ _, fun j hj => by rw [ha.own j hj],
      fun j hj => by rw [ha.own j hj], by rw [ha.frame]⟩

/-! ### The path -/

/-- A call point has been connected to a lane, its mute state OPEN (R109). -/
structure PathJoined (s u : State) (n : Cp) (l : Lane) : Prop where
  conn : u.voice.conn.get n = some l
  muted : u.voice.muted.get n = false
  otherConn : u.voice.conn.get n.other = s.voice.conn.get n.other
  frame : u = { s with voice := u.voice }

theorem joinPath_spec (n : Cp) (l : Lane) (s : State) : PathJoined s (joinPath n l s) n l where
  conn := Duo.get_set_same _ _ _
  muted := Duo.get_set_same _ _ _
  otherConn := Duo.get_set_other _ _ _
  frame := rfl

theorem cpEar_of_conn (h : s.voice.conn.get n = some l) : s.cpEar n = .laneRx l := by
  unfold State.cpEar
  rw [h]

/-- The microphone of a call point that is not MUTED feeds its lane, of which no other call point has hold (R108). -/
theorem laneTx_of_conn (h : s.voice.conn.get n = some l) (hm : s.voice.muted.get n = false)
    (ho : s.voice.conn.get n.other ≠ some l) : s.laneTx l = .mic n := by
  have hn : s.feeds n l = true := by
    unfold State.feeds
    rw [h, hm, decide_eq_true rfl]
    rfl
  have hother : ¬s.feeds n.other l = true := by
    unfold State.feeds
    rw [decide_eq_false ho, Bool.false_and]
    exact Bool.false_ne_true
  unfold State.laneTx
  cases n with
  | p0 => exact if_pos hn
  | p1 =>
    have hzero : ¬s.feeds .p0 l = true := hother
    rw [if_neg hzero, if_pos hn]

/-! ### The context -/

/-- A context as its placed call connects (R7, R27). -/
def Context.placed (c : Context) : Context :=
  { c with
    connKind := .placed, connectedOnce := true, attempt := c.attempt.map (fun a => { a with connected := true }) }

/-- A placed call up to its path (R7): the table, the context, the record's last outcome and the crosspoint have taken
CONNECTED. -/
def joinCall (n : Cp) (l : Lane) (s : State) : State :=
  joinPath n l (setState n .connected (setLast n .connected (modCtx n Context.placed
    (outcomeToTable (s.ctx n).current .connected (stopStep n s)))))

theorem connect_eq (h : (s.ctx n).lane = some l) : connect n s =
    recordConnect n (if locationDelayOf (joinCall n l s) = 0 then beginBurst n (joinCall n l s)
      else modCtx n (fun c => { c with locTimer := some (later (joinCall n l s).now (locationDelayOf (joinCall n l s))) })
        (joinCall n l s)) := by
  unfold connect
  rw [h]
  rfl

/-- What a placed call has changed as its path is joined (R7, R46, R108). -/
structure CallJoined (s u : State) (n : Cp) (l : Lane) : Prop where
  ctx : u.ctx n = { (s.ctx n).placed with state := .connected, stepTimer := none }
  otherCtx : u.ctx n.other = s.ctx n.other
  last : ∀ j, (s.ctx n).record = some j → u.record j = { s.record j with last := some .connected }
  conn : u.voice.conn.get n = some l
  muted : u.voice.muted.get n = false
  otherConn : u.voice.conn.get n.other = s.voice.conn.get n.other
  takes : ∀ e ∈ s.table, some e.key = (s.ctx n).current →
    ∃ y ∈ u.table, y.key = e.key ∧ y.fails = 0 ∧ y.last = some .connected ∧ y.barred = e.barred
  others : ∀ e ∈ s.table, some e.key ≠ (s.ctx n).current → e ∈ u.table
  outside : SameOutside s u 0x700 0x300
  frame : u = { s with
    ctxs := u.ctxs, recs := u.recs, voice := u.voice, lamps := u.lamps, table := u.table, mem := u.mem, port := u.port
    matrix := u.matrix }

theorem joinCall_spec (n : Cp) (l : Lane) (s : State) : CallJoined s (joinCall n l s) n l := by
  unfold joinCall setLast
  have hac : (stopStep n s).ctx n = { s.ctx n with stepTimer := none } := modCtx_ctx _ _ _
  have hao : (stopStep n s).ctx n.other = s.ctx n.other := modCtx_ctx_other _ _ _
  have haf : stopStep n s = { s with ctxs := (stopStep n s).ctxs } := rfl
  generalize stopStep n s = a at hac hao haf
  have hb := outcomeToTable_connected (s.ctx n).current a
  generalize outcomeToTable (s.ctx n).current .connected a = b at hb
  have hcc : (modCtx n Context.placed b).ctx n = (b.ctx n).placed := modCtx_ctx _ _ _
  have hco : (modCtx n Context.placed b).ctx n.other = b.ctx n.other := modCtx_ctx_other _ _ _
  have hcf : modCtx n Context.placed b = { b with ctxs := (modCtx n Context.placed b).ctxs } := rfl
  generalize modCtx n Context.placed b = c at hcc hco hcf
  have hd := modRecord_spec n (fun r => { r with last := some .connected }) c
  generalize modRecord n _ c = d at hd
  have he := setState_spec n .connected d
  generalize setState n .connected d = e at he
  have hu := joinPath_spec n l e
  generalize joinPath n l e = u at hu
  have hbc : ∀ m, b.ctx m = a.ctx m := fun m => by rw [hb.frame]; rfl
  have hdc : ∀ m, d.ctx m = c.ctx m := fun m => by rw [hd.frame]; rfl
  have huc : ∀ m, u.ctx m = e.ctx m := fun m => by rw [hu.frame]; rfl
  have hur : ∀ j, u.record j = d.record j := fun j => by rw [hu.frame, he.frame]; rfl
  have hcr : ∀ j, c.record j = s.record j := fun j => by rw [hcf, hb.frame, haf]; rfl
  have hvoice : e.voice = s.voice := by rw [he.frame, hd.frame, hcf, hb.frame, haf]
  have htable : u.table = b.table := by rw [hu.frame, he.frame, hd.frame, hcf]
  have hmem : u.mem = b.mem := by rw [hu.frame, he.frame, hd.frame, hcf]
  have hctx : c.ctx n = { (s.ctx n).placed with stepTimer := none } := by rw [hcc, hbc, hac]; rfl
  have hat : a.table = s.table := by rw [haf]
  have ham : a.mem = s.mem := by rw [haf]
  exact {
    ctx := by rw [huc, he.ctx, hdc, hctx]
    otherCtx := by rw [huc, he.otherCtx, hdc, hco, hbc, hao]
    last := fun j hj => by rw [hur, hd.own j (by rw [hctx]; exact hj), hcr]
    conn := hu.conn
    muted := hu.muted
    otherConn := by rw [hu.otherConn, hvoice]
    takes := fun x hx hk => by rw [htable]; exact hb.takes x (hat ▸ hx) hk
    others := fun x hx hk => by rw [htable]; exact hb.others x (hat ▸ hx) hk
    outside := fun x hx => by rw [hmem, hb.outside x hx, ham]
    frame := by rw [hu.frame, he.frame, hd.frame, hcf, hb.frame, haf] }

/-- A placed call has connected, its location delay running (R7, R27, R46, R108, R140, R141). -/
structure CallConnected (s u : State) (n : Cp) (l : Lane) : Prop where
  ctx : u.ctx n = { (s.ctx n).placed with
    state := .connected, stepTimer := none, locTimer := some (later s.now (locationDelayOf s)) }
  otherCtx : u.ctx n.other = s.ctx n.other
  conn : u.voice.conn.get n = some l
  muted : u.voice.muted.get n = false
  otherConn : u.voice.conn.get n.other = s.voice.conn.get n.other
  connects : ∀ j, (s.ctx n).record = some j → (u.record j).connects = min ((s.record j).connects + 1) 65535
  last : ∀ j, (s.ctx n).record = some j → (u.record j).last = some .connected
  first : ∀ j, (s.ctx n).record = some j →
    (u.record j).firstConnect = some ((s.record j).firstConnect.getD s.time.clock)
  takes : ∀ e ∈ s.table, some e.key = (s.ctx n).current →
    ∃ y ∈ u.table, y.key = e.key ∧ y.fails = 0 ∧ y.last = some .connected ∧ y.barred = e.barred
  others : ∀ e ∈ s.table, some e.key ≠ (s.ctx n).current → e ∈ u.table

theorem connect_spec (h : (s.ctx n).lane = some l) (hd : 1 ≤ locationDelayOf s) :
    CallConnected s (connect n s) n l := by
  rw [connect_eq h]
  have ha := joinCall_spec n l s
  generalize joinCall n l s = a at ha
  have hnow : a.now = s.now := by rw [ha.frame]; rfl
  have hclock : a.time = s.time := by rw [ha.frame]
  have hdelay : locationDelayOf a = locationDelayOf s :=
    timerSetting_congr (k := 4) (s := s) (t := a) (by rw [ha.frame]) (fun x _ h2 => ha.outside x (by omega)) (by decide) _ _
  rw [if_neg (by rw [hdelay]; omega), hnow, hdelay]
  have hbc := modCtx_ctx n (fun c => { c with locTimer := some (later s.now (locationDelayOf s)) }) a
  have hbo := modCtx_ctx_other n (fun c => { c with locTimer := some (later s.now (locationDelayOf s)) }) a
  have hbf : modCtx n (fun c => { c with locTimer := some (later s.now (locationDelayOf s)) }) a
    = { a with ctxs := (modCtx n (fun c => { c with locTimer := some (later s.now (locationDelayOf s)) }) a).ctxs } := rfl
  generalize modCtx n _ a = b at hbc hbo hbf
  have hu := recordConnect_spec n b
  generalize recordConnect n b = u at hu
  have huc : ∀ m, u.ctx m = b.ctx m := fun m => by rw [hu.frame]; rfl
  have hbr : ∀ j, (s.ctx n).record = some j → b.record j = { s.record j with last := some .connected } := fun j hj => by
    rw [← ha.last j hj, hbf]
    rfl
  have hrec : (b.ctx n).record = (s.ctx n).record := by rw [hbc, ha.ctx]; rfl
  have hvoice : u.voice = a.voice := by rw [hu.frame, hbf]
  have htable : u.table = a.table := by rw [hu.frame, hbf]
  have htime : b.time = s.time := by rw [hbf, ← hclock]
  exact {
    ctx := by rw [huc, hbc, ha.ctx]
    otherCtx := by rw [huc, hbo, ha.otherCtx]
    conn := by rw [hvoice, ha.conn]
    muted := by rw [hvoice, ha.muted]
    otherConn := by rw [hvoice, ha.otherConn]
    connects := fun j hj => by rw [hu.connects j (hrec.trans hj), hbr j hj]
    last := fun j hj => by rw [hu.last j (hrec.trans hj), hbr j hj]
    first := fun j hj => by rw [hu.first j (hrec.trans hj), hbr j hj, htime]
    takes := fun e he hk => by rw [htable]; exact ha.takes e he hk
    others := fun e he hk => by rw [htable]; exact ha.others e he hk }

/-! ### The words that act -/

theorem takeWord_unknown {w : BitVec 32} (h : wordKind w = 0 ∨ 12 < wordKind w) (l : Lane)
    (report : Option AttachReport) (s : State) : takeWord l w report s = countStale s := by
  unfold takeWord
  rw [wordKind_unknown h]

/-- A word of an unknown kind, and a tagged one without the lane's outstanding tag, is stale (R103). -/
theorem takeWord_stale {w : BitVec 32} {kind tag : Byte} (hkind : wordKind w = kind.toNat) (htag : wordTag w = tag.toNat)
    (h : kind = 0 ∨ 12 < kind.toNat ∨ (kind.toNat ∈ [2, 3, 4, 5, 6, 7] ∨ kind = 8 ∧ tag ≠ 0)
      ∧ (tag = 0 ∨ ∀ h, (s.lane l).outTag ≠ some (tag.toNat, h))) (report : Option AttachReport) :
    takeWord l w report s = countStale s := by
  rcases h with h | h | ⟨h, hout⟩
  · exact takeWord_unknown (.inl (by rw [hkind, h]; rfl)) _ _ _
  · exact takeWord_unknown (.inr (by rw [hkind]; exact h)) _ _ _
  · have htagged : wordKind w ∈ [2, 3, 4, 5, 6, 7] ∨ wordKind w = 8 ∧ wordTag w ≠ 0 := by
      rw [hkind, htag]
      exact h.imp_right fun ⟨h8, hne⟩ => ⟨by rw [h8]; rfl, fun e => hne (BitVec.eq_of_toNat_eq e)⟩
    obtain ⟨k, hk⟩ := takeWord_tagged htagged l report s
    rw [hk]
    refine matchTag_stale ?_ _ _
    rw [htag]
    exact hout.imp_left fun h0 => by rw [h0]; rfl

theorem takeWord_ready {w : BitVec 32} (h : wordKind w = 1) (hs : (s.lane l).state = .starting)
    {report : Option AttachReport} : takeWord l w report s = becomeReady l s := by
  have hw : takeWord l w report s = readyWord l s := by
    unfold takeWord
    rw [h]
    rfl
  rw [hw, readyWord, hs]

theorem takeWord_ring {w : BitVec 32} (h : wordKind w = 9) (ho : (s.lane l).owner = .ctx n)
    {report : Option AttachReport} : takeWord l w report s = ring n s := by
  have hw : takeWord l w report s = incomingRing l s := by
    unfold takeWord
    rw [h]
    rfl
  rw [hw, incomingRing, ho]

theorem takeWord_connected {w : BitVec 32} (h : wordKind w = 5) (hne : wordTag w ≠ 0)
    (hout : (s.lane l).outTag = some (wordTag w, .ctx n))
    (hs : (s.ctx n).state = .dialling ∨ (s.ctx n).state = .alerting) {report : Option AttachReport} :
    takeWord l w report s = connect n s := by
  have hw : takeWord l w report s = matchTag l .connected w report s := by
    unfold takeWord
    rw [h]
    rfl
  rw [hw, matchTag_taken hne hout]
  exact if_pos (settingUp_iff.mpr hs)

end

end Sys2Proof.Machine

namespace Sys2Proof.Proofs
open Sys2Proof.Machine

/-- Settles O46, by the kind of the word that the fetch has brought. -/
theorem eventWordsActOnLanesAndCalls : Obligations.EventWordsActOnLanesAndCalls := by
  intro s f x l kind result level tag rest n hx hl ht hxl hc hr hw hn
  subst hxl
  refine ⟨fun hnak => ?_, fun hack hd => ?_⟩
  · refine response_through hx hl ht hn ?_
    rw [settleResult_fetch hc hr hw, judge_nak _ hnak, fetchResult]
    exact ⟨modLane_lane_same _ (fun v => { v with fetchArmed := false }) _,
      fun m hm => modLane_lane_of_ne hm (fun v => { v with fetchArmed := false }) _, rfl⟩
  have hword : ∀ {P : State → Prop}, P (takeWord x.lane (eventWord kind result level tag) (attachReport f.data)
      (latched x.lane (eventWord kind result level tag) s)) → CompletesThrough (.responseFrame f) s P :=
    word_through hx hl ht hn hc hr hw hack hd
  have hkind := wordKind_eventWord kind result level tag
  have htag := wordTag_eventWord kind result level tag
  have hlane := latched_lane x.lane (eventWord kind result level tag) s
  have hlanes : ∀ m, m ≠ x.lane → (latched x.lane (eventWord kind result level tag) s).lane m = s.lane m :=
    fun m hm => latched_lane_of_ne hm _ s
  have hlf := latched_frame x.lane (eventWord kind result level tag) s
  have hlw : tag ++ level ++ result ++ kind = eventWord kind result level tag := rfl
  rw [hlw]
  generalize eventWord kind result level tag = w at hword hkind htag hlane hlanes hlf
  generalize latched x.lane w s = v at hword hlane hlanes hlf
  refine ⟨fun hk hst => hword ?_, fun hstale => hword ?_, fun j hk ho hst hj => hword ?_,
    fun j hk htne hout hst hcl hj hdelay => hword ?_⟩
  · obtain ⟨hp, hready⟩ : (v.lane x.lane).noResp = 0 ∧ (v.lane x.lane).state = .starting := by
      rw [hlane]
      exact ⟨hn, hst⟩
    rw [takeWord_ready (by rw [hkind, hk]; rfl) hready]
    have hu := becomeReady_spec hp
    generalize becomeReady x.lane v = u at hu
    have hnow : v.now = s.time.uptime := by rw [hlf]; rfl
    have hint : probeIntervalOf v = probeIntervalOf s := by rw [hlf]; rfl
    rw [hu.lane, hlane, LaneRec.readied, hnow, hint]
    refine ⟨rfl, rfl, rfl, hn, rfl, rfl, rfl, fun ho => if_pos ho, fun hrem => ?_,
      fun m hm => by rw [hu.lanes m hm, hlanes m hm], by rw [hu.frame, hlf], by rw [hu.frame, hlf]⟩
    rw [← hnow]
    exact hu.due (by rw [hlane]; exact hrem)
  · rw [takeWord_stale (kind := kind) (tag := tag) hkind htag (by rw [hlane]; exact hstale)]
    have hcounters : v.counters = s.counters := by rw [hlf]
    have hcf : countStale v = { v with
      counters := { v.counters with stale := min (v.counters.stale + 1) 65535 } } := rfl
    rw [hcf]
    exact ⟨hlane, hlanes, by rw [hcounters], by rw [hlf]⟩
  · rw [takeWord_ring (by rw [hkind, hk]; rfl) (n := n) (by rw [hlane]; exact ho)]
    have hvc : ∀ m, v.ctx m = s.ctx m := fun m => by rw [hlf]; rfl
    have hvr : ∀ k, v.record k = s.record k := fun k => by rw [hlf]; rfl
    have hu := ring_spec (s := v) (j := j) (by rw [hvc]; exact hst) (by rw [hvc]; exact hj)
    generalize ring n v = u at hu
    have hg := hu.grows
    have hvx : v.matrix = s.matrix := by rw [hlf]
    have hvt : v.time = s.time := by rw [hlf]
    rw [hvx] at hg
    exact ⟨by rw [hu.ctx, hvc], by rw [hu.otherCtx, hvc], by rw [hu.record, hvr], fun k hne => by rw [hu.others k hne, hvr],
      by rw [hu.ringer, hvt], by rw [hu.frame, hlf], hg⟩
  · have hvc : ∀ m, v.ctx m = s.ctx m := fun m => by rw [hlf]; rfl
    rw [takeWord_connected (n := n) (by rw [hkind, hk]; rfl)
      (by rw [htag]; exact fun e => htne (BitVec.eq_of_toNat_eq e)) (by rw [hlane, htag]; exact hout)
      (by rw [hvc]; exact hst)]
    have hvd : locationDelayOf v = locationDelayOf s := by rw [hlf]; rfl
    have hu := connect_spec (s := v) (n := n) (l := x.lane) (by rw [hvc]; exact hcl) (by rw [hvd]; exact hdelay)
    generalize connect n v = u at hu
    have hvr : v.record j = s.record j := by rw [hlf]; rfl
    have hvv : v.voice = s.voice := by rw [hlf]
    have hvtab : v.table = s.table := by rw [hlf]
    have hvt : v.time = s.time := by rw [hlf]
    have hnow : v.now = s.time.uptime := by rw [hlf]; rfl
    have hvj : (v.ctx n).record = some j := by rw [hvc]; exact hj
    have hoc : u.voice.conn.get n.other = s.voice.conn.get n.other := by rw [hu.otherConn, hvv]
    refine ⟨by rw [hu.ctx, hvc, hvd, hnow]; rfl, by rw [hu.otherCtx, hvc], hu.conn, hu.muted, hoc, cpEar_of_conn hu.conn,
      fun hne => laneTx_of_conn hu.conn hu.muted (by rw [hoc]; exact hne), by rw [hu.connects j hvj, hvr], hu.last j hvj,
      by rw [hu.first j hvj, hvr, hvt], fun e he hk => hu.takes e (hvtab ▸ he) (by rw [hvc]; exact hk),
      fun e he hk => hu.others e (hvtab ▸ he) (by rw [hvc]; exact hk)⟩

end Sys2Proof.Proofs
end

section
namespace Sys2Proof.Machine

/-! ## The pins of the OUTPUT lines -/

section
variable {s : State} {i : Fin 12} {n : Cp}

/-- Out of the reset pin an OUTPUT line is driven as its value is (R121). -/
theorem fieldPin_of_output {src : OutSrc} (hr : s.env.resetLow = false) (hi : s.matrix.config.lines[i] = .output src) :
    s.fieldPin i = if s.lineValue i then .drivenHigh else .drivenLow := by
  rw [State.fieldPin, hr, if_neg Bool.false_ne_true, hi]

theorem lineValue_of_connecting (hi : s.matrix.config.lines[i] = .output (.connecting n)) :
    s.lineValue i = s.connectingLamp n := by
  rw [State.lineValue, hi]

theorem lineValue_of_ringer (hi : s.matrix.config.lines[i] = .output (.ringer n)) : s.lineValue i = s.ringerOn n := by
  rw [State.lineValue, hi]

/-- The CONNECTING lamp is on while its flash is in an on phase (R118). -/
theorem connectingLamp_of_flash {p : Phase} (h : (s.lamps.get n).flash = some p) : s.connectingLamp n = p.on := by
  rw [State.connectingLamp, h]
  rfl

/-- The ringer is on while its cadence is in an on phase (R118). -/
theorem ringerOn_of_ringer {p : Phase} (h : (s.lamps.get n).ringer = some p) : s.ringerOn n = p.on := by
  rw [State.ringerOn, h]
  rfl

end

/-! ## The cadences -/

/-- A running phase ends when the millisecond count reaches its end (R118). -/
theorem phaseEnded_some (s : State) (p : Phase) : phaseEnded s (some p) = true ↔ p.ends ≤ s.time.ms :=
  decide_eq_true_iff

/-- A cadence that is stopped or whose phase runs has no phase to end. -/
theorem not_phaseEnded {s : State} {o : Option Phase} (h : ∀ p, o = some p → s.time.ms < p.ends) :
    ¬phaseEnded s o = true := by
  cases o with
  | none => exact Bool.false_ne_true
  | some p => exact (phaseEnded_some s p).not.mpr (Nat.not_le.mpr (h p rfl))

/-- The indications of a call point have changed; the matrix has taken the change and the part status block shows it (R118,
R126, R159). -/
structure LampsTurned (s u : State) (n : Cp) (p : Lamps) : Prop where
  own : u.lamps.get n = p
  other : u.lamps.get n.other = s.lamps.get n.other
  grows : s.matrix.Grows u.matrix
  outside : SameOutside s u 0 42
  frame : u = { s with lamps := u.lamps, matrix := u.matrix, mem := u.mem }

theorem turnLamps_spec (n : Cp) (f : Lamps → Lamps) (s : State) :
    LampsTurned s (flushStatus (modLamps n f s)) n (f (s.lamps.get n)) := by
  have hlamps : (modLamps n f s).lamps = s.lamps.set n (f (s.lamps.get n)) := rfl
  have hgrows : s.matrix.Grows (modLamps n f s).matrix := evalMatrix_grows (s.withLamps _)
  have hmem : (modLamps n f s).mem = s.mem := rfl
  have hframe : modLamps n f s = { s with lamps := (modLamps n f s).lamps, matrix := (modLamps n f s).matrix } := rfl
  have hu := flushStatus_spec (modLamps n f s)
  generalize modLamps n f s = t at hlamps hgrows hmem hframe hu
  generalize flushStatus t = u at hu
  have hul : u.lamps = s.lamps.set n (f (s.lamps.get n)) := by rw [hu.frame]; exact hlamps
  exact {
    own := by rw [hul, Duo.get_set_same]
    other := by rw [hul, Duo.get_set_other]
    grows := hgrows.trans hu.grows
    outside := fun a ha => by rw [hu.outside a (by omega), hmem]
    frame := by rw [hu.frame, hframe] }

/-- A change of the indications leaves the groups of the field lines and the reset pin as they are, so the pin of an OUTPUT
line whose source has turned is driven the other way (R121, R123). -/
theorem LampsTurned.fieldPin {s u : State} {n : Cp} {p : Lamps} (h : LampsTurned s u n p) (hr : s.env.resetLow = false)
    {i : Fin 12} {src : OutSrc} (hi : s.matrix.config.lines[i] = .output src) {on : Bool}
    (hv : u.matrix.config.lines[i] = .output src → u.lineValue i = !on) :
    u.fieldPin i = if on then .drivenLow else .drivenHigh := by
  obtain ⟨hconfig, -⟩ := h.grows
  have hui : u.matrix.config.lines[i] = .output src := by rw [hconfig]; exact hi
  rw [fieldPin_of_output (by rw [h.frame]; exact hr) hui, hv hui]
  cases on <;> rfl

end Sys2Proof.Machine

namespace Sys2Proof.Proofs
open Sys2Proof.Machine

/-- Settles O43, by the end of the phase, at which the indications turn, the matrix takes the turn and the lines show it. -/
theorem cadencesTurnAtTheEndOfAPhase : Obligations.CadencesTurnAtTheEndOfAPhase := by
  intro s n
  refine ⟨fun p hp he => ?_, fun p hp he => ?_, fun h => ?_, fun h => ?_⟩
  · have hended : phaseEnded s (s.lamps.get n).flash = true := by rw [hp, phaseEnded_some]; exact he
    have hu := turnLamps_spec n (fun q => { q with flash := q.flash.map (nextPhase flashMs flashMs) }) s
    refine ⟨_, congrArg Host.Outcome.next (if_pos hended), ?_⟩
    generalize flushStatus _ = u at hu
    have hown : u.lamps.get n = { s.lamps.get n with flash := some ⟨!p.on, p.ends + 500⟩ } := by
      rw [hu.own, hp, Option.map_some, nextPhase, ite_self, flashMs]
    exact ⟨hown,
      fun hr i hi => hu.fieldPin hr hi fun h => by rw [lineValue_of_connecting h, connectingLamp_of_flash (by rw [hown])],
      hu.other, hu.grows, hu.outside, hu.frame⟩
  · have hended : phaseEnded s (s.lamps.get n).ringer = true := by rw [hp, phaseEnded_some]; exact he
    have hu := turnLamps_spec n (fun q => { q with ringer := q.ringer.map (nextPhase ringOnMs ringOffMs) }) s
    refine ⟨_, congrArg Host.Outcome.next (if_pos hended), ?_⟩
    generalize flushStatus _ = u at hu
    have hown : u.lamps.get n
        = { s.lamps.get n with ringer := some ⟨!p.on, p.ends + if p.on then 2000 else 1000⟩ } := by
      rw [hu.own, hp, Option.map_some, nextPhase, ringOnMs, ringOffMs]
    exact ⟨hown,
      fun hr i hi => hu.fieldPin hr hi fun h => by rw [lineValue_of_ringer h, ringerOn_of_ringer (by rw [hown])],
      hu.other, hu.grows, hu.outside, hu.frame⟩
  · exact congrArg Host.Outcome.next (if_neg (not_phaseEnded h))
  · exact congrArg Host.Outcome.next (if_neg (not_phaseEnded h))

end Sys2Proof.Proofs
end

section
namespace Sys2Proof.Machine

/-! ## The check digit -/

/-- The weight of a location digit by its place: 1, 3, 1, 3 and so on (R113). -/
def locationWeight (i : Nat) : Nat := if i % 2 = 0 then 1 else 3

theorem four_sub_locationWeight (i : Nat) : 4 - locationWeight i = locationWeight (i + 1) := by
  unfold locationWeight
  split <;> split <;> omega

/-- The weighted sum goes through the digits by their places, from any place on. -/
theorem weightedSum_eq_mapIdx_sum (ds : List Nat) (k : Nat) :
    weightedSum (locationWeight k) ds = (ds.mapIdx (fun i d => d * locationWeight (i + k))).sum := by
  induction ds generalizing k with
  | nil => rfl
  | cons d ds ih =>
    rw [weightedSum, four_sub_locationWeight, ih, List.mapIdx_cons, List.sum_cons, Nat.zero_add]
    simp only [Nat.add_assoc, Nat.add_comm 1 k]

/-- The check digit is a digit (R113). -/
theorem checkDigit_le (ds : List Nat) : checkDigit ds ≤ 9 := by
  unfold checkDigit
  omega

/-- The check digit makes the weighted sum a whole multiple of 10 (R113). -/
theorem weightedSum_add_checkDigit (ds : List Nat) : (weightedSum 1 ds + checkDigit ds) % 10 = 0 := by
  unfold checkDigit
  omega

/-! ## The location status -/

theorem timeBytes_eq (t : Option Seconds) : timeBytes t = bytesOf 4 (t.getD 0).toNat := by
  cases t <;> rfl

/-- The place of the location status in a record (12.10): no field before it varies in length. -/
theorem recordContent_location (r : CallRecord) : (recordContent r)[24]? = some r.location.code := by
  delta recordContent
  simp only [timeBytes_eq, bytesOf, List.append_assoc, List.cons_append, List.nil_append, List.getElem?_cons_succ,
    List.getElem?_cons_zero]

/-- A location status has been written into a context's record j, and the record rewritten (R117, R140). -/
structure LocationWritten (s u : State) (j : Fin 12) (v : LocStatus) : Prop where
  own : u.record j = { s.record j with location := v }
  others : ∀ k, k ≠ j → u.record k = s.record k
  revision : u.mem.num (0x1000 + 256 * j.val) 2 = (s.mem.num (0x1000 + 256 * j.val) 2 + 2) % 65536
  shown : u.mem.read (0x1000 + 256 * j.val + 26) = v.code
  outside : SameOutside s u (0x1000 + 256 * j.val) 256
  frame : u = { s with recs := u.recs, mem := u.mem }

theorem writeLocation_spec {n : Cp} {s : State} {j : Fin 12} (hj : (s.ctx n).record = some j) (v : LocStatus) :
    LocationWritten s (rewriteOwn n (setLocation n v s)) j v := by
  have ht := modRecord_spec n (fun r => { r with location := v }) s
  rw [← setLocation] at ht
  generalize setLocation n v s = t at ht
  have htj : (t.ctx n).record = some j := by rw [ht.frame]; exact hj
  have htm : t.mem = s.mem := by rw [ht.frame]
  have hown := ht.own j hj
  have hu : rewriteOwn n t = t.withMem (t.mem.rewrite (0x1000 + 256 * j.val) 256 (recordContent (t.record j))) := by
    rw [rewriteOwn, htj]
    rfl
  rw [hu]
  exact {
    own := hown
    others := fun k hk => ht.others k fun e => hk (Option.some.inj (hj.symm.trans e)).symm
    revision := (Memory.num_rewrite _ _ _ _ (by decide)).trans (by rw [htm])
    shown := by
      show (t.mem.rewrite (0x1000 + 256 * j.val) 256 (recordContent (t.record j))).read _ = _
      rw [Memory.rewrite, Memory.read_place, if_pos (by omega), Nat.add_sub_cancel_left,
        List.getElem?_append_right (by simp [bytesOf])]
      refine (congrArg (·.getD 0) (recordContent_location (t.record j))).trans ?_
      rw [hown]
      rfl
    outside := fun a ha => (Memory.read_rewrite_outside _ _ _ _ _ (by omega)).trans (by rw [htm])
    frame := by rw [ht.frame]; rfl }

/-! ## The location burst -/

/-- While its call point is MUTED a lane transmits silence, no other call point having hold of it (R108). -/
theorem laneTx_of_muted {s : State} {n : Cp} {l : Lane} (hm : s.voice.muted.get n = true)
    (ho : s.voice.conn.get n.other ≠ some l) : s.laneTx l = .silence := by
  have hn : ¬s.feeds n l = true := by
    rw [State.feeds, hm, Bool.not_true, Bool.and_false]
    exact Bool.false_ne_true
  have hother : ¬s.feeds n.other l = true := by
    rw [State.feeds, decide_eq_false ho, Bool.false_and]
    exact Bool.false_ne_true
  unfold State.laneTx
  cases n with
  | p0 => exact (if_neg hn).trans (if_neg hother)
  | p1 => exact (if_neg hother).trans (if_neg hn)

/-- A group of a call point's burst has been asked of its claimed lane (R114). -/
structure GroupSent (s u : State) (n : Cp) (l : Lane) : Prop where
  burst : u.voice.burst.get n = { s.voice.burst.get n with stage := .sending, timer := none }
  otherBurst : u.voice.burst.get n.other = s.voice.burst.get n.other
  muted : u.voice.muted = s.voice.muted
  conn : u.voice.conn = s.voice.conn
  request : u.link.ctxReq.get n = some ⟨.tones, l, tonesArgs (burstGroup (s.voice.burst.get n))⟩
  frame : u = { s with voice := u.voice, link := u.link }

theorem sendGroup_spec {n : Cp} {s : State} {l : Lane} (hl : (s.ctx n).lane = some l) :
    GroupSent s (sendGroup n s) n l := by
  have hu := ctxRequest_spec n .tones (tonesArgs (burstGroup (s.voice.burst.get n)))
    (modBurst n (fun b => { b with stage := .sending, timer := none }) s)
  rw [← sendGroup] at hu
  generalize sendGroup n s = u at hu
  obtain ⟨hrequest, -⟩ := hu.own l hl
  exact {
    burst := by rw [hu.frame]; exact Duo.get_set_same _ _ _
    otherBurst := by rw [hu.frame]; exact Duo.get_set_other _ _ _
    muted := by rw [hu.frame]; rfl
    conn := by rw [hu.frame]; rfl
    request := hrequest
    frame := by rw [hu.frame]; rfl }

/-- Some location digit is above 9 (R112). -/
theorem any_above_nine_iff (ds : List Nat) : ds.any (fun d => decide (9 < d)) = true ↔ ∃ d ∈ ds, 9 < d := by
  simp only [List.any_eq_true, decide_eq_true_eq]

theorem not_any_above_nine {ds : List Nat} (h : ∀ d ∈ ds, d ≤ 9) : ¬ds.any (fun d => decide (9 < d)) = true := by
  rw [any_above_nine_iff]
  exact fun ⟨d, hd, h9⟩ => Nat.not_lt.mpr (h d hd) h9

/-- The digits of a burst, the check digit behind them (R113). -/
def Burst.prepared (ds : List Nat) : Burst :=
  { stage := .sending, digits := ds ++ [checkDigit ds], next := 0, timer := none }

/-- Without location digits there is no burst (R112). -/
theorem beginBurst_of_nil {s : State} (h : locationDigits s = []) (n : Cp) : beginBurst n s = s := by
  rw [beginBurst, h]
  rfl

/-- A digit above 9 refuses the burst (R112). -/
theorem beginBurst_of_bad {s : State} (h : ∃ d ∈ locationDigits s, 9 < d) (n : Cp) :
    beginBurst n s = setLocation n .invalid s := by
  have hne : ¬(locationDigits s).isEmpty = true := fun e => by
    rw [List.isEmpty_iff.mp e] at h
    simp at h
  rw [beginBurst, if_neg hne, if_pos ((any_above_nine_iff _).mpr h)]

/-- A location of digits 0 to 9 is prepared, the microphone muted, and the first group sent (R113, R114). -/
theorem beginBurst_of_good {s : State} (hne : locationDigits s ≠ []) (h : ∀ d ∈ locationDigits s, d ≤ 9) (n : Cp) :
    beginBurst n s
      = sendGroup n (setMute n true (modBurst n (fun _ => .prepared (locationDigits s)) s)) := by
  rw [beginBurst, if_neg (List.isEmpty_iff.not.mpr hne), if_neg (not_any_above_nine h)]
  rfl

/-- A burst has begun (R113, R114). -/
structure BurstBegun (s u : State) (n : Cp) (l : Lane) : Prop where
  burst : u.voice.burst.get n = .prepared (locationDigits s)
  otherBurst : u.voice.burst.get n.other = s.voice.burst.get n.other
  muted : u.voice.muted.get n = true
  otherMuted : u.voice.muted.get n.other = s.voice.muted.get n.other
  conn : u.voice.conn = s.voice.conn
  request : u.link.ctxReq.get n
    = some ⟨.tones, l, tonesArgs ((locationDigits s ++ [checkDigit (locationDigits s)]).take 8)⟩
  frame : u = { s with voice := u.voice, link := u.link }

theorem beginBurst_spec {s : State} {n : Cp} {l : Lane} (hl : (s.ctx n).lane = some l) (hne : locationDigits s ≠ [])
    (h : ∀ d ∈ locationDigits s, d ≤ 9) : BurstBegun s (beginBurst n s) n l := by
  rw [beginBurst_of_good hne h]
  generalize ht : setMute n true (modBurst n (fun _ => .prepared (locationDigits s)) s) = t
  have hburst : t.voice.burst = s.voice.burst.set n (.prepared (locationDigits s)) := by rw [← ht]; rfl
  have hmuted : t.voice.muted = s.voice.muted.set n true := by rw [← ht]; rfl
  have hconn : t.voice.conn = s.voice.conn := by rw [← ht]; rfl
  have hframe : t = { s with voice := t.voice } := by rw [← ht]; rfl
  clear ht
  have hown : t.voice.burst.get n = .prepared (locationDigits s) := by rw [hburst, Duo.get_set_same]
  have hu := sendGroup_spec (n := n) (s := t) (l := l) (by rw [hframe]; exact hl)
  generalize sendGroup n t = u at hu
  exact {
    burst := by rw [hu.burst, hown]; rfl
    otherBurst := by rw [hu.otherBurst, hburst, Duo.get_set_other]
    muted := by rw [hu.muted, hmuted, Duo.get_set_same]
    otherMuted := by rw [hu.muted, hmuted, Duo.get_set_other]
    conn := by rw [hu.conn, hconn]
    request := by rw [hu.request, hown]; rfl
    frame := by rw [hu.frame, hframe] }

/-- A burst has been played whole (R114): SENT stands in its record j. -/
structure BurstPlayed (s u : State) (n : Cp) (j : Fin 12) : Prop where
  burst : u.voice.burst.get n = Burst.reset
  muted : u.voice.muted.get n = false
  conn : u.voice.conn = s.voice.conn
  written : LocationWritten { s with voice := u.voice } u j .sent

theorem endBurst_spec {n : Cp} {s : State} {j : Fin 12} (hj : (s.ctx n).record = some j) :
    BurstPlayed s (endBurst n s) n j := by
  unfold endBurst
  generalize ht : setMute n false (modBurst n (fun _ => Burst.reset) s) = t
  have hburst : t.voice.burst.get n = Burst.reset := by rw [← ht]; exact Duo.get_set_same _ _ _
  have hmuted : t.voice.muted.get n = false := by rw [← ht]; exact Duo.get_set_same _ _ _
  have hconn : t.voice.conn = s.voice.conn := by rw [← ht]; rfl
  have hframe : t = { s with voice := t.voice } := by rw [← ht]; rfl
  clear ht
  have hu := writeLocation_spec (n := n) (s := t) (j := j) (by rw [hframe]; exact hj) .sent
  generalize rewriteOwn n (setLocation n .sent t) = u at hu
  have hvoice : u.voice = t.voice := by rw [hu.frame]
  exact ⟨by rw [hvoice, hburst], by rw [hvoice, hmuted], by rw [hvoice, hconn], by rw [hvoice, ← hframe]; exact hu⟩

/-! ## The end of the location delay -/

/-- The context's location delay stopped at its expiry (R27). -/
def stopDelay (n : Cp) (s : State) : State := modCtx n (fun c => { c with locTimer := none }) s

theorem endDelay_of_good {s : State} (h : ∀ d ∈ locationDigits s, d ≤ 9) (n : Cp) :
    endDelay n s = beginBurst n (stopDelay n s) := by
  rw [endDelay, if_neg (not_any_above_nine h)]
  rfl

theorem endDelay_of_bad {s : State} (h : ∃ d ∈ locationDigits s, 9 < d) (n : Cp) :
    endDelay n s = rewriteOwn n (setLocation n .invalid (stopDelay n s)) := by
  have hd : ∃ d ∈ locationDigits (stopDelay n s), 9 < d := h
  rw [endDelay, if_pos ((any_above_nine_iff _).mpr h), ← beginBurst_of_bad hd]
  rfl

end Sys2Proof.Machine

namespace Sys2Proof.Proofs
open Sys2Proof.Machine

section
variable {s : State} {n : Cp}

/-- The location delay of a connected call is over when its timer is up (R27). -/
theorem exec_locationDelayExpiry (hst : (s.ctx n).state = .connected) (ht : TimeUp s (s.ctx n).locTimer) :
    exec (.locationDelayExpiry n) s = .next (finish (endDelay n s)) := by
  have h : delayExpired s n = true := by
    rw [delayExpired, decide_eq_true hst, (timeUp_iff _ _).mp ht]
    rfl
  exact congrArg Host.Outcome.next (if_pos h)

/-- The allowance of a group is over when the millisecond count has reached its end (R114). -/
theorem exec_pacingExpiry {e : Nat} (hst : (s.voice.burst.get n).stage = .pacing)
    (ht : (s.voice.burst.get n).timer = some e) (he : e ≤ s.time.ms) :
    exec (.pacingExpiry n) s = .next (finish
      (if (burstGroup (s.voice.burst.get n)).isEmpty then endBurst n s else sendGroup n s)) := by
  have h : pacingExpired s n = true := by
    rw [pacingExpired, decide_eq_true hst, ht]
    exact decide_eq_true he
  exact congrArg Host.Outcome.next (if_pos h)

end

/-- Settles O41: the end of the delay by the three kinds of digits, the end of an allowance by what is left of them, and the
check digit by the weighted sum. -/
theorem locationBurstRunsInGroupsOfEight : Obligations.LocationBurstRunsInGroupsOfEight := by
  intro s n l hl
  refine ⟨fun hst ht => ?_, fun e group hst ht he hg => ?_, fun ds => ⟨checkDigit_le ds, ?_⟩⟩
  · have hx := exec_locationDelayExpiry hst ht
    have hctx : (stopDelay n s).ctx n = { s.ctx n with locTimer := none } := modCtx_ctx _ _ _
    have hother : (stopDelay n s).ctx n.other = s.ctx n.other := modCtx_ctx_other _ _ _
    refine ⟨fun hnil => ⟨_, hx, ?_⟩, fun j hj hbad => ⟨_, hx, ?_⟩, fun hne hgood => ⟨_, hx, ?_⟩⟩
    · have hdigits : locationDigits (stopDelay n s) = [] := hnil
      rw [endDelay_of_good (by simp [hnil]), beginBurst_of_nil hdigits]
      rfl
    · rw [endDelay_of_bad hbad]
      have hu := writeLocation_spec (n := n) (s := stopDelay n s) (j := j) (by rw [hctx]; exact hj) .invalid
      generalize rewriteOwn n _ = u at hu
      have huc : ∀ m, u.ctx m = (stopDelay n s).ctx m := fun m => by rw [hu.frame]; rfl
      exact ⟨hu.own, hu.others, hu.revision, hu.shown, hu.outside, by rw [huc, hctx], by rw [huc, hother],
        by rw [hu.frame]; rfl⟩
    · rw [endDelay_of_good hgood]
      have hu := beginBurst_spec (s := stopDelay n s) (n := n) (l := l) (by rw [hctx]; exact hl) hne hgood
      generalize beginBurst n _ = u at hu
      have huc : ∀ m, u.ctx m = (stopDelay n s).ctx m := fun m => by rw [hu.frame]; rfl
      have hconn : u.voice.conn = s.voice.conn := hu.conn
      exact ⟨hu.burst, hu.muted, hconn, hu.otherBurst, hu.otherMuted, fun group hg => hg ▸ hu.request,
        fun hc ho => ⟨laneTx_of_muted hu.muted (by rw [hconn]; exact ho), cpEar_of_conn (by rw [hconn]; exact hc)⟩,
        by rw [huc, hctx], by rw [huc, hother], by rw [hu.frame]; rfl⟩
  · have hx := exec_pacingExpiry hst ht he
    have hgroup : group = burstGroup (s.voice.burst.get n) := hg
    refine ⟨fun hne => ⟨_, hx, ?_⟩, fun j hnil hj => ⟨_, hx, ?_⟩⟩
    · rw [if_neg (List.isEmpty_iff.not.mpr (hgroup ▸ hne))]
      have hu := sendGroup_spec hl
      exact ⟨hu.burst, hu.muted, hu.conn, hgroup ▸ hu.request, hu.frame⟩
    · rw [if_pos (List.isEmpty_iff.mpr (hgroup ▸ hnil))]
      have hu := endBurst_spec hj
      have hw := hu.written
      exact ⟨hu.burst, hu.muted, hu.conn,
        fun hc ho => laneTx_of_conn (by rw [hu.conn]; exact hc) hu.muted (by rw [hu.conn]; exact ho), hw.own, hw.others,
        hw.revision, hw.shown, hw.outside, hw.frame⟩
  · have hsum := weightedSum_eq_mapIdx_sum ds 0
    exact hsum ▸ weightedSum_add_checkDigit ds

end Sys2Proof.Proofs
end

section
namespace Sys2Proof.Machine

/-! ## Bits packed into words -/

theorem packBits_testBit (bs : List Bool) (k : Nat) : (packBits bs).testBit k = (bs[k]?).getD false := by
  induction bs generalizing k with
  | nil => simp [packBits]
  | cons b bs ih =>
    cases k with
    | zero => cases b <;> simp [packBits]
    | succ k =>
      rw [Nat.testBit_succ, List.getElem?_cons_succ, ← ih]
      congr 1
      cases b <;> simp only [packBits, Bool.false_eq_true, if_false, if_true] <;> omega

/-- A bit of a word packed from one value for each number below its width. -/
theorem packed_getLsbD {n : Nat} {l : List (Fin n)} (hl : l = List.finRange n) (f : Fin n → Bool) (k : Fin n) :
    (BitVec.ofNat n (packBits (l.map f))).getLsbD k.val = f k := by
  have hk : (List.finRange n)[k.val]? = some k := by simp
  rw [BitVec.getLsbD_ofNat, decide_eq_true k.isLt, Bool.true_and, packBits_testBit, List.getElem?_map, hl, hk]
  rfl

theorem lineIndexes_eq : lineIndexes = List.finRange 12 := by decide

theorem cellIndexes_eq : cellIndexes = List.finRange 8 := by decide

theorem fnIndexes_eq : ([0, 1, 2, 3, 4, 5] : List (Fin 6)) = List.finRange 6 := by decide

theorem setLevel_getLsbD (levels : BitVec 12) (i : Fin 12) (v : Bool) (k : Fin 12) :
    (setLevel levels i v).getLsbD k.val = if k = i then v else levels.getLsbD k.val :=
  packed_getLsbD lineIndexes_eq _ k

@[simp] theorem setLevel_same (levels : BitVec 12) (i : Fin 12) (v : Bool) :
    (setLevel levels i v).getLsbD i.val = v := by
  rw [setLevel_getLsbD, if_pos rfl]

theorem setLevel_of_ne {i k : Fin 12} (h : k ≠ i) (levels : BitVec 12) (v : Bool) :
    (setLevel levels i v).getLsbD k.val = levels.getLsbD k.val := by
  rw [setLevel_getLsbD, if_neg h]

/-! ## The loop check -/

/-- A cell depends at once on another through one of its inputs, a cell or an OUTPUT line whose source is one (R131). -/
def DependsOn (c : MatrixCfg) (x y : Fin 8) : Prop := y ∈ cellDeps c x

section
variable {c : MatrixCfg} {x y : Fin 8}

theorem mem_reachCells_succ (k : Nat) (found : List (Fin 8)) :
    y ∈ reachCells c (k + 1) found ↔ y ∈ reachCells c k found ∨ ∃ z ∈ reachCells c k found, DependsOn c z y := by
  induction k generalizing found with
  | zero =>
    simp [reachCells, cellIndexes_eq, DependsOn]
  | succ k ih => exact ih _

theorem reachCells_mono (found : List (Fin 8)) : Monotone fun k => (reachCells c k found).toFinset :=
  monotone_nat_of_le_succ fun k y hy => by
    rw [List.mem_toFinset] at hy ⊢
    exact (mem_reachCells_succ k found).mpr (.inl hy)

/-- Once a further dependency reaches no new cell, none ever does. -/
theorem reachCells_stable {k : Nat} {found : List (Fin 8)}
    (h : (reachCells c k found).toFinset = (reachCells c (k + 1) found).toFinset) :
    (reachCells c (k + 1) found).toFinset = (reachCells c (k + 2) found).toFinset := by
  have hmem : ∀ y, y ∈ reachCells c k found ↔ y ∈ reachCells c (k + 1) found := fun y => by
    simpa using Finset.ext_iff.mp h y
  ext y
  rw [List.mem_toFinset, List.mem_toFinset, mem_reachCells_succ, mem_reachCells_succ (k + 1)]
  simp only [hmem]

/-- Eight dependencies reach all that any number of them reach, since there are eight cells. -/
theorem reachCells_nine (found : List (Fin 8)) :
    (reachCells c 8 found).toFinset = (reachCells c 9 found).toFinset := by
  have hmono := reachCells_mono (c := c) found
  have hcard : (reachCells c 9 found).toFinset.card = (reachCells c 8 found).toFinset.card :=
    Nat.stabilises_of_monotone (f := fun k => (reachCells c k found).toFinset.card)
      (fun a b h => Finset.card_le_card (hmono h)) (fun m => Finset.card_le_univ _)
      (fun m h => by
        have hk := Finset.eq_of_subset_of_card_le (hmono (Nat.le_succ m)) h.ge
        exact congrArg Finset.card (reachCells_stable hk)) (by decide)
  exact Finset.eq_of_subset_of_card_le (hmono (by decide)) hcard.le

theorem reachCells_sound {k : Nat} {found : List (Fin 8)} (h : y ∈ reachCells c k found) :
    ∃ z ∈ found, Relation.ReflTransGen (DependsOn c) z y := by
  induction k generalizing y with
  | zero => exact ⟨y, h, .refl⟩
  | succ k ih =>
    rcases (mem_reachCells_succ k found).mp h with h | ⟨z, hz, hzy⟩
    · exact ih h
    · obtain ⟨w, hw, hwz⟩ := ih hz
      exact ⟨w, hw, hwz.tail hzy⟩

theorem reachCells_closed {found : List (Fin 8)} {z : Fin 8} (hz : z ∈ found)
    (h : Relation.ReflTransGen (DependsOn c) z y) : y ∈ reachCells c 8 found := by
  induction h with
  | refl => exact List.mem_toFinset.mp (reachCells_mono found (Nat.zero_le 8) (List.mem_toFinset.mpr hz))
  | tail _ hd ih =>
    have h9 : _ ∈ reachCells c 9 found := (mem_reachCells_succ 8 found).mpr (.inr ⟨_, ih, hd⟩)
    rw [← List.mem_toFinset, ← reachCells_nine] at h9
    exact List.mem_toFinset.mp h9

/-- What the check reaches from a cell's inputs is what the cell depends on, directly or through others (R131). -/
theorem mem_reachCells_cellDeps : y ∈ reachCells c 8 (cellDeps c x) ↔ Relation.TransGen (DependsOn c) x y := by
  rw [Relation.TransGen.head'_iff]
  exact ⟨reachCells_sound, fun ⟨z, hz, h⟩ => reachCells_closed hz h⟩

/-- The check finds on a cycle the cells that depend on themselves (R131). -/
theorem onCycle_iff : onCycle c x = true ↔ Relation.TransGen (DependsOn c) x x := by
  rw [onCycle, decide_eq_true_eq, mem_reachCells_cellDeps]

theorem firstCycle_eq_some_iff : firstCycle c = some x ↔ Relation.TransGen (DependsOn c) x x
    ∧ ∀ k, k < x → ¬Relation.TransGen (DependsOn c) k k := by
  rw [firstCycle, cellIndexes_eq, List.find?_eq_some_iff_getElem, onCycle_iff]
  refine and_congr_right fun _ => ⟨fun ⟨i, hi, hx, h⟩ k hk => ?_, fun h => ⟨x.val, by simp, by simp, fun j hj => ?_⟩⟩
  · have hxi : x.val = i := by simp [← hx]
    have hf := h k.val (hxi ▸ hk)
    rw [← onCycle_iff]
    simpa using hf
  · have hj8 : j < 8 := hj.trans x.isLt
    have hn := h ⟨j, hj8⟩ hj
    rw [← onCycle_iff] at hn
    simpa using hn

theorem firstCycle_eq_none_iff : firstCycle c = none ↔ ∀ j, ¬Relation.TransGen (DependsOn c) j j := by
  rw [firstCycle, cellIndexes_eq, List.find?_eq_none]
  exact ⟨fun h j => by rw [← onCycle_iff]; exact h j (List.mem_finRange j), fun h j _ => by rw [onCycle_iff]; exact h j⟩

/-! ## The cells that a cell depends on, counted -/

/-- The cells that a cell depends on, directly or through others (R131). -/
def descendants (c : MatrixCfg) (j : Fin 8) : Finset (Fin 8) := (reachCells c 8 (cellDeps c j)).toFinset

theorem mem_descendants : y ∈ descendants c x ↔ Relation.TransGen (DependsOn c) x y := by
  rw [descendants, List.mem_toFinset, mem_reachCells_cellDeps]

/-- Without a cycle a cell depends on fewer cells than one that depends on it. -/
theorem descendants_card_lt (hc : ∀ j, ¬Relation.TransGen (DependsOn c) j j) (h : DependsOn c x y) :
    (descendants c y).card < (descendants c x).card := by
  refine Finset.card_lt_card (Finset.ssubset_iff_subset_ne.mpr ⟨fun z hz => ?_, fun he => ?_⟩)
  · exact mem_descendants.mpr (.head h (mem_descendants.mp hz))
  · exact hc y (mem_descendants.mp (he ▸ mem_descendants.mpr (.single h)))

/-- Without a cycle a cell depends on seven cells at most. -/
theorem descendants_card_lt_eight (hc : ∀ j, ¬Relation.TransGen (DependsOn c) j j) (j : Fin 8) :
    (descendants c j).card < 8 := by
  have hj : j ∉ descendants c j := fun h => hc j (mem_descendants.mp h)
  exact (Finset.card_lt_univ_of_notMem hj).trans_eq (Fintype.card_fin 8)

end

end Sys2Proof.Machine

namespace Sys2Proof.Proofs
open Sys2Proof.Machine

/-- Settles O23, by what the check finds on a cycle and the order in which it looks at the cells. -/
theorem loopCheckFindsTheFirstCycle : Obligations.LoopCheckFindsTheFirstCycle :=
  fun _ => ⟨fun _ => firstCycle_eq_some_iff, firstCycle_eq_none_iff⟩

end Sys2Proof.Proofs
end

section
namespace Sys2Proof

theorem Duo.get_set_of_ne {α : Type} (d : Duo α) {n k : Cp} (h : k ≠ n) (a : α) : (d.set n a).get k = d.get k := by
  cases n <;> cases k <;> simp_all [Duo.get, Duo.set]

end Sys2Proof

namespace Sys2Proof.Machine

/-! ## The cells after an evaluation -/

section
variable {m : Matrix} {cells cells' : BitVec 8} {j : Fin 8}

theorem lineValue_congr {i : Fin 12}
    (h : ∀ y ∈ (Src.line i).cells m.config, cells.getLsbD y.val = cells'.getLsbD y.val) :
    m.lineValue cells i = m.lineValue cells' i := by
  simp only [Src.cells] at h
  unfold Matrix.lineValue
  cases hi : m.config.lines[i] with
  | unused => rfl
  | input cls p => rfl
  | output src =>
    rw [hi] at h
    cases src with
    | cell k => exact h k (List.mem_singleton_self k)
    | _ => rfl

/-- The value of a source follows the cells that it depends on alone. -/
theorem srcValue_congr {x : Src} (h : ∀ y ∈ x.cells m.config, cells.getLsbD y.val = cells'.getLsbD y.val) :
    m.srcValue cells x = m.srcValue cells' x := by
  cases x with
  | line i => exact lineValue_congr h
  | cell k => exact h k (List.mem_singleton_self k)
  | _ => rfl

theorem cellOutput_congr (h : ∀ y, DependsOn m.config j y → cells.getLsbD y.val = cells'.getLsbD y.val) :
    m.cellOutput cells j = m.cellOutput cells' j := by
  have ha := srcValue_congr (m := m) (x := m.config.cells[j].a) fun y hy => h y (List.mem_append_left _ hy)
  have hb := srcValue_congr (m := m) (x := m.config.cells[j].b) fun y hy => h y (List.mem_append_right _ hy)
  simp only [Matrix.cellOutput, ha, hb]

theorem cellSweep_getLsbD (m : Matrix) (cells : BitVec 8) (j : Fin 8) :
    (m.cellSweep cells).getLsbD j.val = m.cellOutput cells j := packed_getLsbD cellIndexes_eq _ j

theorem evalCells_eq_iterate (m : Matrix) (k : Nat) (cells : BitVec 8) :
    m.evalCells k cells = m.cellSweep^[k] cells := by
  induction k generalizing cells with
  | zero => rfl
  | succ k ih => exact ih _

/-- A cell stands after more sweeps than there are cells that it depends on. -/
theorem cellSweep_settles (hc : firstCycle m.config = none) {k : Nat} (hk : (descendants m.config j).card < k) :
    (m.cellSweep^[k + 1] cells).getLsbD j.val = (m.cellSweep^[k] cells).getLsbD j.val := by
  induction k generalizing j with
  | zero => omega
  | succ k ih =>
    rw [Function.iterate_succ_apply', cellSweep_getLsbD, Function.iterate_succ_apply' _ k, cellSweep_getLsbD]
    refine cellOutput_congr fun y hy => ?_
    rw [← Function.iterate_succ_apply' m.cellSweep k cells]
    have hlt := descendants_card_lt (firstCycle_eq_none_iff.mp hc) hy
    exact ih (by omega)

/-- Without a cycle an evaluation gives every cell the output of its inputs as they then stand (R126). -/
theorem evaluated_cell (hc : firstCycle m.config = none) (j : Fin 8) :
    m.evaluated.cells.getLsbD j.val = m.cellOutput m.evaluated.cells j := by
  have he : m.evaluated.cells = m.cellSweep^[8] m.cells := evalCells_eq_iterate m 8 m.cells
  rw [he, ← cellSweep_getLsbD, ← Function.iterate_succ_apply' m.cellSweep 8]
  exact (cellSweep_settles hc (descendants_card_lt_eight (firstCycle_eq_none_iff.mp hc) j)).symm

/-- The output of a cell by its type (R125). -/
theorem gate_cases (j : Nat) (old a b : Bool) :
    (j ≤ 1 → gate j old a b = (a && b)) ∧ (j = 2 → gate j old a b = !(a && b))
      ∧ (j = 3 ∨ j = 4 → gate j old a b = (a || b)) ∧ (j = 5 → gate j old a b = (a != b))
      ∧ (6 ≤ j → gate j old a b = if b then false else if a then true else old) := by
  refine ⟨fun h => if_pos h, fun h => ?_, fun h => ?_, fun h => ?_, fun h => ?_⟩
  · rw [h]; rfl
  · rcases h with rfl | rfl <;> rfl
  · rw [h]; rfl
  · rw [gate, if_neg (by omega), if_neg (by omega), if_neg (by omega), if_neg (by omega)]

end

/-! ## The trigger functions -/

theorem fnValues_getLsbD (m : Matrix) (cells : BitVec 8) (f : Fin 6) :
    (m.fnValues cells).getLsbD f.val = m.bindValue cells m.config.binds[f] := packed_getLsbD fnIndexes_eq _ f

/-- What an evaluation changes: the cells, the functions, the rises handed over in the functions' order (R126, R127). -/
theorem evaluated_eq (m : Matrix) : m.evaluated = { m with
    cells := m.evaluated.cells, fns := m.fnValues m.evaluated.cells
    raised := m.raised ++ rises m.fns (m.fnValues m.evaluated.cells), unshown := m.evaluated.unshown } := by
  unfold Matrix.evaluated Matrix.computed
  rfl

theorem evaluated_fns (m : Matrix) : m.evaluated.fns = m.fnValues m.evaluated.cells := by
  rw [evaluated_eq]

theorem evaluated_raised (m : Matrix) : m.evaluated.raised = m.raised ++ rises m.fns m.evaluated.fns := by
  rw [evaluated_eq]

/-! ## The sources outside the matrix -/

section
variable {s : State} {m : Matrix} {x y : OuterSource} {l : List OuterSource}

theorem value_put_same (v : Sources) (b : Bool) (x : OuterSource) : (v.put b x).value x = b := by
  cases x with
  | active n => exact Duo.get_set_same _ _ _
  | critical => rfl
  | line i => exact setLevel_same _ _ _

theorem value_put_of_ne (v : Sources) (b : Bool) (h : y ≠ x) : (v.put b x).value y = v.value y := by
  cases x with
  | active n =>
    cases y with
    | active k => exact Duo.get_set_of_ne _ (fun e => h (congrArg OuterSource.active e)) _
    | critical => rfl
    | line k => rfl
  | critical =>
    cases y with
    | active k => rfl
    | critical => exact absurd rfl h
    | line k => rfl
  | line i =>
    cases y with
    | active k => simp only [Sources.put, Sources.value]
    | critical => simp only [Sources.put, Sources.value]
    | line k => exact setLevel_of_ne (fun e => h (congrArg OuterSource.line e)) _ _

theorem takeSource_config (s : State) (m : Matrix) (x : OuterSource) : (takeSource s m x).config = m.config := by
  rcases takeSource_cases s m x with ⟨-, e⟩ | ⟨-, e⟩ <;> rw [e]
  exact evaluated_config _

/-- A source taken stands as it is; every other one is as it was taken (R126). -/
theorem takeSource_value (s : State) (m : Matrix) (x y : OuterSource) : (takeSource s m x).sources.value y =
    if y = x then presentValue s m.config y else m.sources.value y := by
  rcases takeSource_cases s m x with ⟨hx, e⟩ | ⟨-, e⟩
  · rw [e]
    split
    next h => rw [h, hx]
    next => rfl
  · rw [e, evaluated_sources]
    split
    next h => rw [h, value_put_same]
    next h => exact value_put_of_ne _ _ h

theorem takeSources_value (s : State) (m : Matrix) (l : List OuterSource) (x : OuterSource) :
    (l.foldl (takeSource s) m).sources.value x = if x ∈ l then presentValue s m.config x else m.sources.value x := by
  induction l generalizing m with
  | nil => rfl
  | cons c l ih =>
    rw [List.foldl_cons, ih, takeSource_config, takeSource_value]
    by_cases hl : x ∈ l <;> by_cases hc : x = c <;> simp [hl, hc]

/-- Where no source has changed there is no evaluation (R126). -/
theorem takeSources_unchanged (h : ∀ x ∈ l, m.sources.value x = presentValue s m.config x) :
    l.foldl (takeSource s) m = m := by
  induction l with
  | nil => rfl
  | cons c l ih =>
    have hc : takeSource s m c = m := if_pos (h c List.mem_cons_self)
    rw [List.foldl_cons, hc]
    exact ih fun x hx => h x (List.mem_cons_of_mem c hx)

/-- Where one source alone has changed there is one evaluation (R126). -/
theorem takeSources_one (hx : x ∈ l)
    (h : ∀ y ∈ l, y ≠ x → m.sources.value y = presentValue s m.config y) :
    l.foldl (takeSource s) m = takeSource s m x := by
  induction l with
  | nil => exact absurd hx List.not_mem_nil
  | cons c l ih =>
    rw [List.foldl_cons]
    by_cases hc : c = x
    · rw [hc]
      refine takeSources_unchanged fun y hy => ?_
      rw [takeSource_config, takeSource_value]
      split
      next => rfl
      next hyx => exact h y (List.mem_cons_of_mem c hy) hyx
    · have hm : takeSource s m c = m := if_pos (h c List.mem_cons_self hc)
      rw [hm]
      exact ih ((List.mem_cons.mp hx).resolve_left fun e => hc e.symm) fun y hy => h y (List.mem_cons_of_mem c hy)

end

end Sys2Proof.Machine

namespace Sys2Proof.Proofs
open Sys2Proof.Machine

/-- Settles O33, by the cells after an evaluation, the functions over them, and the sources taken one by one. -/
theorem evaluationGivesEveryCellItsOutput : Obligations.EvaluationGivesEveryCellItsOutput := by
  refine ⟨fun m hc j => ?_, fun m => ⟨fun f => ?_, evaluated_raised m, ?_⟩, fun s => ⟨fun x hx => ?_, fun h => ?_,
    fun x hx hne h => ?_⟩⟩
  · have hcell := evaluated_cell hc j
    rw [Matrix.cellOutput] at hcell
    dsimp only
    rw [hcell]
    exact gate_cases _ _ _ _
  · rw [evaluated_fns]
    exact fnValues_getLsbD m _ f
  · rw [evaluated_raised, evaluated_fns]
    exact evaluated_eq m
  · rw [evalMatrix_matrix, takeSources_value, if_pos hx]
  · exact congrArg s.withMatrix (takeSources_unchanged h)
  · rw [evalMatrix_matrix, takeSources_one hx h]
    exact if_neg hne

end Sys2Proof.Proofs
end

section
namespace Sys2Proof.Machine

/-! ## The publication of the matrix -/

/-- Of the matrix the publication of the part status block clears the evaluations still to be shown, and nothing else
(R159). -/
theorem flushStatus_matrix (s : State) : (flushStatus s).matrix = { s.matrix with unshown := 0 } := by
  rcases flushStatus_cases s with ⟨h, -, e⟩ | ⟨h, -, e⟩ | ⟨-, e⟩
  · rw [e, ← h]
  · rw [e, ← h]
    rfl
  · obtain ⟨hframe, -⟩ := rewriteStatuses_spec s.matrix.unshown (modMatrix (fun m => { m with unshown := 0 }) s)
    rw [e, hframe]
    rfl

/-! ## Field lines -/

section
variable {s : State} {i k : Fin 12} {cls : Fin 4} {p : Bool}

theorem sampledLevel_of_input (hi : s.matrix.config.lines[i] = .input cls p) :
    sampledLevel s i = (s.env.pins.getLsbD i.val != p) := by
  rw [sampledLevel, hi]

theorem fieldPin_of_unused (hr : s.env.resetLow = false) (hi : s.matrix.config.lines[i] = .unused) :
    s.fieldPin i = .highImpedance := by
  rw [State.fieldPin, hr, if_neg Bool.false_ne_true, hi]

theorem fieldPin_of_input (hr : s.env.resetLow = false) (hi : s.matrix.config.lines[i] = .input cls p) :
    s.fieldPin i = .pulledUp := by
  rw [State.fieldPin, hr, if_neg Bool.false_ne_true, hi]

/-- The debouncing of a field line may have changed; nothing outside the matrix has, and no other line (R122). -/
structure LineFollowed (s u : State) (i : Fin 12) : Prop where
  others : ∀ k, k ≠ i → u.matrix.debounced.getLsbD k.val = s.matrix.debounced.getLsbD k.val
    ∧ u.matrix.timers[k] = s.matrix.timers[k]
  config : u.matrix.config = s.matrix.config
  loaded : u.matrix.loaded = s.matrix.loaded
  sources : u.matrix.sources = s.matrix.sources
  frame : u = { s with matrix := u.matrix }

theorem LineFollowed.refl (s : State) (i : Fin 12) : LineFollowed s s i := ⟨fun _ _ => ⟨rfl, rfl⟩, rfl, rfl, rfl, rfl⟩

theorem setDebounce_timer_same (i : Fin 12) (t : Option Nat) (s : State) : (setDebounce i t s).matrix.timers[i] = t :=
  Vector.getElem_set_self _

theorem timers_set_of_ne (h : k ≠ i) (v : Vector (Option Nat) 12) (t : Option Nat) : (v.set i t)[k] = v[k] :=
  Vector.getElem_set_ne i.isLt k.isLt fun e => h (Fin.ext e.symm)

theorem setDebounce_followed (i : Fin 12) (t : Option Nat) (s : State) : LineFollowed s (setDebounce i t s) i :=
  ⟨fun _ hk => ⟨rfl, timers_set_of_ne hk _ _⟩, rfl, rfl, rfl, rfl⟩

/-- A line's debounced level has taken the sampled one, its timer is stopped, and the matrix has been evaluated, each
rise of a function handed over (R122, R126, R127). -/
structure LevelTaken (s u : State) (i : Fin 12) : Prop where
  timer : u.matrix.timers[i] = none
  level : u.matrix.debounced.getLsbD i.val = sampledLevel s i
  raised : u.matrix.raised = s.matrix.raised ++ rises s.matrix.fns u.matrix.fns
  followed : LineFollowed s u i

/-- The timer of a line stops and its debounced level takes the sampled one (R122). -/
def stopAndTake (i : Fin 12) (s : State) : State := takeLevel i (setDebounce i none s)

theorem stopAndTake_matrix (i : Fin 12) (s : State) : (stopAndTake i s).matrix = Matrix.evaluated { s.matrix with
    timers := s.matrix.timers.set i none, debounced := setLevel s.matrix.debounced i (sampledLevel s i) } := rfl

theorem stopAndTake_spec (i : Fin 12) (s : State) : LevelTaken s (stopAndTake i s) i := by
  have hm := stopAndTake_matrix i s
  have hf : stopAndTake i s = { s with matrix := (stopAndTake i s).matrix } := rfl
  generalize stopAndTake i s = u at hm hf
  have ht : u.matrix.timers = s.matrix.timers.set i none := by rw [hm, evaluated_timers]
  have hd : u.matrix.debounced = setLevel s.matrix.debounced i (sampledLevel s i) := by rw [hm, evaluated_debounced]
  exact {
    timer := by rw [ht]; exact Vector.getElem_set_self _
    level := by rw [hd, setLevel_same]
    raised := by rw [hm, evaluated_raised]
    followed := {
      others := fun k hk => by
        rw [hd, ht]
        exact ⟨setLevel_of_ne hk _ _, timers_set_of_ne hk _ _⟩
      config := by rw [hm, evaluated_config]
      loaded := by rw [hm, evaluated_loaded]
      sources := by rw [hm, evaluated_sources]
      frame := hf } }

/-! ### What a change of the pin does -/

theorem pinChanged_of_not_input (h : ∀ cls p, s.matrix.config.lines[i] ≠ .input cls p) : pinChanged i s = s := by
  unfold pinChanged
  cases hi : s.matrix.config.lines[i] with
  | unused => rfl
  | input cls p => exact absurd hi (h cls p)
  | output src => rfl

theorem pinChanged_of_input (hi : s.matrix.config.lines[i] = .input cls p) : pinChanged i s =
    if sampledLevel s i = s.matrix.debounced.getLsbD i.val then setDebounce i none s
    else if debounceMs cls = 0 then stopAndTake i s
    else if (s.matrix.timers[i]).isSome then s
    else setDebounce i (some (s.time.ms + debounceMs cls)) s := by
  rw [pinChanged, hi]
  rfl

theorem sampledLevel_setPin (level : Bool) (hi : s.matrix.config.lines[i] = .input cls p) :
    sampledLevel (setPin i level s) i = (level != p) := by
  rw [sampledLevel_of_input (s := setPin i level s) hi]
  exact congrArg (· != p) (setLevel_same _ _ _)

/-- Class 0 alone is taken without debouncing (R122). -/
theorem debounceMs_eq_zero_iff (cls : Fin 4) : debounceMs cls = 0 ↔ cls = 0 := by revert cls; decide

theorem debounceMs_of_ne {cls : Fin 4} (h : cls ≠ 0) :
    debounceMs cls = if cls = 1 then 20 else if cls = 2 then 80 else 300 := by revert cls; decide

/-- What a change of its pin does on an INPUT line of a class (R122): a level that has come back stops the timer; another
is taken at once in class 0, and else starts the timer unless it runs. -/
structure InputFollowed (s u : State) (i : Fin 12) (cls : Fin 4) : Prop where
  back : sampledLevel s i = s.matrix.debounced.getLsbD i.val →
    u.matrix.timers[i] = none ∧ u.matrix = { s.matrix with timers := u.matrix.timers }
  atOnce : sampledLevel s i ≠ s.matrix.debounced.getLsbD i.val → cls = 0 → LevelTaken s u i
  debounces : sampledLevel s i ≠ s.matrix.debounced.getLsbD i.val → cls ≠ 0 →
    u.matrix = { s.matrix with timers := u.matrix.timers }
      ∧ ((s.matrix.timers[i]).isSome = true → u.matrix.timers[i] = s.matrix.timers[i])
      ∧ (s.matrix.timers[i] = none → u.matrix.timers[i] =
          some (s.time.ms + (if cls = 1 then 20 else if cls = 2 then 80 else 300)))

theorem pinChanged_input (hi : s.matrix.config.lines[i] = .input cls p) : InputFollowed s (pinChanged i s) i cls where
  back h := by
    rw [pinChanged_of_input hi, if_pos h]
    exact ⟨setDebounce_timer_same i none s, rfl⟩
  atOnce h hc := by
    rw [pinChanged_of_input hi, if_neg h, if_pos ((debounceMs_eq_zero_iff cls).mpr hc)]
    exact stopAndTake_spec i s
  debounces h hc := by
    rw [pinChanged_of_input hi, if_neg h, if_neg ((debounceMs_eq_zero_iff cls).not.mpr hc), ← debounceMs_of_ne hc]
    by_cases hrun : (s.matrix.timers[i]).isSome = true
    · rw [if_pos hrun]
      exact ⟨rfl, fun _ => rfl, fun hstop => by rw [hstop] at hrun; cases hrun⟩
    · rw [if_neg hrun]
      exact ⟨rfl, fun h => absurd h hrun, fun _ => setDebounce_timer_same i _ s⟩

theorem pinChanged_followed (i : Fin 12) (s : State) : LineFollowed s (pinChanged i s) i := by
  by_cases h : ∃ cls p, s.matrix.config.lines[i] = .input cls p
  · obtain ⟨cls, p, hi⟩ := h
    rw [pinChanged_of_input hi]
    split
    · exact setDebounce_followed i none s
    split
    · exact (stopAndTake_spec i s).followed
    split
    · exact .refl s i
    · exact setDebounce_followed i _ s
  · rw [pinChanged_of_not_input (by simpa using h)]
    exact .refl s i

end

end Sys2Proof.Machine

namespace Sys2Proof.Proofs
open Sys2Proof.Machine

/-- Settles O31, by the group of the line, whether its level differs from the debounced one, and its class. -/
theorem fieldLineChangesAreDebounced : Obligations.FieldLineChangesAreDebounced := by
  intro s i level
  refine ⟨_, rfl, ?_⟩
  have hinput := fun cls p => pinChanged_input (s := setPin i level s) (i := i) (cls := cls) (p := p)
  have hsampled := fun cls p => sampledLevel_setPin (s := s) (i := i) (cls := cls) (p := p) level
  have hother := pinChanged_of_not_input (s := setPin i level s) (i := i)
  have hwenv : (setPin i level s).env = { s.env with pins := setLevel s.env.pins i level } := rfl
  have hwf : setPin i level s = { s with env := (setPin i level s).env } := rfl
  generalize setPin i level s = w at hinput hsampled hother hwenv hwf ⊢
  have hwm : w.matrix = s.matrix := by rw [hwf]
  have hu := pinChanged_followed i w
  generalize pinChanged i w = u at hinput hother hu ⊢
  have henv : u.env = { s.env with pins := setLevel s.env.pins i level } := by rw [hu.frame, hwenv]
  have hm := flushStatus_matrix u
  have ht := flushStatus_spec u
  generalize flushStatus u = t at hm ht
  have hframe : t = { s with env := t.env, matrix := t.matrix, mem := t.mem } := by rw [ht.frame, hu.frame, hwf]
  have hte : t.env = u.env := by rw [ht.frame]
  have hlines : t.matrix.config.lines[i] = s.matrix.config.lines[i] := by rw [hm, hu.config, hwm]
  have hreset : t.env.resetLow = s.env.resetLow := by rw [hte, henv]
  have hmem : u.mem = s.mem := by rw [hu.frame, hwf]
  refine ⟨by rw [hte, henv], by rw [hte, henv, setLevel_same], fun k hk => ?_, fun a ha => ?_, hframe,
    by rw [hm, ← hwm]; exact hu.sources, by rw [hm], fun hr => ⟨fun hi => ?_, fun cls p hi => ?_⟩, fun hi => ?_,
    fun cls p hi => ⟨fun hsame => ?_, fun hne => ⟨fun hc => ?_, fun hc => ?_⟩⟩⟩
  · rw [hte, henv, hm, ← hwm]
    exact ⟨setLevel_of_ne hk _ _, hu.others k hk⟩
  · rw [ht.outside a (by omega), hmem]
  · exact fieldPin_of_unused (hreset.trans hr) (hlines.trans hi)
  · exact fieldPin_of_input (hreset.trans hr) (hlines.trans hi)
  · rw [hm, hother (by rwa [hwm]), hwm]
  · obtain ⟨hstopped, hkept⟩ := (hinput cls p (by rwa [hwm])).back (by rwa [hsampled cls p hi, hwm])
    rw [hm]
    exact ⟨hstopped, by rw [hkept, hwm]⟩
  · have hl := (hinput cls p (by rwa [hwm])).atOnce (by rwa [hsampled cls p hi, hwm]) hc
    rw [hm, ← hwm]
    exact ⟨hl.timer, hl.level.trans (hsampled cls p hi), hl.raised⟩
  · obtain ⟨hkept, hruns, hstarts⟩ :=
      (hinput cls p (by rwa [hwm])).debounces (by rwa [hsampled cls p hi, hwm]) hc
    have hwt : w.time = s.time := by rw [hwf]
    rw [hwm] at hruns hstarts
    rw [hwt] at hstarts
    rw [hm]
    exact ⟨by rw [hkept, hwm], hruns, hstarts⟩

/-- Settles O32, by whether the timer has expired. -/
theorem debounceExpiryTakesTheLevel : Obligations.DebounceExpiryTakesTheLevel := by
  intro s i
  refine ⟨fun e cls p ht he hi => ?_, fun h => ?_⟩
  · have hdue : expiredMs s.time.ms s.matrix.timers[i] = true := by rw [ht]; exact decide_eq_true he
    refine ⟨_, congrArg Host.Outcome.next (if_pos hdue), ?_⟩
    have hu : LevelTaken s (takeLevel i (setDebounce i none s)) i := stopAndTake_spec i s
    generalize takeLevel i (setDebounce i none s) = u at hu
    have hm := flushStatus_matrix u
    have ht := flushStatus_spec u
    generalize flushStatus u = t at hm ht
    have hf := hu.followed
    have hmem : u.mem = s.mem := by rw [hf.frame]
    beta_reduce
    rw [hm]
    exact ⟨hu.timer, by rw [hu.level, sampledLevel_of_input hi], hf.others, hf.config, hf.loaded, hf.sources, rfl,
      hu.raised, fun a ha => by rw [ht.outside a (by omega), hmem], by rw [ht.frame, hm, hf.frame]⟩
  · have hdue : ¬expiredMs s.time.ms s.matrix.timers[i] = true := by
      cases ht : s.matrix.timers[i] with
      | none => exact Bool.false_ne_true
      | some e => exact decide_eq_true_iff.not.mpr (Nat.not_le.mpr (h e ht))
    exact congrArg Host.Outcome.next (if_neg hdue)

end Sys2Proof.Proofs
end

section
namespace Sys2Proof.Machine

/-! ## What the end of a test call hands over -/

section
variable {s u : State} {n : Cp} {o : CallOutcome}

theorem startCall_grows (n : Cp) (kind : CallKind) (source : CallSource) (number : Option (Fin 4)) (hold : Bool)
    (s : State) : s.matrix.Grows (startCall n kind source number hold s).matrix := by
  cases hj : chooseRecord s with
  | some j => exact (startCall_spec hj n kind source number hold).grows
  | none =>
    have hopen : openRecord n kind source s = s := by unfold openRecord; rw [hj]
    unfold startCall
    rw [hopen]
    exact (setState_spec n .selecting (modCtx n _ s)).grows

theorem clearPendingClaim_matrix (n : Cp) (s : State) : (clearPendingClaim n s).matrix = s.matrix := by
  rw [(clearPendingClaim_spec n s).frame]

/-- The end of a call leaves the matrix at most some evaluations further on (R11, R126). -/
theorem endCall_grows (n : Cp) (o : CallOutcome) (s : State) : s.matrix.Grows (endCall n o s).matrix := by
  have hr := modRecord_spec n (fun r => { r with last := some o }) (dropRescan n (dropRequest n s))
  have ht := endAttempt_spec n o (setLast n o (dropRescan n (dropRequest n s)))
  have hm : (endAttempt n o (setLast n o (dropRescan n (dropRequest n s)))).matrix = s.matrix := by
    rw [ht.frame, setLast, hr.frame]
    rfl
  unfold endCall
  generalize endAttempt n o (setLast n o (dropRescan n (dropRequest n s))) = t at hm
  rw [← hm]
  dsimp only
  split
  · split
    · exact (toIdle_spec n _ t).grows
    · exact (setState_spec n .callbackWatch (stopTimers n t)).grows
  · exact clearPendingClaim_matrix n t ▸ (toIdle_spec n _ (clearPendingClaim n t)).grows

theorem finishTeardown_grows (n : Cp) (o : CallOutcome) (s : State) : s.matrix.Grows (finishTeardown n o s).matrix := by
  by_cases he : (s.ctx n).emergencyStart = true
  · rw [finishTeardown_of_pending he, startEmergency]
    exact (tornDown_spec n o s).grows.trans
      (startCall_grows n .emergency .matrix none false (modCtx n _ (tornDown n o s)))
  · rw [finishTeardown, if_neg he]
    exact endCall_grows n o s

theorem staleClaim_matrix (n : Cp) (s : State) : (staleClaim n s).matrix = s.matrix := by
  unfold staleClaim
  split <;> rfl

theorem replacePending_matrix (n : Cp) (o : CallOutcome) (s : State) : (replacePending n o s).matrix = s.matrix := by
  unfold replacePending
  split
  · rfl
  · split <;> rfl

theorem teardown_grows (n : Cp) (o : CallOutcome) (s : State) : s.matrix.Grows (teardown n o s).matrix := by
  unfold teardown
  cases (s.ctx n).state with
  | dialling | alerting | connected | ringing => exact (enterClearing_spec n _ s).grows
  | clearing => exact (replacePending_matrix n o s).symm ▸ .refl _
  | attaching => exact staleClaim_matrix n s ▸ finishTeardown_grows n o (staleClaim n s)
  | selecting | waitingLane | paused | surveyWait | held | callbackWatch => exact finishTeardown_grows n o s
  | idle => exact .refl _

theorem refuseSupply_grows (n : Cp) (s : State) : s.matrix.Grows (refuseSupply n s).matrix := by
  unfold refuseSupply
  split
  · exact teardown_grows n .supplyRefused s
  · exact .refl _

end

/-! ## Measurements -/

section
variable {s u : State} {battery temperature : BitVec 16}

/-- Test calls give way to CRITICAL supply (R20). -/
def refuseIfCritical (s : State) : State :=
  if s.supply.level = .critical then refuseSupply .p1 (refuseSupply .p0 s) else s

theorem refuseIfCritical_grows (s : State) : s.matrix.Grows (refuseIfCritical s).matrix := by
  unfold refuseIfCritical
  split
  · exact (refuseSupply_grows .p0 s).trans (refuseSupply_grows .p1 _)
  · exact .refl _

theorem levelChanged_eq (wasStopped : Bool) (s : State) : levelChanged wasStopped s =
    raise .supply (markNeed (refuseIfCritical (surveyFollows wasStopped (evalMatrix s)))) := rfl

@[simp] theorem levelChanged_outer (wasStopped : Bool) (s : State) : (levelChanged wasStopped s).outer = s.outer := by
  simp [levelChanged]

/-- Once the ready flag is set, SUPPLY is raised (R158). -/
theorem raised_supply {p : Port} (h : p.ready = true) : (raised p 0x10).attention.getLsbD 4 = true := by
  simp [raised, h]

/-- A change of supply level has been handed on (R181). -/
structure LevelHandedOn (s u : State) : Prop where
  supply : u.supply = s.supply
  time : u.time = s.time
  env : u.env = s.env
  needDue : u.needDue = true
  attention : s.port.ready = true → u.port.attention.getLsbD 4 = true
  grows : s.matrix.Grows u.matrix

theorem levelChanged_spec (wasStopped : Bool) (s : State) : LevelHandedOn s (levelChanged wasStopped s) := by
  have ho := levelChanged_outer wasStopped s
  rw [levelChanged_eq] at ho ⊢
  have hv : (surveyFollows wasStopped (evalMatrix s)).matrix = (evalMatrix s).matrix := by
    rw [(surveyFollows_spec wasStopped (evalMatrix s)).frame]
  have hg := (evalMatrix_grows s).trans (hv ▸ refuseIfCritical_grows (surveyFollows wasStopped (evalMatrix s)))
  generalize refuseIfCritical _ = v at ho hg
  have hu := raise_spec .supply (markNeed v)
  generalize raise .supply (markNeed v) = u at ho hu
  have hready : u.port.ready = s.port.ready := congrArg (fun x => x.port.ready) ho
  have hvready : v.port.ready = u.port.ready := by
    rw [hu.port, raised]
    rfl
  exact {
    supply := congrArg Outer.supply ho
    time := congrArg Outer.time ho
    env := congrArg Outer.env ho
    needDue := by rw [hu.frame]; rfl
    attention := fun h => by
      rw [hu.port]
      exact raised_supply (hvready.trans (hready.trans h))
    grows := hg.trans hu.grows }

theorem rereadStandby_frame (s : State) (l : Lane) :
    rereadStandby s l = { s with lanes := (rereadStandby s l).lanes } := by
  unfold rereadStandby
  split <;> rfl

theorem foldl_rereadStandby_frame (ls : List Lane) (s : State) :
    ls.foldl rereadStandby s = { s with lanes := (ls.foldl rereadStandby s).lanes } := by
  induction ls generalizing s with
  | nil => rfl
  | cons l ls ih =>
    rw [List.foldl_cons, ih, rereadStandby_frame]

/-- A measurement up to the handing on of a change of level: the readings published, the standby lines read again, need
to be evaluated (R94, R177). -/
def takeMeasurement (battery temperature : BitVec 16) (s : State) : State :=
  markNeed (lanes.foldl rereadStandby (rewriteStatus (takeReadings false battery temperature s)))

theorem measure_eq (battery temperature : BitVec 16) (s : State) : measure battery temperature s =
    if (takeMeasurement battery temperature s).supply.level = s.supply.level then takeMeasurement battery temperature s
    else levelChanged s.surveyStopped (takeMeasurement battery temperature s) := rfl

theorem takeMeasurement_frame (battery temperature : BitVec 16) (s : State) :
    takeMeasurement battery temperature s = { s with
    supply := (takeReadings false battery temperature s).supply, needDue := true
    lanes := (takeMeasurement battery temperature s).lanes, mem := (takeMeasurement battery temperature s).mem } := by
  unfold takeMeasurement
  rw [foldl_rereadStandby_frame]
  rfl

/-- A measurement has been made (R177). -/
structure Measured (s u : State) (battery temperature : BitVec 16) : Prop where
  supply : u.supply = (takeReadings false battery temperature s).supply
  time : u.time = s.time
  env : u.env = s.env
  needDue : u.needDue = true
  attention : s.port.ready = true → s.port.attention.getLsbD 4 = true → u.port.attention.getLsbD 4 = true
  grows : s.matrix.Grows u.matrix

theorem measure_spec (battery temperature : BitVec 16) (s : State) :
    Measured s (measure battery temperature s) battery temperature := by
  rw [measure_eq]
  have ht := takeMeasurement_frame battery temperature s
  generalize takeMeasurement battery temperature s = t at ht
  have hsupply : t.supply = (takeReadings false battery temperature s).supply := by rw [ht]
  have htime : t.time = s.time := by rw [ht]
  have henv : t.env = s.env := by rw [ht]
  have hport : t.port = s.port := by rw [ht]
  have hmatrix : t.matrix = s.matrix := by rw [ht]
  split
  · exact ⟨hsupply, htime, henv, by rw [ht], fun _ h => by rwa [hport], hmatrix ▸ .refl _⟩
  · have hu := levelChanged_spec s.surveyStopped t
    exact ⟨hu.supply.trans hsupply, hu.time.trans htime, hu.env.trans henv, hu.needDue,
      fun h _ => hu.attention (by rwa [hport]), hmatrix ▸ hu.grows⟩

theorem takeReadings_supply (battery temperature : BitVec 16) (s : State) :
    (takeReadings false battery temperature s).supply = { s.supply with
      battery := batteryMv battery
      t10 := t10Of temperature
      vmin := reserveThreshold (reserveBase s) (t10Of temperature)
      level := nextLevel s.supply.level (batteryMv battery) (reserveThreshold (reserveBase s) (t10Of temperature))
      timer := later s.now (measureInterval s.supply.power) } := rfl

/-- The reserve base does not change where the settings block does not (R156). -/
theorem reserveBase_congr {s t : State} (hs : t.snap = s.snap)
    (hm : ∀ a, 0x200 ≤ a → a < 0x400 → t.mem.read a = s.mem.read a) : reserveBase t = reserveBase s := by
  rw [reserveBase, reserveBase, setting16_congr hs hm (by decide)]

/-! ## Out of DORMANT -/

theorem leaveDormant_of_awake (h : s.supply.power ≠ .dormant) : leaveDormant s = s := if_neg h

theorem leaveDormant_of_dormant (h : s.supply.power = .dormant) : leaveDormant s =
    measure s.env.battery s.env.temperature (changePower s.supply.preDormant s) := if_pos h

/-- The part has left DORMANT for its pre-dormant state, and a measurement has been made (R184). -/
structure DormantLeft (s u : State) : Prop where
  supply : u.supply = { s.supply with
    power := s.supply.preDormant
    battery := batteryMv s.env.battery
    t10 := t10Of s.env.temperature
    vmin := reserveThreshold (reserveBase s) (t10Of s.env.temperature)
    level := nextLevel s.supply.level (batteryMv s.env.battery)
      (reserveThreshold (reserveBase s) (t10Of s.env.temperature))
    timer := later s.now (measureInterval s.supply.preDormant) }
  attention : s.port.ready = true → u.port.attention.getLsbD 4 = true
  needDue : u.needDue = true
  time : u.time = s.time
  env : u.env = s.env
  grows : s.matrix.Grows u.matrix

theorem leaveDormant_spec (h : s.supply.power = .dormant) : DormantLeft s (leaveDormant s) := by
  rw [leaveDormant_of_dormant h]
  have hv := changePower_spec s.supply.preDormant s
  generalize changePower s.supply.preDormant s = v at hv
  have hu := measure_spec s.env.battery s.env.temperature v
  generalize measure s.env.battery s.env.temperature v = u at hu
  have hbase : reserveBase v = reserveBase s :=
    reserveBase_congr (by rw [hv.frame]) fun a h1 _ => hv.outside a (by omega)
  have htime : v.time = s.time := by rw [hv.frame]
  have henv : v.env = s.env := by rw [hv.frame]
  have hready : v.port.ready = s.port.ready := by rw [hv.port, raised]
  exact {
    supply := by rw [hu.supply, takeReadings_supply, hbase, State.now, htime, hv.supply]; rfl
    attention := fun hr => hu.attention (hready.trans hr) (by rw [hv.port]; exact raised_supply hr)
    needDue := hu.needDue
    time := hu.time.trans htime
    env := hu.env.trans henv
    grows := hv.grows.trans hu.grows }

end

end Sys2Proof.Machine

namespace Sys2Proof.Proofs
open Sys2Proof.Machine

/-- Settles O37, by the count and its attention, and by the change of power state with its measurement. -/
theorem tamperCountsAndWakeLeavesDormant : Obligations.TamperCountsAndWakeLeavesDormant := by
  intro s hready
  refine ⟨⟨_, congrArg Host.Outcome.next (takeEvent_of_ready hready), ?_⟩,
    fun hp => ⟨_, congrArg Host.Outcome.next (takeEvent_of_ready hready), ?_⟩,
    fun hp hpre => ⟨_, congrArg Host.Outcome.next (takeEvent_of_ready hready), ?_⟩⟩
  · have hv := raise_spec .trigger (countTamper (unraise .tamper s))
    generalize raise .trigger (countTamper (unraise .tamper s)) = v at hv
    have ht := flushStatus_spec v
    generalize flushStatus v = t at ht
    have hmem : v.mem = s.mem := by rw [hv.frame]; rfl
    have hport : t.port = v.port := by rw [ht.frame]
    exact ⟨by rw [ht.frame, hv.frame]; rfl, hport.trans hv.port, hv.grows.trans ht.grows,
      fun a ha => by rw [ht.outside a (by omega), hmem], by rw [ht.frame, hv.frame]; rfl⟩
  · exact leaveDormant_of_awake (s := unraise .wake s) hp
  · have hu := leaveDormant_spec (s := unraise .wake s) hp
    have hinterval : measureInterval (unraise .wake s).supply.preDormant = 10 := if_neg hpre
    have hsupply := hu.supply
    rw [hinterval] at hsupply
    exact ⟨hsupply, hu.attention hready, hu.needDue, hu.time, hu.env, hu.grows⟩

end Sys2Proof.Proofs
end

section
namespace Sys2Proof.Machine

/-! ## The check of the staged image -/

section
variable {m m' : Memory} {n : Nat}

/-- The items of the staged image read the same in two memories (12.7). -/
def SameItems (m m' : Memory) : Prop := ∀ n, n < 26 → ∀ b, b < 4 → itemByte m' n b = itemByte m n b

theorem SameItems.stagedLine (h : SameItems m m') (hn : n < 12) : stagedLine m' n = stagedLine m n := by
  have hb := h n (by omega)
  rw [Machine.stagedLine, hb 0 (by decide), hb 1 (by decide), hb 2 (by decide), hb 3 (by decide), Machine.stagedLine]

theorem SameItems.stagedCell (h : SameItems m m') (hn : n < 8) : stagedCell m' n = stagedCell m n := by
  have hb := h (12 + n) (by omega)
  rw [Machine.stagedCell, hb 0 (by decide), hb 1 (by decide), hb 2 (by decide), hb 3 (by decide), Machine.stagedCell]

theorem SameItems.stagedBind (h : SameItems m m') (hn : n < 6) : stagedBind m' n = stagedBind m n := by
  rw [Machine.stagedBind, h (20 + n) (by omega) 0 (by decide), Machine.stagedBind]

theorem SameItems.itemPasses (h : SameItems m m') (hn : n < 26) : itemPasses m' n = itemPasses m n := by
  unfold Machine.itemPasses
  split
  · rw [h.stagedLine (by assumption)]
  split
  · rw [h.stagedCell (by omega)]
  · rw [h.stagedBind (by omega)]

theorem SameItems.stagedConfig (h : SameItems m m') : stagedConfig m' = stagedConfig m := by
  have hlines : (fun i : Fin 12 => (Machine.stagedLine m' i.val).getD .unused)
      = fun i : Fin 12 => (Machine.stagedLine m i.val).getD .unused := funext fun i => by rw [h.stagedLine i.isLt]
  have hcells : (fun j : Fin 8 => (Machine.stagedCell m' j.val).getD ⟨.const1, false, .const1, false⟩)
      = fun j : Fin 8 => (Machine.stagedCell m j.val).getD ⟨.const1, false, .const1, false⟩ :=
    funext fun j => by rw [h.stagedCell j.isLt]
  have hbinds : (fun f : Fin 6 => (Machine.stagedBind m' f.val).getD .none)
      = fun f : Fin 6 => (Machine.stagedBind m f.val).getD .none := funext fun f => by rw [h.stagedBind f.isLt]
  rw [Machine.stagedConfig, hlines, hcells, hbinds, Machine.stagedConfig]

/-- The check reads the items of the staged image alone (R130). -/
theorem SameItems.checkImage (h : SameItems m m') : checkImage m' = checkImage m := by
  have hfind : (List.range 26).find? (fun n => !Machine.itemPasses m' n)
      = (List.range 26).find? (fun n => !Machine.itemPasses m n) :=
    List.find?_congr fun n hn => by rw [h.itemPasses (List.mem_range.mp hn)]
  rw [Machine.checkImage, hfind, h.stagedConfig, Machine.checkImage]

end

/-- The staged image does not lie in a slot (12.1). -/
theorem sameItems_takeOrder (i : Fin 8) (s : State) : SameItems s.hostMem (takeOrder i s).hostMem := fun n _ b _ =>
  hostMem_read_congr rfl (takeOrder_read i s _ (by
    have hi := i.isLt
    rw [slotAddr_eq, Config.matrixBase]
    omega))

/-! ## The configuration taken -/

section
variable {s : State} {i : Fin 8} {c : MatrixCfg} {k : Fin 12}

theorem vec12_get {α : Type} (f : Fin 12 → α) (k : Fin 12) : (vec12 f)[k] = f k := by
  fin_cases k <;> rfl

/-- The evaluation that follows a load changes cells, functions and sources, and hands nothing over (R132). -/
structure Baselined (s u : State) : Prop where
  matrix : u.matrix = { s.matrix with
    cells := u.matrix.cells, fns := u.matrix.fns, sources := u.matrix.sources, unshown := u.matrix.unshown }
  unbound : ∀ f : Fin 6, s.matrix.config.binds[f] = .none → u.matrix.fns.getLsbD f.val = false
  frame : u = { s with matrix := u.matrix }

theorem computed_eq (m : Matrix) : m.computed = { m with
    cells := m.computed.cells, fns := m.fnValues m.computed.cells, unshown := m.computed.unshown } := by
  unfold Matrix.computed
  rfl

/-- A function without a binding is 0 (R124). -/
theorem computed_unbound (m : Matrix) {f : Fin 6} (h : m.config.binds[f] = .none) :
    m.computed.fns.getLsbD f.val = false := by
  rw [computed_eq]
  exact (fnValues_getLsbD m _ f).trans (by rw [h]; rfl)

/-- The sources outside the matrix, each as it stands (R132). -/
def presentSources (s : State) : Sources where
  lines := BitVec.ofNat 12 (packBits (lineIndexes.map fun i => presentValue s s.matrix.config (.line i)))
  active := ⟨presentValue s s.matrix.config (.active .p0), presentValue s s.matrix.config (.active .p1)⟩
  critical := presentValue s s.matrix.config .critical

theorem baselineMatrix_matrix (s : State) : (baselineMatrix s).matrix =
    Matrix.computed { s.matrix with cells := s.matrix.cells &&& 0x3F, sources := presentSources s } := rfl

theorem baselineMatrix_spec (s : State) : Baselined s (baselineMatrix s) := by
  have hm := baselineMatrix_matrix s
  have hf : baselineMatrix s = { s with matrix := (baselineMatrix s).matrix } := rfl
  generalize baselineMatrix s = u at hm hf
  have he := computed_eq { s.matrix with cells := s.matrix.cells &&& 0x3F, sources := presentSources s }
  rw [← hm] at he
  exact {
    matrix := by rw [he]
    unbound := fun f h => by rw [hm]; exact computed_unbound _ h
    frame := hf }

/-- The debounced levels after a load (R132). -/
def loadedLevels (c : MatrixCfg) (s : State) : BitVec 12 :=
  BitVec.ofNat 12 (packBits (lineIndexes.map fun k =>
    if keepsInput s.matrix.config.lines[k] c.lines[k] then s.matrix.debounced.getLsbD k.val
    else sampledLevel (modMatrix (fun m => { m with config := c, loaded := true }) s) k))

/-- The debounce timers after a load (R132). -/
def loadedTimers (c : MatrixCfg) (s : State) : Vector (Option Nat) 12 :=
  vec12 fun k => if keepsInput s.matrix.config.lines[k] c.lines[k] then s.matrix.timers[k] else none

/-- A state with an image's configuration and its lines, before the evaluation that follows (R132). -/
def imageLoaded (c : MatrixCfg) (s : State) : State :=
  modMatrix (fun m => { m with
    config := c, loaded := true, debounced := loadedLevels c s, timers := loadedTimers c s }) s

theorem takeImage_eq (c : MatrixCfg) (s : State) : takeImage c s = baselineMatrix (imageLoaded c s) := rfl

/-- An image has become the configuration (R132). -/
structure ImageTaken (s u : State) (c : MatrixCfg) : Prop where
  config : u.matrix.config = c
  loaded : u.matrix.loaded = true
  raised : u.matrix.raised = s.matrix.raised
  debounced : u.matrix.debounced = loadedLevels c s
  timers : u.matrix.timers = loadedTimers c s
  unbound : ∀ f : Fin 6, c.binds[f] = .none → u.matrix.fns.getLsbD f.val = false
  frame : u = { s with matrix := u.matrix }

theorem takeImage_spec (c : MatrixCfg) (s : State) : ImageTaken s (takeImage c s) c := by
  rw [takeImage_eq]
  have hw : (imageLoaded c s).matrix = { s.matrix with
    config := c, loaded := true, debounced := loadedLevels c s, timers := loadedTimers c s } := rfl
  have hf : imageLoaded c s = { s with matrix := (imageLoaded c s).matrix } := rfl
  generalize imageLoaded c s = w at hw hf
  have hu := baselineMatrix_spec w
  generalize baselineMatrix w = u at hu
  exact {
    config := by rw [hu.matrix, hw]
    loaded := by rw [hu.matrix, hw]
    raised := by rw [hu.matrix, hw]
    debounced := by rw [hu.matrix, hw]
    timers := by rw [hu.matrix, hw]
    unbound := fun f h => hu.unbound f (by rw [hw]; exact h)
    frame := by rw [hu.frame, hf] }

/-- A line stays INPUT with its polarity over a load (R132). -/
theorem keepsInput_iff (old new : LineCfg) :
    keepsInput old new = true ↔ ∃ x y p, old = .input x p ∧ new = .input y p := by
  cases old <;> cases new <;> simp [keepsInput]

theorem loadedLevels_of_kept {x y : Fin 4} {p : Bool} (hs : s.matrix.config.lines[k] = .input x p)
    (hc : c.lines[k] = .input y p) : (loadedLevels c s).getLsbD k.val = s.matrix.debounced.getLsbD k.val :=
  (packed_getLsbD lineIndexes_eq _ k).trans (if_pos ((keepsInput_iff _ _).mpr ⟨x, y, p, hs, hc⟩))

theorem loadedTimers_of_kept {x y : Fin 4} {p : Bool} (hs : s.matrix.config.lines[k] = .input x p)
    (hc : c.lines[k] = .input y p) : (loadedTimers c s)[k] = s.matrix.timers[k] :=
  (vec12_get _ k).trans (if_pos ((keepsInput_iff _ _).mpr ⟨x, y, p, hs, hc⟩))

/-- A line that has not been INPUT with the polarity it now has is not kept (R132). -/
theorem not_keepsInput {y : Fin 4} {p : Bool} (hc : c.lines[k] = .input y p)
    (hs : ∀ x, s.matrix.config.lines[k] ≠ .input x p) : ¬keepsInput s.matrix.config.lines[k] c.lines[k] = true := by
  rw [keepsInput_iff]
  rintro ⟨x, z, q, hx, hz⟩
  obtain ⟨-, rfl⟩ := LineCfg.input.inj (hz.symm.trans hc)
  exact hs x hx

theorem loadedLevels_of_new {y : Fin 4} {p : Bool} (hc : c.lines[k] = .input y p)
    (hs : ∀ x, s.matrix.config.lines[k] ≠ .input x p) :
    (loadedLevels c s).getLsbD k.val = (s.env.pins.getLsbD k.val != p) :=
  ((packed_getLsbD lineIndexes_eq _ k).trans (if_neg (not_keepsInput hc hs))).trans
    (sampledLevel_of_input (s := modMatrix (fun m => { m with config := c, loaded := true }) s) hc)

theorem loadedTimers_of_new {y : Fin 4} {p : Bool} (hc : c.lines[k] = .input y p)
    (hs : ∀ x, s.matrix.config.lines[k] ≠ .input x p) : (loadedTimers c s)[k] = none :=
  (vec12_get _ k).trans (if_neg (not_keepsInput hc hs))

/-! ## LOAD_MATRIX -/

theorem takeRow_loadMatrix (h : FrontOrder s i 6 []) :
    exec .loadMatrix s = .next (finish (loadMatrix i (takeOrder i s))) := by
  refine congrArg Host.Outcome.next (takeRow_of_front h (by unfold orderRow; rw [orderCode_of_front h]; rfl) ?_)
  unfold badArgument
  rw [orderCode_of_front h]
  rfl

theorem loadMatrix_of_bad {n : Nat} (h : checkImage s.hostMem = .bad n) :
    loadMatrix i s = completeOrder i .badContent [BitVec.ofNat 8 n] s := by
  simp only [loadMatrix, h]

theorem loadMatrix_of_loop {j : Fin 8} (h : checkImage s.hostMem = .good c) (hc : firstCycle c = some j) :
    loadMatrix i s = completeOrder i .loop [BitVec.ofNat 8 j.val] s := by
  simp only [loadMatrix, h, hc]

/-- With no CALL function bound none is found at 1, and the order completes on the image taken (R132). -/
theorem loadMatrix_of_good (h : checkImage s.hostMem = .good c) (hc : firstCycle c = none) (h0 : c.binds[0] = .none)
    (h1 : c.binds[1] = .none) : loadMatrix i s = completeOrder i .ok [] (takeImage c s) := by
  have hu := takeImage_spec c s
  have hcalls : callsAtOne (takeImage c s) = ⟨false, false⟩ :=
    congrArg₂ Duo.mk (hu.unbound 0 h0) (hu.unbound 1 h1)
  simp only [loadMatrix, h, hc, hcalls, orderOk]
  rfl

end

end Sys2Proof.Machine

namespace Sys2Proof.Proofs
open Sys2Proof.Machine

/-- Settles O24, by what the check of the image and the loop check find. -/
theorem loadMatrixChecksAndTakesTheImage : Obligations.LoadMatrixChecksAndTakesTheImage := by
  intro s i h
  have hitems : ∀ r, checkImage s.hostMem = r → checkImage (takeOrder i s).hostMem = r :=
    fun _ hr => (sameItems_takeOrder i s).checkImage.trans hr
  refine ⟨fun k hk => ?_, fun c hg => ⟨fun j hj => ?_, fun hc h0 h1 => ⟨_, takeRow_loadMatrix h, ?_⟩⟩⟩
  · exact completesThrough_orderOnly (r := .badContent) (takeRow_loadMatrix h) (loadMatrix_of_bad (hitems _ hk))
  · exact completesThrough_orderOnly (r := .loop) (takeRow_loadMatrix h) (loadMatrix_of_loop (hitems _ hg) hj)
  · rw [loadMatrix_of_good (hitems _ hg) hc h0 h1]
    have hw := takeImage_spec c (takeOrder i s)
    generalize takeImage c (takeOrder i s) = w at hw
    have hu := completeOrder_spec i .ok [] w
    generalize completeOrder i .ok [] w = u at hu
    obtain ⟨hm, l, hl⟩ := hu.grows
    have hlevels : u.matrix.debounced = loadedLevels c s := by rw [hm, hw.debounced]; rfl
    have htimers : u.matrix.timers = loadedTimers c s := by rw [hm, hw.timers]; rfl
    refine ⟨by rw [hm, hw.config], by rw [hm, hw.loaded], ⟨l, by rw [hl, hw.raised]; rfl⟩, fun k x y p hs hn => ?_,
      fun k y p hn hs => ?_, orderDone_of_mem hu.mem, hu.sameButSlot fun _ _ => by rw [hw.frame], ?_, ?_⟩
    · rw [hlevels, htimers]
      exact ⟨loadedLevels_of_kept hs hn, loadedTimers_of_kept hs hn⟩
    · rw [hlevels, htimers]
      exact ⟨loadedLevels_of_new hn hs, loadedTimers_of_new hn hs⟩
    · rw [hu.port, hw.frame]
      rfl
    · rw [hu.frame, hw.frame]
      rfl

end Sys2Proof.Proofs
end

section
namespace Sys2Proof.Machine

/-! ## Data bytes through a window -/

/-- What the move of a window past a data byte can change: the pointers and the captures (R150, R154). -/
structure WindowMoved (s u : State) : Prop where
  port : u.port = { s.port with
    ptrA := u.port.ptrA, ptrB := u.port.ptrB, capA := u.port.capA, capB := u.port.capB }
  frame : u = { s with port := u.port }

theorem setCap_advance_spec (w : Window) (s : State) : WindowMoved s (setCap w none (advance w s)) := by
  cases w <;> exact ⟨rfl, rfl⟩

theorem exec_dataWrite {s : State} {w : Window} (h : s.writeWindow = some w) (b : Byte) :
    exec (.dataWrite b) s = .next (hostWrite (s.port.ptr w).toNat b (setCap w none (advance w s))) := by
  show execDataWrite b s = _
  rw [execDataWrite, h]

theorem hostWrite_of_ready {s : State} (h : s.port.ready = true) (a : Nat) (b : Byte) :
    hostWrite a b s = mediate a b s := if_pos h

/-- The state byte of a record stands two bytes from its first address (12.10). -/
theorem placeOf_recordState (i : Fin 12) : placeOf (0x1000 + 256 * i.val + 2) = .recordState i := by
  have hi := i.isLt
  have hoff : 0x1000 + 256 * i.val + 2 - Config.recordBase = 256 * i.val + 2 := by
    simp only [Config.recordBase]; omega
  have hindex : finOf 12 ((256 * i.val + 2) / 256) = some i := by
    rw [show (256 * i.val + 2) / 256 = i.val by omega]
    exact dif_pos hi
  rw [placeOf_record _ (by simp only [Config.recordBase, Config.scratch2Base]; omega), hoff, recordPlace, hindex]
  exact if_pos (by omega)

theorem exec_dataWrite_recordState {s : State} {w : Window} {i : Fin 12} (hw : s.writeWindow = some w)
    (hready : s.port.ready = true) (hptr : (s.port.ptr w).toNat = 0x1000 + 256 * i.val + 2) (b : Byte) :
    exec (.dataWrite b) s = .next (writeRecordState i b (setCap w none (advance w s))) := by
  have hmoved : (setCap w none (advance w s)).port.ready = true := by rw [(setCap_advance_spec w s).port]; exact hready
  rw [exec_dataWrite hw, hostWrite_of_ready hmoved, hptr, mediate, placeOf_recordState]

/-! ### A write that is dropped -/

theorem raised_attention {p : Port} (h : p.ready = true) (bits : Byte) :
    (raised p bits).attention = p.attention ||| bits := if_pos h

/-- A dropped write is counted and raises WINDOW, and the part status block follows (R152). -/
structure WriteDropped (s u : State) : Prop where
  counters : u.counters = { s.counters with windowFaults := min (s.counters.windowFaults + 1) 65535 }
  port : u.port = raised s.port 0x40
  outside : SameOutside s u 0 0x100
  grows : s.matrix.Grows u.matrix
  frame : u = { s with mem := u.mem, port := u.port, matrix := u.matrix, counters := u.counters }

theorem dropWrite_spec (s : State) : WriteDropped s (dropWrite s) := by
  unfold dropWrite
  have hv := raise_spec .window (countWindow s)
  generalize raise .window (countWindow s) = v at hv
  have hu := flushStatus_spec v
  generalize flushStatus v = u at hu
  have hmem : v.mem = s.mem := by rw [hv.frame]; rfl
  have hport : u.port = v.port := by rw [hu.frame]
  exact {
    counters := by rw [hu.frame, hv.frame]; rfl
    port := hport.trans hv.port
    outside := fun a ha => by rw [hu.outside a (by omega), hmem]
    grows := hv.grows.trans hu.grows
    frame := by rw [hu.frame, hv.frame]; rfl }

/-! ### A record that is released -/

/-- A record is FREE again and no longer in the close order, and it alone has been rewritten (R137, R145). -/
structure RecordReleased (s u : State) (i : Fin 12) : Prop where
  own : u.record i = { s.record i with state := .free }
  others : ∀ j, j ≠ i → u.record j = s.record j
  unlisted : i ∉ u.recs.closeOrder
  seq : u.recs.nextSeq = s.recs.nextSeq
  revision : u.mem.num (0x1000 + 256 * i.val) 2 = (s.mem.num (0x1000 + 256 * i.val) 2 + 2) % 65536
  outside : SameOutside s u (0x1000 + 256 * i.val) 256
  frame : u = { s with mem := u.mem, recs := u.recs }

theorem releaseRecord_spec (i : Fin 12) (s : State) : RecordReleased s (releaseRecord i s) i where
  own := putRecord_record_same i _ _
  others := fun _ hj => putRecord_record_of_ne hj _ _
  unlisted := fun h => of_decide_eq_true (List.mem_filter.mp h).2 rfl
  seq := rfl
  revision := Memory.num_rewrite _ _ _ _ (by decide)
  outside := fun a ha => Memory.read_rewrite_outside _ _ _ _ _ (by rw [recordAddr_eq, recordSize]; omega)
  frame := rfl

theorem writeRecordState_of_release {i : Fin 12} {b : Byte} {s : State} (hb : b = 0)
    (hs : (s.record i).state = .closed) : writeRecordState i b s = releaseRecord i s := if_pos ⟨hb, hs⟩

theorem writeRecordState_of_other {i : Fin 12} {b : Byte} {s : State} (h : b ≠ 0 ∨ (s.record i).state ≠ .closed) :
    writeRecordState i b s = dropWrite s :=
  if_neg fun ⟨hb, hs⟩ => h.elim (· hb) (· hs)

end Sys2Proof.Machine

namespace Sys2Proof.Proofs
open Sys2Proof.Machine

/-- Settles O13, by whether FREE is written over CLOSED: the window moves on, and the record is released or the write
dropped. -/
theorem recordStateWritesReleaseClosedRecords : Obligations.RecordStateWritesReleaseClosedRecords := by
  intro b s w i hw hready hptr
  have hv := setCap_advance_spec w s
  have hexec := exec_dataWrite_recordState hw hready hptr b
  generalize setCap w none (advance w s) = v at hv hexec
  have hrecs : v.recs = s.recs := by rw [hv.frame]
  have hmem : v.mem = s.mem := by rw [hv.frame]
  have hrecord : ∀ j, v.record j = s.record j := fun j => by rw [hv.frame]; rfl
  refine ⟨fun hb hs => ⟨_, hexec, ?_⟩, fun h => ⟨_, hexec, ?_⟩⟩
  · rw [writeRecordState_of_release hb (by rw [hrecord, hs])]
    have hu := releaseRecord_spec i v
    generalize releaseRecord i v = u at hu
    refine ⟨by rw [hu.own, hrecord], fun j hj => by rw [hu.others j hj, hrecord], hu.unlisted,
      by rw [hu.seq, hrecs], by rw [hu.revision, hmem], fun a ha => by rw [hu.outside a ha, hmem], ?_⟩
    rw [hu.frame, hv.frame]
  · rw [writeRecordState_of_other (by rw [hrecord]; exact h)]
    have hu := dropWrite_spec v
    generalize dropWrite v = u at hu
    refine ⟨by rw [hu.frame, hrecs], fun a ha => by rw [hu.outside a ha, hmem],
      by rw [hu.counters, hv.frame], ?_⟩
    rw [hu.port, raised_attention (by rw [hv.port]; exact hready), hv.port]

end Sys2Proof.Proofs
end

section
namespace Sys2Proof.Proofs
open Sys2Proof.Machine

/-- Settles O58, by what every command and every step of the part's own keeps. -/
theorem everyStepKeepsTheMemoryCanonical : Obligations.EveryStepKeepsTheMemoryCanonical :=
  fun _ _ e => (step_keeps e).mem

end Sys2Proof.Proofs
end

section
namespace Sys2Proof.Machine

/-! ## Transactions on the host port -/

theorem portReg_ofNum {k : Nat} {reg : PortReg}
    (h : [PortReg.ptrA, .dataA, .ptrB, .dataB, .attention, .attnMask, .partState, .control][k]? = some reg) :
    PortReg.ofNum k = reg := by
  obtain ⟨hk, rfl⟩ := List.getElem?_eq_some_iff.mp h
  simp only [List.length_cons, List.length_nil] at hk
  interval_cases k <;> rfl

theorem dataWindow_isSome_iff (reg : PortReg) : reg.dataWindow.isSome = true ↔ reg = .dataA ∨ reg = .dataB := by
  cases reg <;> decide

/-- The state with a transaction opened by a select byte (R148, R154). -/
theorem openTxn_eq {b : Byte} {reg : PortReg} (h : PortReg.ofNum (b.toNat % 8) = reg) (s : State) :
    openTxn b s = { s with
      port := { s.port with txn := some { reg := reg, read := b.getLsbD 7, count := 0, low := 0 } }
      snap := if b.getLsbD 7 = false ∧ (reg = .dataA ∨ reg = .dataB) then some s.mem else none } := by
  subst h
  simp only [← dataWindow_isSome_iff]
  rfl

end Sys2Proof.Machine

namespace Sys2Proof.Proofs
open Sys2Proof.Machine

/-- Settles O7, by whether a transaction may be opened. -/
theorem hostTransactionsOpenAndEnd : Obligations.HostTransactionsOpenAndEnd := by
  intro b s
  refine ⟨fun hclosed hhigh reg hreg => ⟨_, congrArg Host.Outcome.next (if_neg ?_), openTxn_eq (portReg_ofNum hreg) s⟩,
    fun h => congrArg Host.Outcome.next (if_pos h.symm), rfl⟩
  rw [hclosed, hhigh]
  decide

end Sys2Proof.Proofs
end

section
namespace Sys2Proof.Machine

/-! ## Pointers and captures -/

section
variable (s : State) (w : Window) {v : Window}

@[simp] theorem setCap_cap (c : Option Byte) : (setCap w c s).port.cap w = c := by cases w <;> rfl
@[simp] theorem setCap_ptr (c : Option Byte) (v : Window) : (setCap w c s).port.ptr v = s.port.ptr v := by
  cases w <;> cases v <;> rfl
theorem setCap_cap_of_ne (h : v ≠ w) (c : Option Byte) : (setCap w c s).port.cap v = s.port.cap v := by
  cases w <;> cases v
  exacts [absurd rfl h, rfl, rfl, absurd rfl h]
@[simp] theorem setPtr_ptr (p : BitVec 13) : (setPtr w p s).port.ptr w = p := by cases w <;> rfl
theorem setPtr_ptr_of_ne (h : v ≠ w) (p : BitVec 13) : (setPtr w p s).port.ptr v = s.port.ptr v := by
  cases w <;> cases v
  exacts [absurd rfl h, rfl, rfl, absurd rfl h]
@[simp] theorem setPtr_cap (p : BitVec 13) (v : Window) : (setPtr w p s).port.cap v = s.port.cap v := by
  cases w <;> cases v <;> rfl

/-- A data byte moves its window's pointer on and leaves the window with a capture or without (R150, R154). -/
theorem setCap_advance_pointer (c : Option Byte) : PointerAdvanced s (setCap w c (advance w s)) w := by
  refine ⟨by rw [setCap_ptr, advance, setPtr_ptr], fun v hv => ?_⟩
  rw [setCap_ptr, setCap_cap_of_ne _ _ hv, advance, setPtr_ptr_of_ne _ _ hv, setPtr_cap]
  exact ⟨rfl, rfl⟩

end

/-! ## Bytes of a PTR write -/

theorem exec_ptrWrite {s : State} {x : HostTxn} {w : Window} (hx : s.port.txn = some x) (hwrite : x.read = false)
    (hw : x.reg = .ptrA ∧ w = .a ∨ x.reg = .ptrB ∧ w = .b) (b : Byte) :
    exec (.ptrWrite b) s = .next (takePtrByte w x b (setCap w none s)) := by
  have hwindow : (if x.read then none else x.reg.ptrWindow) = some w := by
    rw [hwrite]
    rcases hw with ⟨hreg, rfl⟩ | ⟨hreg, rfl⟩ <;> rw [hreg] <;> rfl
  show execPtrWrite b s = _
  unfold execPtrWrite
  rw [hx]
  dsimp only
  rw [hwindow]

/-- What a byte of a PTR write can change: the open transaction, the pointer and the capture of its window (R149,
R154). -/
structure PtrByteTaken (s u : State) (w : Window) (txn : Option HostTxn) (ptr : BitVec 13) : Prop where
  txn : u.port.txn = txn
  ptr : u.port.ptr w = ptr
  cap : u.port.cap w = none
  other : ∀ v, v ≠ w → u.port.ptr v = s.port.ptr v ∧ u.port.cap v = s.port.cap v
  frame : u = { s with port := { s.port with
    txn := u.port.txn, ptrA := u.port.ptrA, ptrB := u.port.ptrB, capA := u.port.capA, capB := u.port.capB } }

section
variable {s : State} {x : HostTxn} (w : Window) (b : Byte)

theorem takePtrByte_first (h : x.count = 0) : PtrByteTaken s (takePtrByte w x b (setCap w none s)) w
    (some { x with count := 1, low := b }) (s.port.ptr w) := by
  rw [takePtrByte, if_pos h]
  exact {
    txn := rfl
    ptr := setCap_ptr s w none w
    cap := setCap_cap s w none
    other := fun v hv => ⟨setCap_ptr s w none v, setCap_cap_of_ne s w hv none⟩
    frame := by cases w <;> rfl }

theorem takePtrByte_second (h : x.count = 1) : PtrByteTaken s (takePtrByte w x b (setCap w none s)) w
    (some { x with count := 2 }) (BitVec.ofNat 13 (x.low.toNat + 256 * (b.toNat % 32))) := by
  rw [takePtrByte, if_neg (by omega), if_pos h]
  exact {
    txn := by cases w <;> rfl
    ptr := setPtr_ptr _ w _
    cap := (setPtr_cap _ w _ w).trans (setCap_cap s w none)
    other := fun v hv => ⟨(setPtr_ptr_of_ne _ w hv _).trans (setCap_ptr s w none v),
      (setPtr_cap _ w _ v).trans (setCap_cap_of_ne s w hv none)⟩
    frame := by cases w <;> rfl }

theorem takePtrByte_further (hx : s.port.txn = some x) (h : 2 ≤ x.count) :
    PtrByteTaken s (takePtrByte w x b (setCap w none s)) w (some x) (s.port.ptr w) := by
  rw [takePtrByte, if_neg (by omega), if_neg (by omega)]
  exact {
    txn := by rw [← hx]; cases w <;> rfl
    ptr := setCap_ptr s w none w
    cap := setCap_cap s w none
    other := fun v hv => ⟨setCap_ptr s w none v, setCap_cap_of_ne s w hv none⟩
    frame := by cases w <;> rfl }

end

end Sys2Proof.Machine

namespace Sys2Proof.Proofs
open Sys2Proof.Machine

/-- Settles O8, by the number of bytes that the transaction has taken. -/
theorem ptrWriteTakesTwoBytes : Obligations.PtrWriteTakesTwoBytes := by
  intro b s x w hx hwrite hw
  refine ⟨_, exec_ptrWrite hx hwrite hw b, ?_⟩
  obtain h0 | h1 | h2 : x.count = 0 ∨ x.count = 1 ∨ 2 ≤ x.count := by omega
  · have hu := takePtrByte_first (s := s) w b h0
    exact ⟨fun _ => ⟨hu.ptr, hu.txn⟩, fun h => by omega, fun h => by omega, hu.cap, hu.other, hu.frame⟩
  · have hu := takePtrByte_second (s := s) w b h1
    have hlow := x.low.isLt
    have hptr : (BitVec.ofNat 13 (x.low.toNat + 256 * (b.toNat % 32))).toNat = x.low.toNat + 256 * (b.toNat % 32) := by
      rw [BitVec.toNat_ofNat]
      exact Nat.mod_eq_of_lt (by omega)
    exact ⟨fun h => by omega, fun _ => ⟨by rw [hu.ptr, hptr], hu.txn⟩, fun h => by omega, hu.cap, hu.other, hu.frame⟩
  · have hu := takePtrByte_further w b hx h2
    exact ⟨fun h => by omega, fun h => by omega, fun _ => ⟨hu.ptr, hu.txn⟩, hu.cap, hu.other, hu.frame⟩

end Sys2Proof.Proofs
end

section
namespace Sys2Proof.Machine

/-! ## Bytes of a DATA read -/

/-- The state after a DATA read (R150, R152 to R154). -/
def dataReadTaken (w : Window) (s : State) : State :=
  modPort (fun p => { p with hsdo := dataValue w s }) (setCap w (captureAfter w s) (advance w s))

theorem exec_dataRead {s : State} {w : Window} (h : s.readWindow = some w) :
    exec .dataRead s = .next (dataReadTaken w s) := by
  show execDataRead s = _
  rw [execDataRead, h]
  rfl

theorem dataReadTaken_hsdo (w : Window) (s : State) : (dataReadTaken w s).port.hsdo = dataValue w s := rfl

theorem dataReadTaken_cap (w : Window) (s : State) : (dataReadTaken w s).port.cap w = captureAfter w s :=
  setCap_cap (advance w s) w (captureAfter w s)

/-- The low bytes of the revision counts: of the part status block, the lane status blocks, the mirror and the records
(R154, 9.2). -/
theorem isRevisionLow_iff (a : Nat) : isRevisionLow a = true ↔
    a = 0 ∨ (0x600 ≤ a ∧ a < 0x700 ∧ a % 64 = 0) ∨ a = 0x700 ∨ (0x1000 ≤ a ∧ a < 0x1C00 ∧ a % 256 = 0) := by
  simp only [isRevisionLow, Bool.or_eq_true, Bool.and_eq_true, decide_eq_true_eq]
  simp only [Config.statusBase, Config.mirrorBase, Config.laneBase, Config.recordBase, Config.scratch2Base]
  omega

section
variable {s : State} {w : Window}

theorem dataValue_of_not_ready (h : s.port.ready = false) (w : Window) : dataValue w s = 0 := by
  rw [dataValue, h]
  rfl

theorem dataValue_of_ready (h : s.port.ready = true) (w : Window) :
    dataValue w s = (s.port.cap w).getD (s.mem.read (s.port.ptr w).toNat) := if_pos h

theorem captureAfter_of_not_ready (h : s.port.ready = false) (w : Window) : captureAfter w s = none :=
  if_neg fun hc => Bool.false_ne_true (h.symm.trans hc.1)

theorem captureAfter_of_captured {c : Byte} (h : s.port.cap w = some c) : captureAfter w s = none := by
  rw [captureAfter, h]
  exact if_neg fun hc => Bool.false_ne_true hc.2.1

theorem captureAfter_of_open (hready : s.port.ready = true) (h : s.port.cap w = none) : captureAfter w s =
    if isRevisionLow (s.port.ptr w).toNat = true then some (s.mem.read ((s.port.ptr w).toNat + 1)) else none := by
  rw [captureAfter, hready, h]
  simp

end

end Sys2Proof.Machine

namespace Sys2Proof.Proofs
open Sys2Proof.Machine

/-- Settles O9, by what the byte is taken from: nothing before the ready flag, the capture, or the memory. -/
theorem dataReadReturnsTheMemoryByte : Obligations.DataReadReturnsTheMemoryByte := by
  intro s w hw
  refine ⟨_, exec_dataRead hw, ?_⟩
  beta_reduce
  rw [dataReadTaken_hsdo, dataReadTaken_cap]
  refine ⟨fun hr => ⟨dataValue_of_not_ready hr w, captureAfter_of_not_ready hr w⟩,
    fun hr v hv => ⟨by rw [dataValue_of_ready hr, hv]; rfl, captureAfter_of_captured hv⟩,
    fun hr hnone => ⟨by rw [dataValue_of_ready hr, hnone]; rfl, ?_⟩, ?_, by cases w <;> rfl⟩
  · rw [captureAfter_of_open hr hnone]
    simp only [isRevisionLow_iff]
  · exact setCap_advance_pointer s w (captureAfter w s)

end Sys2Proof.Proofs
end

section
namespace Sys2Proof.Machine

/-! ## Places of the exchange memory -/

/-- The settings, the staging regions and the scratch regions are the host's (9.2). -/
theorem placeOf_host {a : Nat} (h : 0x200 ≤ a ∧ a < 0x600 ∨ 0xA00 ≤ a ∧ a < 0x1000 ∨ 0x1C00 ≤ a) :
    placeOf a = .taken := by
  have h1 : Config.slotBase = 0x100 := rfl
  have h2 : Config.settingsBase = 0x200 := rfl
  have h3 : Config.laneBase = 0x600 := rfl
  have h4 : Config.scratchBase = 0xA00 := rfl
  have h5 : Config.recordBase = 0x1000 := rfl
  have h6 : Config.scratch2Base = 0x1C00 := rfl
  rw [placeOf, if_neg (by omega), if_neg (by omega)]
  rcases h with h | h | h
  · rw [if_pos (by omega)]
  · rw [if_neg (by omega), if_neg (by omega), if_pos (by omega)]
  · rw [if_neg (by omega), if_neg (by omega), if_neg (by omega), if_neg (by omega)]

/-- The records' bytes but their state bytes are the part's (9.2, R145). -/
theorem placeOf_recordOther {a : Nat} (h : 0x1000 ≤ a ∧ a < 0x1C00) (hne : a % 256 ≠ 2) : placeOf a = .dropped := by
  rw [placeOf_record a h, recordPlace]
  split
  · rfl
  · exact if_neg (by simp only [Config.recordBase]; omega)

/-- The slot that an address of the order slots belongs to (12.4). -/
def slotAt (a : Nat) : Fin 8 := Fin.ofNat 8 ((a - 0x100) / 32)

section
variable {a : Nat}

theorem slotAt_addr (h : 0x100 ≤ a ∧ a < 0x200) : 0x100 + 32 * (slotAt a).val = a - a % 32 := by
  show 0x100 + 32 * ((a - 0x100) / 32 % 8) = _
  omega

theorem placeOf_slot (h : 0x100 ≤ a ∧ a < 0x200) : placeOf a =
    if a % 32 = 0 then .slotState (slotAt a) else if a % 32 < 16 then .slotBody (slotAt a) else .dropped := by
  have hlow : ¬a < Config.slotBase := by simp only [Config.slotBase]; omega
  have hhigh : a < Config.settingsBase := by simp only [Config.settingsBase]; omega
  have hindex : finOf 8 ((a - Config.slotBase) / 32) = some (slotAt a) := by
    have hlt : (a - Config.slotBase) / 32 < 8 := by simp only [Config.slotBase]; omega
    exact (dif_pos hlt).trans (congrArg some (Fin.ext (Nat.mod_eq_of_lt hlt).symm))
  have hoff : (a - Config.slotBase) % 32 = a % 32 := by simp only [Config.slotBase]; omega
  rw [placeOf, if_neg hlow, if_pos hhigh, slotPlace, hindex]
  dsimp only
  rw [hoff]

theorem slotState_slotAt (h : 0x100 ≤ a ∧ a < 0x200) (s : State) :
    s.slotState (slotAt a) = s.mem.read (a - a % 32) := by
  rw [← slotAt_addr h]
  rfl

end

/-! ## What becomes of a data byte -/

/-- The addresses that a window may write while the ready flag is set, by the slots' states (9.2, R151, R165). -/
def HostWritable (s : State) (a : Nat) : Prop :=
  0x200 ≤ a ∧ a < 0x600 ∨ 0xA00 ≤ a ∧ a < 0x1000 ∨ 0x1C00 ≤ a
    ∨ (0x100 ≤ a ∧ a < 0x200 ∧ 1 ≤ a % 32 ∧ a % 32 < 16
        ∧ (s.mem.read (a - a % 32) = 0 ∨ s.mem.read (a - a % 32) = 3))

/-- The addresses at which a window's byte is dropped while the ready flag is set, by the slots' states (R151, R152,
R165). -/
def PartOwned (s : State) (a : Nat) : Prop :=
  a < 0x100 ∨ 0x600 ≤ a ∧ a < 0xA00 ∨ (0x1000 ≤ a ∧ a < 0x1C00 ∧ a % 256 ≠ 2)
    ∨ (0x100 ≤ a ∧ a < 0x200 ∧ 16 ≤ a % 32)
    ∨ (0x100 ≤ a ∧ a < 0x200 ∧ 1 ≤ a % 32 ∧ s.mem.read (a - a % 32) ≠ 0 ∧ s.mem.read (a - a % 32) ≠ 3)

section
variable {s : State} {a : Nat}

theorem mediate_of_writable (h : HostWritable s a) (b : Byte) : mediate a b s = s.withMem (s.mem.write a b) := by
  have hregion (hp : placeOf a = .taken) : mediate a b s = s.withMem (s.mem.write a b) := by rw [mediate, hp]
  rcases h with h | h | h | ⟨hlow, hhigh, hbody, hend, hstate⟩
  · exact hregion (placeOf_host (.inl h))
  · exact hregion (placeOf_host (.inr (.inl h)))
  · exact hregion (placeOf_host (.inr (.inr h)))
  · rw [mediate, placeOf_slot ⟨hlow, hhigh⟩, if_neg (by omega), if_pos hend]
    exact if_pos (by rwa [slotState_slotAt ⟨hlow, hhigh⟩])

theorem mediate_of_partOwned (h : PartOwned s a) (b : Byte) : mediate a b s = dropWrite s := by
  have hregion (hp : placeOf a = .dropped) : mediate a b s = dropWrite s := by rw [mediate, hp]
  rcases h with h | h | ⟨hlow, hhigh, hne⟩ | ⟨hlow, hhigh, hresult⟩ | ⟨hlow, hhigh, hbody, hempty, hdone⟩
  · exact hregion (placeOf_block a (.inl h))
  · exact hregion (placeOf_block a (.inr h))
  · exact hregion (placeOf_recordOther ⟨hlow, hhigh⟩ hne)
  · exact hregion (by rw [placeOf_slot ⟨hlow, hhigh⟩, if_neg (by omega), if_neg (by omega)])
  · have hplace := placeOf_slot ⟨hlow, hhigh⟩
    rw [if_neg (by omega)] at hplace
    split at hplace
    · rw [mediate, hplace]
      refine if_neg ?_
      rw [slotState_slotAt ⟨hlow, hhigh⟩]
      exact fun h => h.elim hempty hdone
    · exact hregion hplace

theorem hostWrite_of_not_ready (h : s.port.ready = false) (a : Nat) (b : Byte) : hostWrite a b s = s :=
  if_neg (by rw [h]; decide)

end

end Sys2Proof.Machine

namespace Sys2Proof.Proofs
open Sys2Proof.Machine

/-- Settles O10: the window moves on, and the byte is taken at its address. -/
theorem dataWriteIntoHostRegionsIsTaken : Obligations.DataWriteIntoHostRegionsIsTaken := by
  intro b s w a hw hready hptr ha
  refine ⟨_, exec_dataWrite hw b, ?_⟩
  have hv := setCap_advance_spec w s
  have hadvanced := setCap_advance_pointer s w none
  have hcap := setCap_cap (advance w s) w none
  generalize setCap w none (advance w s) = v at hv hadvanced hcap
  have hmem : v.mem = s.mem := by rw [hv.frame]
  have hwritable : HostWritable v a := by unfold HostWritable; rwa [hmem]
  rw [hptr, hostWrite_of_ready (by rw [hv.port]; exact hready), mediate_of_writable hwritable]
  refine ⟨(Memory.read_write _ _ _ _).trans (if_pos rfl), fun x hx => ?_, hadvanced, hcap, ?_⟩
  · rw [← hmem]
    exact (Memory.read_write _ _ _ _).trans (if_neg (by omega))
  · show v.withMem _ = { s with mem := _, port := { s.port with
      ptrA := v.port.ptrA, ptrB := v.port.ptrB, capA := v.port.capA, capB := v.port.capB } }
    rw [← hv.port]
    rw [hv.frame]
    rfl

/-- Settles O11: the window moves on; the byte is dropped and counted, or dropped alone before the ready flag is set. -/
theorem dataWriteElsewhereIsDropped : Obligations.DataWriteElsewhereIsDropped := by
  intro b s w a hw hptr
  have hexec := exec_dataWrite hw b
  have hv := setCap_advance_spec w s
  have hadvanced := setCap_advance_pointer s w none
  have hcap := setCap_cap (advance w s) w none
  generalize setCap w none (advance w s) = v at hexec hv hadvanced hcap
  rw [hptr] at hexec
  have hmem : v.mem = s.mem := by rw [hv.frame]
  have hvready : v.port.ready = s.port.ready := by rw [hv.port]
  refine ⟨fun hready ha => ⟨_, hexec, ?_⟩, fun hready => ⟨_, hexec, ?_⟩⟩
  · have howned : PartOwned v a := by unfold PartOwned; rwa [hmem]
    rw [hostWrite_of_ready (hvready.trans hready), mediate_of_partOwned howned]
    have hu := dropWrite_spec v
    generalize dropWrite v = u at hu
    have hattention : u.port.attention = s.port.attention ||| 0x40 := by
      rw [hu.port, raised_attention (hvready.trans hready), hv.port]
    have hport : u.port = { s.port with
        attention := u.port.attention, ptrA := u.port.ptrA, ptrB := u.port.ptrB, capA := u.port.capA
        capB := u.port.capB } := by
      rw [hu.port, hv.port]
      rfl
    have hptrs : ∀ x, u.port.ptr x = v.port.ptr x := fun x => by rw [hu.port]; cases x <;> rfl
    have hcaps : ∀ x, u.port.cap x = v.port.cap x := fun x => by rw [hu.port]; cases x <;> rfl
    obtain ⟨hown, hother⟩ := hadvanced
    refine ⟨by rw [hu.counters, hv.frame], hattention, fun x hx => by rw [hu.outside x hx, hmem], ?_,
      ⟨by rw [hptrs, hown], fun x hx => by rw [hptrs, hcaps]; exact hother x hx⟩, by rw [hcaps, hcap], ?_⟩
    · have hmatrix : v.matrix = s.matrix := by rw [hv.frame]
      exact (hmatrix ▸ hu.grows : s.matrix.Grows u.matrix)
    · rw [← hport, hu.frame, hv.frame]
  · rw [hostWrite_of_not_ready (hvready.trans hready)]
    refine ⟨hadvanced, hcap, ?_⟩
    rw [← hv.port]
    exact hv.frame

end Sys2Proof.Proofs
end

section
namespace Sys2Proof.Machine

/-! ## Registers of the port -/

/-- A change of the port that the ATTN mirror may follow: the matrix is evaluated and the part status block published
(R158, R159). -/
structure PortPublished (s u : State) (p : Port) : Prop where
  port : u.port = p
  grows : s.matrix.Grows u.matrix
  outside : SameOutside s u 0 0x100
  frame : u = { s with port := u.port, matrix := u.matrix, mem := u.mem }

theorem publishPort_spec (f : Port → Port) (s : State) :
    PortPublished s (flushStatus (evalMatrix (modPort f s))) (f s.port) := by
  have hg := evalMatrix_grows (modPort f s)
  have hv : evalMatrix (modPort f s) = { s with port := f s.port, matrix := (evalMatrix (modPort f s)).matrix } := rfl
  generalize evalMatrix (modPort f s) = v at hg hv
  have hu := flushStatus_spec v
  generalize flushStatus v = u at hu
  have hmem : v.mem = s.mem := by rw [hv]
  exact {
    port := by rw [hu.frame, hv]
    grows := hg.trans hu.grows
    outside := fun a ha => by rw [hu.outside a (by omega), hmem]
    frame := by rw [hu.frame, hv] }

theorem exec_attentionWrite {s : State} (h : s.writing .attention = true) (b : Byte) : exec (.attentionWrite b) s =
    .next (flushStatus (evalMatrix (modPort (fun p => { p with attention := p.attention &&& ~~~b }) s))) :=
  congrArg Host.Outcome.next (if_pos h)

theorem exec_attnMaskWrite {s : State} (h : s.writing .attnMask = true) (b : Byte) : exec (.attnMaskWrite b) s =
    .next (flushStatus (evalMatrix (modPort (fun p => { p with mask := b }) s))) :=
  congrArg Host.Outcome.next (if_pos h)

/-- The registers of the port that a port reset clears (R161). -/
def Port.cleared (p : Port) : Port :=
  { p with ptrA := 0, ptrB := 0, attention := 0, mask := 0xFF, capA := none, capB := none }

theorem portReset_spec (s : State) : PortPublished s (portReset s) s.port.cleared := publishPort_spec Port.cleared s

theorem portReset_writing {s : State} {reg : PortReg} (h : s.writing reg = true) : (portReset s).writing reg = true := by
  rw [State.writing, (portReset_spec s).port]
  exact h

/-! ## The action bits of CONTROL -/

section
variable {b : Byte} {s : State}

theorem portResetBit_clear_iff : b &&& portResetBit = 0 ↔ b.getLsbD 0 = false := by
  rw [show portResetBit = BitVec.twoPow 8 0 from rfl, BitVec.and_twoPow]
  cases b.getLsbD 0 <;> decide

theorem partResetBit_clear_iff : b &&& partResetBit = 0 ↔ b.getLsbD 1 = false := by
  rw [show partResetBit = BitVec.twoPow 8 1 from rfl, BitVec.and_twoPow]
  cases b.getLsbD 1 <;> decide

/-- What a byte of CONTROL does, by its two action bits (R149, 12.2). -/
theorem controlByte_of_writing (h : s.writing .control = true) (b : Byte) : controlByte b s =
    if b.getLsbD 1 = true then partReset .control false (if b.getLsbD 0 = true then portReset s else s)
    else if b.getLsbD 0 = true then portReset s else s := by
  rw [controlByte, if_pos h]
  simp only [ne_eq, portResetBit_clear_iff, partResetBit_clear_iff, Bool.not_eq_false]

theorem controlByte_portReset (h : s.writing .control = true) (h0 : b.getLsbD 0 = true) (h1 : b.getLsbD 1 = false) :
    controlByte b s = portReset s := by
  rw [controlByte_of_writing h, if_neg (by rw [h1]; decide), if_pos h0]

theorem controlByte_partReset (h : s.writing .control = true) (h0 : b.getLsbD 0 = false) (h1 : b.getLsbD 1 = true) :
    controlByte b s = partReset .control false s := by
  rw [controlByte_of_writing h, if_pos h1, if_neg (by rw [h0]; decide)]

/-- With both bits set the port reset comes first (12.2; log entry 11). -/
theorem controlByte_both (h : s.writing .control = true) (h0 : b.getLsbD 0 = true) (h1 : b.getLsbD 1 = true) :
    controlByte b s = partReset .control false (portReset s) := by
  rw [controlByte_of_writing h, if_pos h1, if_pos h0]

theorem exec_portReset (h : s.writing .control = true) : exec .portReset s = .next (portReset s) :=
  congrArg Host.Outcome.next (controlByte_portReset h rfl rfl)

theorem exec_partReset (h : s.writing .control = true) : exec .partReset s = .next (partReset .control false s) :=
  congrArg Host.Outcome.next (controlByte_partReset h rfl rfl)

end

end Sys2Proof.Machine

namespace Sys2Proof.Proofs
open Sys2Proof.Machine

/-- Settles O14, register by register, and for CONTROL by its two action bits. -/
theorem portRegisterWrites : Obligations.PortRegisterWrites := by
  intro b s
  refine ⟨fun h => ⟨_, exec_attentionWrite h b, ?_⟩, fun h => ⟨_, exec_attnMaskWrite h b, ?_⟩,
    fun h => ⟨_, exec_portReset h, ?_⟩, fun h => congrArg Host.Outcome.next (controlByte_idle b s (h.imp_right ?_)),
    fun h => ⟨congrArg Host.Outcome.next (controlByte_idle _ s (.inl h)),
      congrArg Host.Outcome.next (controlByte_idle _ s (.inl h))⟩,
    fun h h0 h1 => ?_, fun h h0 h1 => ?_, fun h h0 h1 => ⟨portReset s, exec_portReset h, ?_⟩⟩
  · have hu := publishPort_spec (fun p => { p with attention := p.attention &&& ~~~b }) s
    exact ⟨hu.port, hu.grows, hu.outside, hu.frame⟩
  · have hu := publishPort_spec (fun p => { p with mask := b }) s
    exact ⟨hu.port, hu.grows, hu.outside, hu.frame⟩
  · have hu := portReset_spec s
    exact ⟨hu.port, hu.grows, hu.outside, hu.frame⟩
  · rintro ⟨h0, h1⟩
    exact ⟨portResetBit_clear_iff.mpr h0, partResetBit_clear_iff.mpr h1⟩
  · rw [exec_portReset h]
    exact congrArg Host.Outcome.next (controlByte_portReset h h0 h1)
  · rw [exec_partReset h]
    exact congrArg Host.Outcome.next (controlByte_partReset h h0 h1)
  · rw [exec_partReset (portReset_writing h)]
    exact congrArg Host.Outcome.next (controlByte_both h h0 h1)

end Sys2Proof.Proofs
end

section
namespace Sys2Proof.Machine

/-! ## The bytes of the part status block -/

theorem statusRewrite_read (s : State) {k : Nat} (hk : k < 40) :
    (rewriteStatus s).mem.read (k + 2) = ((statusContent s)[k]?).getD 0 := by
  show (s.mem.rewrite 0 42 (statusContent s)).read (k + 2) = _
  rw [Memory.rewrite, Memory.read_place, if_pos (by omega)]
  rfl

/-- The reset cause stands at offset 2 (12.3, R159). -/
theorem statusRewrite_cause (s : State) : (rewriteStatus s).mem.read 2 = s.rst.cause.code :=
  statusRewrite_read s (k := 0) (by decide)

/-- The counters stand at offset 28 (12.3, R160). -/
theorem statusRewrite_counters (s : State) {k : Nat} (hk : k < 14) :
    (rewriteStatus s).mem.read (k + 28) = ((statusCounts s.counters)[k]?).getD 0 := by
  have hlength : (statusHead s ++ bytesOf 4 s.time.uptime.toNat ++ bytesOf 4 s.time.clock.toNat).length = 26 := by
    rw [List.length_append, List.length_append, statusHead_length]
    rfl
  rw [statusRewrite_read s (k := k + 26) (by omega), statusContent_eq, ← List.append_assoc,
    List.getElem?_append_right (by omega), hlength, Nat.add_sub_cancel]

theorem statusCounts_zero (k : Nat) : ((statusCounts Counters.zero)[k]?).getD 0 = 0 := by
  have h : statusCounts Counters.zero = List.replicate 14 0 := rfl
  rw [h, List.getElem?_replicate]
  split <;> rfl

/-- With every counter 0 the block shows zeros for them (R160). -/
theorem statusRewrite_counters_zero {s : State} (h : s.counters = Counters.zero) {a : Nat} (h1 : 28 ≤ a) (h2 : a < 42) :
    (rewriteStatus s).mem.read a = 0 := by
  obtain ⟨k, rfl⟩ := Nat.exists_eq_add_of_le' h1
  rw [statusRewrite_counters s (by omega), h, statusCounts_zero]

/-! ## Orders on the clock and the counters -/

theorem Memory.num_four (m : Memory) (a : Nat) : m.num a 4 = (m.read a).toNat + 256 * (m.read (a + 1)).toNat
    + 65536 * (m.read (a + 2)).toNat + 16777216 * (m.read (a + 3)).toNat := by
  simp only [Memory.num, Memory.bytes, List.range'_succ, List.range'_zero, List.map_cons, List.map_nil, natOf,
    Nat.add_assoc, Nat.reduceAdd]
  omega

section
variable {s : State} {i : Fin 8}

/-- SET_TIME carries the clock in its four argument bytes, low byte first (12.4, R173). -/
theorem timeArg_of_front {a b c d : Byte} (h : FrontOrder s i 1 [a, b, c, d]) :
    (timeArg (takeOrder i s) i).toNat = a.toNat + 256 * b.toNat + 65536 * c.toNat + 16777216 * d.toNat := by
  have harg (k : Nat) (hk : k < 4) :
      (takeOrder i s).hostMem.read (slotAddr i + 4 + k) = (([a, b, c, d] : List Byte)[k]?).getD 0 := by
    obtain ⟨-, -, h⟩ := h
    rw [← h k hk]
    exact hostMem_read_congr rfl (takeOrder_read i s _ (by omega))
  have ha := a.isLt
  have hb := b.isLt
  have hc := c.isLt
  have hd := d.isLt
  rw [timeArg, Memory.num_four, harg 0 (by decide), harg 1 (by decide), harg 2 (by decide), harg 3 (by decide),
    BitVec.toNat_ofNat]
  exact Nat.mod_eq_of_lt (by simp; omega)

theorem takeRow_setTime {a b c d : Byte} (h : FrontOrder s i 1 [a, b, c, d]) :
    exec .setTime s = .next (finish (setTime i (takeOrder i s))) := by
  refine congrArg Host.Outcome.next (takeRow_of_front h (by unfold orderRow; rw [orderCode_of_front h]; rfl) ?_)
  unfold badArgument
  rw [orderCode_of_front h]
  rfl

theorem takeRow_clearCounts (h : FrontOrder s i 11 []) :
    exec .clearCounts s = .next (finish (clearCounts i (takeOrder i s))) := by
  refine congrArg Host.Outcome.next (takeRow_of_front h (by unfold orderRow; rw [orderCode_of_front h]; rfl) ?_)
  unfold badArgument
  rw [orderCode_of_front h]
  rfl

/-- An order has completed with OK after one rewrite of the part status block (R159, R167); t is the state that the
block shows. -/
structure StatusOrdered (s t u : State) (i : Fin 8) : Prop where
  shown : ∀ a, a < 42 → u.mem.read a = (rewriteStatus t).mem.read a
  clock : u.mem.num 24 4 = t.time.clock.toNat
  revision : u.mem.num 0 2 = (s.mem.num 0 2 + 2) % 65536
  completed : OrderCompleted s u i 1 [] 0x01
  same : SameButSlot s u i 0 42
  frame : u = { t with mem := u.mem, orders := u.orders, port := u.port, matrix := u.matrix }

/-- What the order's own rule has changed before the rewrite is none of the memory, the order unit, the port and the
matrix. -/
theorem statusOrder_spec {t : State} (hmem : t.mem = (takeOrder i s).mem) (horders : t.orders = (takeOrder i s).orders)
    (hport : t.port = s.port) (hmatrix : t.matrix = s.matrix) :
    StatusOrdered s t (orderOk i (rewriteStatus t)) i := by
  have hw := rewriteStatus_spec t
  rw [orderOk]
  generalize hwt : rewriteStatus t = w at hw
  have hu := completeOrder_spec i .ok [] w
  generalize completeOrder i .ok [] w = u at hu
  have hshown : ∀ a, a < 42 → u.mem.read a = w.mem.read a := fun a ha =>
    hu.read (by rw [slotAddr_eq]; omega) (by rw [slotAddr_eq]; omega)
  have hwmatrix : w.matrix = s.matrix := by rw [hw.frame, hmatrix]
  exact {
    shown := hwt ▸ hshown
    clock := by
      rw [← hw.clock, Memory.num_four, Memory.num_four, hshown _ (by decide), hshown _ (by decide),
        hshown _ (by decide), hshown _ (by decide)]
    revision := by
      have hbefore : t.mem.num 0 2 = s.mem.num 0 2 := Memory.num_two_congr fun x h1 h2 => by
        rw [hmem]
        exact takeOrder_read i s x (by rw [slotAddr_eq]; omega)
      rw [← hbefore, ← hw.revision]
      exact Memory.num_two_congr fun x _ h2 => hshown x (by omega)
    completed := hu.completed (bits := 0) (by rw [hw.frame]; exact horders)
      (by rw [raised_zero, hw.frame]; exact hport) (by rw [hwmatrix]; exact .refl _)
    same := hu.sameButSlot fun a ha => by rw [hw.outside a ha, hmem]
    frame := by rw [hu.frame, hw.frame] }

end

end Sys2Proof.Machine

namespace Sys2Proof.Proofs
open Sys2Proof.Machine

/-- Settles O17: each order rewrites the part status block over its own change, and completes. -/
theorem setTimeAndClearCountsRewriteTheStatusBlock : Obligations.SetTimeAndClearCountsRewriteTheStatusBlock := by
  intro s i
  refine ⟨fun a b c d h => ⟨_, takeRow_setTime h, ?_⟩, fun h => ⟨_, takeRow_clearCounts h, ?_⟩⟩
  · have hu : StatusOrdered s _ (setTime i (takeOrder i s)) i := statusOrder_spec
      (t := (takeOrder i s).withTime { s.time with clock := timeArg (takeOrder i s) i }) rfl rfl rfl rfl
    generalize setTime i (takeOrder i s) = u at hu
    have htime : u.time = { s.time with clock := timeArg (takeOrder i s) i } := by rw [hu.frame]; rfl
    refine ⟨by rw [htime, timeArg_of_front h], by rw [htime], by rw [hu.clock, htime]; rfl, hu.revision, hu.completed,
      hu.same, ?_⟩
    rw [hu.frame]
    rfl
  · have hu : StatusOrdered s _ (clearCounts i (takeOrder i s)) i :=
      statusOrder_spec (t := (takeOrder i s).withCounters Counters.zero) rfl rfl rfl rfl
    generalize clearCounts i (takeOrder i s) = u at hu
    refine ⟨by rw [hu.frame]; rfl, fun a h1 h2 => ?_, hu.revision, hu.completed, hu.same, ?_⟩
    · rw [hu.shown a h2, statusRewrite_counters_zero rfl h1 h2]
    · rw [hu.frame]
      rfl

end Sys2Proof.Proofs
end

section
namespace Sys2Proof.Machine

/-! ## The completion of a reset -/

theorem allIdentified_iff (s : State) : allIdentified s = true ↔ ∀ l, (s.lane l).ident = none := by
  simp only [allIdentified, List.all_eq_true, Option.isNone_iff_eq_none]
  exact ⟨fun h l => h l (mem_lanes l), fun h l _ => h l⟩

/-- A reset's completion up to the CALL functions that it found at 1 (R162, steps 3 and 4). -/
def resetCompleted (s : State) : State :=
  evalMatrix (modPort (fun p => { p with ready := true, attention := Attn.reset.mask })
    (rewriteStatus ((s.withCounters Counters.zero).withRst { s.rst with cause := s.rst.next })))

/-- The steps of a reset's completion are made (R162): the counters 0, the cause published in one rewrite of the part status
block, the ready flag set, RESET alone raised. -/
structure ResetCompleted (s u : State) : Prop where
  port : u.port = { s.port with ready := true, attention := 0x80 }
  counters : u.counters = Counters.zero
  rst : u.rst = { s.rst with cause := s.rst.next }
  cause : u.mem.read 2 = s.rst.next.code
  revision : u.mem.num 0 2 = (s.mem.num 0 2 + 2) % 65536
  counts : ∀ a, 28 ≤ a → a < 42 → u.mem.read a = 0
  outside : SameOutside s u 0 42
  grows : s.matrix.Grows u.matrix
  frame : u = { s with port := u.port, counters := u.counters, rst := u.rst, mem := u.mem, matrix := u.matrix }

theorem resetCompleted_spec (s : State) : ResetCompleted s (resetCompleted s) := by
  have hw := rewriteStatus_spec ((s.withCounters Counters.zero).withRst { s.rst with cause := s.rst.next })
  have hgrows := evalMatrix_grows (modPort (fun p => { p with ready := true, attention := Attn.reset.mask })
    (rewriteStatus ((s.withCounters Counters.zero).withRst { s.rst with cause := s.rst.next })))
  exact {
    port := rfl
    counters := rfl
    rst := rfl
    cause := statusRewrite_cause ((s.withCounters Counters.zero).withRst { s.rst with cause := s.rst.next })
    revision := hw.revision
    counts := fun _ => statusRewrite_counters_zero rfl
    outside := hw.outside
    grows := hgrows
    frame := rfl }

section
variable {s : State}

theorem completeReset_of_identified (hready : s.port.ready = false) (hident : ∀ l, (s.lane l).ident = none)
    (hrise : s.rst.needRise = false) : completeReset s =
    let t := takeFound (takeFound (resetCompleted s) .p0) .p1
    t.withRst { t.rst with callFound := Duo.both false } :=
  if_pos ⟨hready, (allIdentified_iff s).mpr hident, hrise⟩

/-- With a lane still to be identified the reset goes on (R162). -/
theorem completeReset_of_identifying {l : Lane} (h : (s.lane l).ident ≠ none) : completeReset s = s :=
  if_neg fun hc => h ((allIdentified_iff s).mp hc.2.1 l)

/-- With no CALL function found at 1 the steps of the completion are all that is done (R134, R162). -/
theorem completeReset_of_no_call (hready : s.port.ready = false) (hident : ∀ l, (s.lane l).ident = none)
    (hrise : s.rst.needRise = false) (hcall : s.rst.callFound = Duo.both false) :
    completeReset s = resetCompleted s := by
  have hu := resetCompleted_spec s
  have hfound : (resetCompleted s).rst.callFound = Duo.both false := by rw [hu.rst, hcall]
  have hnone (n : Cp) : takeFound (resetCompleted s) n = resetCompleted s :=
    if_neg (by rw [hfound]; cases n <;> exact Bool.false_ne_true)
  rw [completeReset_of_identified hready hident hrise, hnone, hnone]
  dsimp only
  rw [← hfound]
  rfl

/-! ## The last read of a reset -/

theorem completeIdents_of_no_waits (h : s.orders.waits = []) (l : Lane) : completeIdents l s = s := by
  rw [completeIdents, h]
  rfl

/-- Before the ready flag is set nothing is raised (R158, R162). -/
theorem raised_of_not_ready {p : Port} (h : p.ready = false) (bits : Byte) : raised p bits = p := by
  rw [raised, if_neg (by rw [h]; decide)]

theorem raise_of_not_ready (h : s.port.ready = false) (b : Attn) : raise b s = s :=
  if_neg (by rw [h]; decide)

/-- Before the ready flag is set a lane's block is rewritten and nothing else follows (R86). -/
theorem rewriteLane_of_not_ready (h : s.port.ready = false) (l : Lane) : rewriteLane l s = writeLane l s := by
  have hraise : raise .lane (writeLane l s) = writeLane l s := raise_of_not_ready (s := writeLane l s) h .lane
  unfold rewriteLane
  dsimp only
  rw [hraise, ite_self]

/-- A lane status block has been rewritten (R86). -/
structure LaneWritten (s u : State) (l : Lane) : Prop where
  revision : u.mem.num (0x600 + 64 * l.num) 2 = (s.mem.num (0x600 + 64 * l.num) 2 + 2) % 65536
  outside : SameOutside s u (0x600 + 64 * l.num) 36
  frame : u = { s with mem := u.mem }

theorem writeLane_spec (l : Lane) (s : State) : LaneWritten s (writeLane l s) l where
  revision := Memory.num_rewrite s.mem (0x600 + 64 * l.num) 36 _ (by decide)
  outside := fun a ha => Memory.read_rewrite_outside s.mem (0x600 + 64 * l.num) 36 _ a (by omega)
  frame := rfl

/-- A lane's last read in a reset, up to the reset's completion: the lane identified, its block rewritten (R86, R88). -/
structure LastReadTaken (s u : State) (l : Lane) : Prop where
  ident : (u.lane l).ident = none
  lanes : ∀ m, m ≠ l → u.lane m = s.lane m
  revision : u.mem.num (0x600 + 64 * l.num) 2 = (s.mem.num (0x600 + 64 * l.num) 2 + 2) % 65536
  outside : ∀ a, ¬(0x700 ≤ a ∧ a < 0xA00) → ¬(0x600 + 64 * l.num ≤ a ∧ a < 0x600 + 64 * l.num + 36) →
    u.mem.read a = s.mem.read a
  grows : s.matrix.Grows u.matrix
  frame : u = { s with
    lanes := u.lanes, survey := u.survey, link := u.link, startq := u.startq, table := u.table, needDue := u.needDue
    mem := u.mem, matrix := u.matrix }

theorem publishIdentity_spec (hready : s.port.ready = false) (hwaits : s.orders.waits = []) (l : Lane)
    (identity : BitVec 16) :
    LastReadTaken s (publishIdentity l (completeIdents l (identified l identity s))) l := by
  rw [identified_eq]
  have ha := modLane_spec l (LaneRec.identifiedAs identity (standbySetting s l)) s
  have haw := modLane_work l (LaneRec.identifiedAs identity (standbySetting s l)) s
  generalize modLane l _ s = a at ha haw
  have ht := stateByIdentity_spec l identity a
  generalize stateByIdentity l identity a = t at ht
  have hw := haw.trans ht.work
  have hport : t.port = s.port := hw.port.elim id fun e => e.trans (raised_of_not_ready hready _)
  have hready' : t.port.ready = false := by rw [hport, hready]
  rw [completeIdents_of_no_waits (by rw [hw.frame]; exact hwaits), publishIdentity, hready',
    if_neg Bool.false_ne_true, rewriteLane_of_not_ready hready']
  have hu := writeLane_spec l t
  generalize writeLane l t = u at hu
  have hlane : ∀ m, u.lane m = t.lane m := fun m => by rw [hu.frame]; rfl
  have hl : l.num < 4 := by cases l <;> decide
  exact {
    ident := by
      rw [hlane, ht.lane, ha.lane]
      rfl
    lanes := fun m hm => by rw [hlane, hw.lanes m hm]
    revision := by
      have hbefore : t.mem.num (0x600 + 64 * l.num) 2 = s.mem.num (0x600 + 64 * l.num) 2 :=
        Memory.num_two_congr fun x _ h2 => hw.outside x (by omega)
      rw [hu.revision, hbefore]
    outside := fun a h1 h2 => by rw [hu.outside a h2, hw.outside a (by omega)]
    grows := by
      have hmatrix : u.matrix = t.matrix := by rw [hu.frame]
      exact hmatrix ▸ hw.grows
    frame := by
      have hframe := hw.frame
      rw [hport] at hframe
      rw [hu.frame, hframe] }

end

end Sys2Proof.Machine

namespace Sys2Proof.Proofs
open Sys2Proof.Machine

/-- Settles O51: the last read identifies its lane and rewrites its block, and the reset completes behind it. -/
theorem theLastIdentityReadCompletesTheReset : Obligations.TheLastIdentityReadCompletesTheReset := by
  intro s l i sense hi hends hread hready hrise hothers hcall hwaits
  refine ⟨_, (exec_identityRead hi sense).trans (congrArg Host.Outcome.next (if_pos (decide_eq_true hends))), ?_⟩
  rw [takeRead_of_last hread]
  have ht := publishIdentity_spec hready hwaits l (putSense i.bits 3 sense)
  generalize publishIdentity l _ = t at ht
  have hport : t.port = s.port := by rw [ht.frame]
  have hrst : t.rst = s.rst := by rw [ht.frame]
  have hident (m : Lane) : (t.lane m).ident = none := by
    by_cases hm : m = l
    · rw [hm, ht.ident]
    · rw [ht.lanes m hm, hothers m hm]
  rw [completeReset_of_no_call (by rw [hport, hready]) hident (by rw [hrst, hrise]) (by rw [hrst, hcall]; rfl)]
  have hu := resetCompleted_spec t
  generalize resetCompleted t = u at hu
  have hl : l.num < 4 := by cases l <;> decide
  refine ⟨by rw [hu.port, hport], hu.counters, by rw [hu.rst, hrst], by rw [hu.cause, hrst], ?_, hu.counts,
    ht.grows.trans hu.grows, by rw [hu.frame, ht.frame], by rw [hu.frame, ht.frame], by rw [hu.frame, ht.frame],
    by rw [hu.frame, ht.frame], ?_, fun a h1 h2 h3 => ?_⟩
  · have hbefore : t.mem.num 0 2 = s.mem.num 0 2 := Memory.num_two_congr fun x h1 h2 =>
      ht.outside x (by omega) (by omega)
    rw [hu.revision, hbefore]
  · rw [← ht.revision]
    exact Memory.num_two_congr fun x h1 h2 => hu.outside x (by omega)
  · rw [hu.outside a (by omega), ht.outside a h2 h3]

end Sys2Proof.Proofs
end

section
namespace Sys2Proof.Machine

/-! ## The matrix and the supply at a reset -/

/-- A state with its INPUT lines sampled, debounce timers stopped and no event handed over (R134). -/
def sampledAnew (s : State) : State :=
  modMatrix (fun m => { m with debounced := sampleAll s, timers := Vector.replicate 12 none, raised := [] }) s

theorem sampledAnew_matrix (s : State) : (sampledAnew s).matrix = { s.matrix with
    debounced := sampleAll s, timers := Vector.replicate 12 none, raised := [] } := by
  simp only [sampledAnew, modMatrix, State.withMatrix]

theorem sampledAnew_frame (s : State) (m : Matrix) :
    ({ sampledAnew s with matrix := m } : State) = { s with matrix := m } := by
  simp only [sampledAnew, modMatrix, State.withMatrix]

theorem restartMatrix_eq (s : State) :
    restartMatrix s = modMatrix (fun m => { m with unshown := 0 }) (baselineMatrix (sampledAnew s)) := rfl

/-- The matrix has started again at a reset (R134): its configuration stays, no event is left, and the CALL functions at 1
are kept. -/
structure MatrixRestarted (s u : State) : Prop where
  config : u.matrix.config = s.matrix.config
  loaded : u.matrix.loaded = s.matrix.loaded
  raised : u.matrix.raised = []
  rst : u.rst = { s.rst with callFound := callsAtOne u }
  frame : u = { s with matrix := u.matrix, rst := u.rst }

/-- The matrix shows the evaluation at once, and the CALL functions at 1 are kept (R134). -/
def keepCalls (s : State) : State :=
  { s with matrix := { s.matrix with unshown := 0 }, rst := { s.rst with callFound := callsAtOne s } }

theorem resetMatrix_eq (s : State) : resetMatrix s = keepCalls (baselineMatrix (sampledAnew s)) := by
  unfold resetMatrix
  rw [restartMatrix_eq]
  generalize baselineMatrix (sampledAnew s) = b
  rfl

theorem resetMatrix_spec (s : State) : MatrixRestarted s (resetMatrix s) := by
  rw [resetMatrix_eq]
  have hb := baselineMatrix_spec (sampledAnew s)
  generalize baselineMatrix (sampledAnew s) = b at hb
  have hmatrix := hb.matrix
  rw [sampledAnew_matrix] at hmatrix
  have hframe := hb.frame
  rw [sampledAnew_frame] at hframe
  have hrst : b.rst = s.rst := by rw [hframe]
  exact {
    config := by
      show b.matrix.config = _
      rw [hmatrix]
    loaded := by
      show b.matrix.loaded = _
      rw [hmatrix]
    raised := by
      show b.matrix.raised = _
      rw [hmatrix]
    rst := by
      rw [← hrst]
      rfl
    frame := by
      unfold keepCalls
      rw [hframe] }

/-- A reset's measurement changes none but the readings, the level and the timer (R177, R186). -/
structure SupplyRead (s u : State) : Prop where
  power : u.supply.power = s.supply.power
  preDormant : u.supply.preDormant = s.supply.preDormant
  frame : u = { s with supply := u.supply }

theorem takeReadings_spec (plain : Bool) (battery temperature : BitVec 16) (s : State) :
    SupplyRead s (takeReadings plain battery temperature s) := ⟨rfl, rfl, rfl⟩

theorem resetBlocks_eq (s : State) : resetBlocks s = { s with
    lanes := ⟨identifying s .l0, identifying s .l1, identifying s .l2, identifying s .l3⟩
    survey := Survey.reset, startq := [], voice := Voice.reset, lamps := Duo.both Lamps.reset, needDue := false } := by
  simp only [resetBlocks, State.withNeedDue, State.withLamps, State.withVoice, State.withStartq, State.withSurvey,
    State.withLanes]

/-! ## Power-on -/

/-- The state of a power-on before the blocks take their reset values (R162). -/
def beforeBlocks (s : State) : State :=
  { s with
    time := { uptime := 0, clock := 0, ms := 0 }, tickDue := false, mem := Memory.powerOn, snap := none
    port := { txn := none, ptrA := 0, ptrB := 0, capA := none, capB := none, attention := 0, mask := 0xFF,
              ready := false, hsdo := 0 }
    counters := Counters.zero, ctxs := Duo.both Context.reset
    plan := { active := builtInPlan, loaded := false, pendingPlan := none }, table := []
    rst := { s.rst with cause := .powerOn, next := .powerOn, needRise := s.env.resetLow }
    supply := { s.supply with level := .healthy } }

/-- The state that a power-on comes to before its measurement and the matrix's evaluation (R162). -/
def poweredOn (s : State) : State :=
  { State.reset with
    pending := s.pending, env := s.env, mem := Memory.powerOn
    rst := { s.rst with cause := .powerOn, next := .powerOn, needRise := s.env.resetLow }
    matrix := { s.matrix with config := builtInMatrix, loaded := false }
    supply := { s.supply with level := .healthy, power := .active, preDormant := .active } }

/-- At power-on every lane's identification begins, its standby line floating by the defaults (R87, R94, R157). -/
theorem identifying_beforeBlocks (s : State) (l : Lane) : identifying (beforeBlocks s) l =
    { LaneRec.reset .float with ident := some { read := 0, bits := 0, ends := Config.identityMs } } := by
  have hstandby : standbySetting (beforeBlocks s) l = .float := by
    show Standby.ofByte (Memory.powerOn.read (Config.settingsBase + (0x58 + l.num))) = .float
    cases l <;> decide
  rw [identifying, hstandby]
  simp [beforeBlocks]

theorem resetBlocks_beforeBlocks (s : State) : resetBlocks (beforeBlocks s) = { beforeBlocks s with
    lanes := State.reset.lanes
    survey := Survey.reset, startq := [], voice := Voice.reset, lamps := Duo.both Lamps.reset, needDue := false } := by
  rw [resetBlocks_eq, identifying_beforeBlocks, identifying_beforeBlocks, identifying_beforeBlocks,
    identifying_beforeBlocks]
  rfl

theorem powerOn_eq (s : State) : powerOn s =
    rewriteStatus (resetMatrix (takeReadings true s.env.battery s.env.temperature (poweredOn s))) := by
  have hblocks : powerOn s = rewriteStatus (resetMatrix (resetSupply (modMatrix
      (fun m => { m with config := builtInMatrix, loaded := false })
      ((((resetBlocks (beforeBlocks s)).withLink Link.reset).withRecs Records.reset).withOrders ⟨[], []⟩)))) := by
    simp only [powerOn, beginReset, modPort, modSupply, State.withMem, State.withTime, State.withTickDue,
      State.withSnap, State.withCounters, State.withRst, State.withCtxs, State.withPlan, State.withTable,
      State.withPort, State.withSupply, beforeBlocks]
  rw [hblocks, resetBlocks_beforeBlocks]
  rfl

/-- The memory at power-on: the setting defaults and zeros (R156, R162). -/
theorem powerOn_read (a : Nat) : Memory.powerOn.read a =
    if 0x200 ≤ a ∧ a < 0x400 then (settingDefaults[a - 0x200]?).getD 0 else 0 :=
  Memory.read_place [] 0x200 0x200 settingDefaults a

/-! ### With the outside as at reset -/

theorem evalCells_of_constant {m : Matrix} {v : BitVec 8} (h : ∀ cells, m.cellSweep cells = v) (k : Nat)
    (cells : BitVec 8) : m.evalCells (k + 1) cells = v := by
  induction k generalizing cells with
  | zero => exact h cells
  | succ k ih => exact ih _

/-- The cells of the built-in configuration follow the debounced levels alone (R125, R133). -/
theorem cellSweep_builtIn {m : Matrix} (hc : m.config = builtInMatrix) (cells : BitVec 8) :
    m.cellSweep cells = BitVec.ofNat 8 (packBits
      [!m.debounced.getLsbD 1, !m.debounced.getLsbD 3, false, m.debounced.getLsbD 0 || m.debounced.getLsbD 1,
        m.debounced.getLsbD 2 || m.debounced.getLsbD 3, false, false, false]) := by
  simp [Matrix.cellSweep, cellIndexes, Matrix.cellOutput, hc, builtInMatrix, Matrix.srcValue, Matrix.lineValue, gate]

theorem fnValues_builtIn {m : Matrix} (hc : m.config = builtInMatrix) (cells : BitVec 8) :
    m.fnValues cells = BitVec.ofNat 6 (packBits
      [cells.getLsbD 3, cells.getLsbD 4, cells.getLsbD 0, cells.getLsbD 1, m.debounced.getLsbD 4, false]) := by
  simp [Matrix.fnValues, Matrix.bindValue, hc, builtInMatrix, Matrix.lineValue]

theorem reserveBase_poweredOn (s : State) : reserveBase (poweredOn s) = 11600 := by
  show clamp 9000 14000 (Memory.powerOn.num 0x25C 2) = 11600
  decide

theorem takeReadings_poweredOn (s : State) :
    takeReadings true Env.reset.battery Env.reset.temperature (poweredOn s)
      = (poweredOn s).withSupply State.reset.supply := by
  have hbattery : batteryMv Env.reset.battery = 12500 := by decide
  have htemperature : t10Of Env.reset.temperature = 250 := by decide
  have hthreshold : reserveThreshold 11600 250 = 11600 := by decide
  unfold takeReadings
  rw [reserveBase_poweredOn, hbattery, htemperature]
  dsimp only
  rw [hthreshold]
  rfl

section
variable (s : State)

theorem presentValue_modMatrix (f : Matrix → Matrix) (c : MatrixCfg) (x : OuterSource) :
    presentValue (modMatrix f s) c x = presentValue s c x := by cases x <;> rfl

/-- The blocks at power-on let no source of the matrix be at 1. -/
theorem presentValue_poweredOn (x : OuterSource) :
    presentValue ((poweredOn s).withSupply State.reset.supply) builtInMatrix x = false := by
  cases x with
  | active n => cases n <;> rfl
  | critical => rfl
  | line i => fin_cases i <;> rfl

theorem presentSources_poweredOn :
    presentSources (sampledAnew ((poweredOn s).withSupply State.reset.supply)) = State.reset.matrix.sources := by
  have hconfig : (sampledAnew ((poweredOn s).withSupply State.reset.supply)).matrix.config = builtInMatrix := rfl
  have hnone (x : OuterSource) :
      presentValue (sampledAnew ((poweredOn s).withSupply State.reset.supply)) builtInMatrix x = false := by
    rw [sampledAnew, presentValue_modMatrix, presentValue_poweredOn]
  unfold presentSources
  simp only [hconfig, hnone]
  decide

theorem sampleAll_poweredOn (h : s.env = Env.reset) :
    sampleAll ((poweredOn s).withSupply State.reset.supply) = 0b010000 := by
  have hlevel (i : Fin 12) : sampledLevel ((poweredOn s).withSupply State.reset.supply) i
      = (0b010000 : BitVec 12).getLsbD i := by
    show (match builtInMatrix.lines[i] with
      | .input _ inverted => s.env.pins.getLsbD i.val != inverted | .unused => false | .output _ => false) = _
    rw [h]
    fin_cases i <;> rfl
  rw [sampleAll, funext hlevel]
  decide

end

/-- With the outside as at reset the matrix's evaluation finds the values that it has right after reset (R134; log
entry 5). -/
theorem resetMatrix_poweredOn {s : State} (h : s.env = Env.reset) :
    (resetMatrix ((poweredOn s).withSupply State.reset.supply)).matrix = State.reset.matrix := by
  have hconfig : (sampledAnew ((poweredOn s).withSupply State.reset.supply)).matrix.config = builtInMatrix := rfl
  have hlevels : (sampledAnew ((poweredOn s).withSupply State.reset.supply)).matrix.debounced = 0b010000 :=
    sampleAll_poweredOn s h
  have hcomputed := baselineMatrix_matrix (sampledAnew ((poweredOn s).withSupply State.reset.supply))
  rw [presentSources_poweredOn] at hcomputed
  generalize hm : ({ (sampledAnew ((poweredOn s).withSupply State.reset.supply)).matrix with
    cells := _, sources := _ } : Matrix) = m at hcomputed
  have hmconfig : m.config = builtInMatrix := by rw [← hm]; exact hconfig
  have hmlevels : m.debounced = 0b010000 := by rw [← hm]; exact hlevels
  have hcells : m.evalCells 8 m.cells = 3 := by
    refine evalCells_of_constant (k := 7) (fun cells => ?_) _
    rw [cellSweep_builtIn hmconfig, hmlevels]
    decide
  have hfns : m.fnValues 3 = 0b011100 := by
    rw [fnValues_builtIn hmconfig, hmlevels]
    decide
  rw [resetMatrix_eq, keepCalls]
  show { (baselineMatrix (sampledAnew ((poweredOn s).withSupply State.reset.supply))).matrix with unshown := 0 } = _
  rw [hcomputed, Matrix.computed, hcells, hfns, hmconfig, hmlevels, ← hm]
  rfl
/-- With the outside as at reset, power-on makes the state right after reset (R162; log entries 5 and 6). -/
theorem powerOn_of_reset_env {s : State} (h : s.env = Env.reset) : powerOn s = State.reset.withPending s.pending := by
  have hz : resetMatrix ((poweredOn s).withSupply State.reset.supply)
      = (State.reset.withPending s.pending).withMem Memory.powerOn := by
    have hspec := resetMatrix_spec ((poweredOn s).withSupply State.reset.supply)
    have hmatrix : (resetMatrix ((poweredOn s).withSupply State.reset.supply)).matrix = State.reset.matrix :=
      resetMatrix_poweredOn h
    generalize resetMatrix ((poweredOn s).withSupply State.reset.supply) = z at hspec hmatrix
    have hcalls : callsAtOne z = Duo.both false := by
      rw [callsAtOne, hmatrix]
      decide
    rw [hspec.frame, hmatrix, hspec.rst, hcalls]
    unfold poweredOn
    rw [h]
    rfl
  have hcontent : statusContent ((State.reset.withPending s.pending).withMem Memory.powerOn)
      = statusContent State.reset := rfl
  have hmem : Memory.powerOn.rewrite Config.statusBase statusSize (statusContent State.reset) = Memory.afterPowerOn := by
    decide
  rw [powerOn_eq, h, takeReadings_poweredOn, hz, rewriteStatus, hcontent]
  show State.withMem _ (Memory.powerOn.rewrite _ _ _) = _
  rw [hmem]
  rfl

/-- What power-on leaves, whatever the outside (R162). -/
structure PoweredOn (s u : State) : Prop where
  power : u.supply.power = .active
  preDormant : u.supply.preDormant = .active
  config : u.matrix.config = builtInMatrix
  loaded : u.matrix.loaded = false
  cause : u.rst.cause = .powerOn
  outside : ∀ a, 42 ≤ a → u.mem.read a = Memory.powerOn.read a
  frame : u = { poweredOn s with supply := u.supply, matrix := u.matrix, rst := u.rst, mem := u.mem }

theorem powerOn_spec (s : State) : PoweredOn s (powerOn s) := by
  rw [powerOn_eq]
  have hv := takeReadings_spec true s.env.battery s.env.temperature (poweredOn s)
  generalize takeReadings true s.env.battery s.env.temperature (poweredOn s) = v at hv
  have hz := resetMatrix_spec v
  generalize resetMatrix v = z at hz
  have hu := rewriteStatus_spec z
  generalize rewriteStatus z = u at hu
  have hsupply : u.supply = v.supply := by rw [hu.frame, hz.frame]
  have hmatrix : u.matrix = z.matrix := by rw [hu.frame]
  exact {
    power := by rw [hsupply, hv.power]; rfl
    preDormant := by rw [hsupply, hv.preDormant]; rfl
    config := by rw [hmatrix, hz.config, hv.frame]; rfl
    loaded := by rw [hmatrix, hz.loaded, hv.frame]; rfl
    cause := by rw [hu.frame, hz.rst, hv.frame]; rfl
    outside := fun a ha => by rw [hu.outside a (by omega), hz.frame, hv.frame]; rfl
    frame := by rw [hu.frame, hz.frame, hv.frame] }

end Sys2Proof.Machine

namespace Sys2Proof.Proofs
open Sys2Proof.Machine

/-- Settles O4, by the state that power-on comes to and, with the outside as at reset, by its evaluation. -/
theorem powerOnLeavesNothingOfTheOldState : Obligations.PowerOnLeavesNothingOfTheOldState := by
  intro s
  refine ⟨powerOn s, rfl, powerOn_of_reset_env, ?_⟩
  have hu := powerOn_spec s
  generalize powerOn s = u at hu
  have hlength : settingDefaults.length = 0x78 := by decide
  refine ⟨by rw [hu.frame]; rfl, by rw [hu.frame]; rfl, by rw [hu.frame]; rfl, by rw [hu.frame]; rfl,
    by rw [hu.frame]; rfl, hu.cause, fun n => ?_, by rw [hu.frame]; rfl, by rw [hu.frame]; rfl,
    by rw [hu.frame]; rfl, by rw [hu.frame]; rfl, by rw [hu.frame]; rfl, by rw [hu.frame]; rfl,
    by rw [hu.frame]; rfl, by rw [hu.frame]; rfl, hu.config, hu.loaded, hu.power, hu.preDormant, fun a h1 h2 => ?_,
    fun k hk => ?_⟩
  · rw [hu.frame]
    cases n <;> rfl
  · rw [hu.outside a (by omega), powerOn_read]
    split
    · rw [List.getElem?_eq_none (by rw [hlength]; omega)]
      rfl
    · rfl
  · rw [hu.outside _ (by omega), powerOn_read, if_pos (by omega), Nat.add_sub_cancel_left]

end Sys2Proof.Proofs
end

section
namespace Sys2Proof.Machine

/-! ## Blocks rewritten in a reset -/

/-- Blocks that the part alone writes have been rewritten; the order slots are not among them (9.2). -/
structure BlocksRewritten (s u : State) : Prop where
  slots : ∀ a, 0x100 ≤ a → a < 0x200 → u.mem.read a = s.mem.read a
  frame : u = { s with mem := u.mem }

section
variable {s t u : State}

theorem BlocksRewritten.refl (s : State) : BlocksRewritten s s := ⟨fun _ _ _ => rfl, rfl⟩

theorem BlocksRewritten.trans (h : BlocksRewritten s t) (k : BlocksRewritten t u) : BlocksRewritten s u where
  slots a h1 h2 := (k.slots a h1 h2).trans (h.slots a h1 h2)
  frame := by rw [k.frame, h.frame]

theorem BlocksRewritten.ready (h : BlocksRewritten s u) : u.port.ready = s.port.ready := by rw [h.frame]

/-- Before the ready flag is set, rewrites of blocks one after the other are one (R86, R147, R162). -/
theorem foldl_blocksRewritten {α : Type} {g : State → α → State}
    (hg : ∀ s a, s.port.ready = false → BlocksRewritten s (g s a)) (l : List α) {s : State}
    (hs : s.port.ready = false) : BlocksRewritten s (l.foldl g s) := by
  induction l generalizing s with
  | nil => exact .refl s
  | cons a l ih => exact (hg s a hs).trans (ih ((hg s a hs).ready.trans hs))

theorem withMem_blocksRewritten {m : Memory} (h : ∀ a, 0x100 ≤ a → a < 0x200 → m.read a = s.mem.read a) :
    BlocksRewritten s (s.withMem m) := ⟨h, rfl⟩

/-- Bytes placed clear of the order slots. -/
theorem place_blocksRewritten (s : State) {a n : Nat} (h : a + n ≤ 0x100 ∨ 0x200 ≤ a) (bs : List Byte) :
    BlocksRewritten s (s.withMem (s.mem.place a n bs)) :=
  withMem_blocksRewritten fun x h1 h2 => (Memory.read_place s.mem a n bs x).trans (if_neg (by omega))

theorem makeEven_slots (m : Memory) {base : Nat} (h : base + 2 ≤ 0x100 ∨ 0x200 ≤ base) {a : Nat} (h1 : 0x100 ≤ a)
    (h2 : a < 0x200) : (m.makeEven base).read a = m.read a := by
  unfold Memory.makeEven
  split
  · exact (Memory.read_place m base 2 _ a).trans (if_neg (by omega))
  · rfl

theorem laneAddr_ge (l : Lane) : 0x200 ≤ laneAddr l := by cases l <;> decide

theorem recordAddr_ge (i : Fin 12) : 0x200 ≤ recordAddr i := by rw [recordAddr_eq]; omega

/-- Every block's revision count is made even (R162). -/
theorem evenAll_spec (s : State) : BlocksRewritten s (evenAll s) := by
  have hlanes (ls : List Lane) (m : Memory) {a : Nat} (h1 : 0x100 ≤ a) (h2 : a < 0x200) :
      (ls.foldl (fun m l => m.makeEven (laneAddr l)) m).read a = m.read a := by
    induction ls generalizing m with
    | nil => rfl
    | cons l ls ih => exact (ih _).trans (makeEven_slots m (.inr (laneAddr_ge l)) h1 h2)
  refine withMem_blocksRewritten fun a h1 h2 => ?_
  rw [hlanes lanes _ h1 h2, makeEven_slots _ (.inr (by decide)) h1 h2, makeEven_slots _ (.inl (by decide)) h1 h2]

theorem evenRecord_spec (i : Fin 12) (s : State) : BlocksRewritten s (evenRecord i s) :=
  withMem_blocksRewritten fun _ h1 h2 => makeEven_slots s.mem (.inr (recordAddr_ge i)) h1 h2

theorem mendRecord_spec (s : State) (i : Fin 12) : BlocksRewritten s (mendRecord s i) := by
  unfold mendRecord
  split
  · exact (evenRecord_spec i s).trans (place_blocksRewritten _ (.inr (recordAddr_ge i)) _)
  · exact .refl s

theorem evenOwn_spec (n : Cp) (s : State) : BlocksRewritten s (evenOwn n s) := by
  unfold evenOwn
  split
  · exact .refl s
  · exact evenRecord_spec _ s

theorem rewriteLane_blocksRewritten (hs : s.port.ready = false) (l : Lane) : BlocksRewritten s (rewriteLane l s) := by
  rw [rewriteLane_of_not_ready hs]
  exact place_blocksRewritten s (.inr (laneAddr_ge l)) _

end

/-! ## The calls that a reset ends -/

/-- A record as a part reset closes it (R28, R144). -/
def CallRecord.ClosedByReset (r : CallRecord) : Prop := r.state = .closed ∧ r.final = some .partReset

/-- A context's call has been ended by a part reset (R28). -/
structure CallReset (s u : State) (n : Cp) : Prop where
  own : ∀ j, (s.ctx n).record = some j → (u.record j).ClosedByReset
  others : ∀ k, (s.ctx n).record ≠ some k → u.record k = s.record k
  otherCtx : u.ctx n.other = s.ctx n.other
  slots : ∀ a, 0x100 ≤ a → a < 0x200 → u.mem.read a = s.mem.read a
  frame : u = { s with ctxs := u.ctxs, recs := u.recs, voice := u.voice, mem := u.mem, matrix := u.matrix }

section
variable {s : State}

theorem closeRecord_port_of_not_ready (hs : s.port.ready = false) (n : Cp) (final : Option CallOutcome) :
    (closeRecord n final s).port = s.port := by
  cases h : (s.ctx n).record with
  | none => rw [closeRecord_of_none h, (endAttempt_spec _ _ _).frame]
  | some i => rw [(closeRecord_spec n final s).port i h, raised_of_not_ready hs]

theorem closeForReset_spec (hs : s.port.ready = false) (n : Cp) : CallReset s (closeForReset n s) n := by
  unfold closeForReset
  have hp := breakPath_spec n s
  generalize breakPath n s = p at hp
  have he := evenOwn_spec n p
  generalize evenOwn n p = e at he
  have hctx : ∀ m, e.ctx m = s.ctx m := fun m => by rw [he.frame, hp.frame]; rfl
  have hrecord : ∀ k, e.record k = p.record k := fun k => by rw [he.frame]; rfl
  have hport : e.port = s.port := by rw [he.frame, hp.frame]
  have hready : e.port.ready = false := by rw [hport, hs]
  have huport := closeRecord_port_of_not_ready hready n (some .partReset)
  have hu := closeRecord_spec n (some .partReset) e
  generalize closeRecord n (some .partReset) e = u at hu huport
  exact {
    own := fun j hj => by
      rw [hu.own j (by rw [hctx, hj])]
      exact ⟨rfl, rfl⟩
    others := fun k hk => by rw [hu.others k (by rwa [hctx]), hrecord, hp.others k hk]
    otherCtx := by rw [hu.otherCtx, hctx]
    slots := fun a h1 h2 => by
      rw [hu.outside a (by rintro ⟨j, -, hj, -⟩; omega), he.slots a h1 h2, hp.frame]
    frame := by
      have hframe := hu.frame
      rw [huport] at hframe
      rw [hframe, he.frame, hp.frame] }

/-- Both contexts have their reset values, and the records that they held are closed (R28, R147). -/
structure ContextsReset (s u : State) : Prop where
  ctx : ∀ n, u.ctx n = Context.reset
  closed : ∀ n i, (s.ctx n).record = some i → (u.record i).ClosedByReset
  slots : ∀ a, 0x100 ≤ a → a < 0x200 → u.mem.read a = s.mem.read a
  frame : u = { s with ctxs := u.ctxs, recs := u.recs, voice := u.voice, mem := u.mem, matrix := u.matrix }

/-- The contexts are closed one after the other, in the one order or the other (R147). -/
theorem resetContexts_eq (s : State) : ∃ n : Cp,
    resetContexts s = (closeForReset n.other (closeForReset n s)).withCtxs (Duo.both Context.reset) := by
  have horder : closingOrder s = [.p0, .p1] ∨ closingOrder s = [.p1, .p0] := by
    unfold closingOrder
    split
    · split
      · exact .inr rfl
      · exact .inl rfl
    · exact .inl rfl
  unfold resetContexts
  rcases horder with e | e <;> rw [e]
  exacts [⟨.p0, rfl⟩, ⟨.p1, rfl⟩]

theorem resetContexts_spec (hs : s.port.ready = false) : ContextsReset s (resetContexts s) := by
  obtain ⟨n, e⟩ := resetContexts_eq s
  rw [e]
  have hv := closeForReset_spec hs n
  generalize closeForReset n s = v at hv
  have hready : v.port.ready = false := by rw [hv.frame, hs]
  have hw := closeForReset_spec hready n.other
  generalize closeForReset n.other v = w at hw
  have hclosed (i : Fin 12) (h : (v.record i).ClosedByReset ∨ (s.ctx n.other).record = some i) :
      (w.record i).ClosedByReset := by
    by_cases hi : (v.ctx n.other).record = some i
    · exact hw.own i hi
    · rw [hw.others i hi]
      exact h.resolve_right fun hother => hi (by rw [hv.otherCtx, hother])
  exact {
    ctx := fun m => by cases m <;> rfl
    closed := fun m i hi => by
      show (w.record i).ClosedByReset
      obtain rfl | rfl : m = n ∨ m = n.other := by cases m <;> cases n <;> decide
      · exact hclosed i (.inl (hv.own i hi))
      · exact hclosed i (.inr hi)
    slots := fun a h1 h2 => (hw.slots a h1 h2).trans (hv.slots a h1 h2)
    frame := by rw [hw.frame, hv.frame]; rfl }

end

/-! ## The orders that a reset aborts -/

/-- A slot in POSTED, TAKEN or WITHDRAW holds an order that a reset aborts (R175). -/
def Aborts (s : State) (i : Fin 8) : Prop := s.slotState i = 1 ∨ s.slotState i = 2 ∨ s.slotState i = 4

/-- The orders of some slots have been aborted (R175). -/
structure OrdersAborted (s u : State) (is : List (Fin 8)) : Prop where
  done : ∀ i ∈ is, Aborts s i → OrderDone u i 9 []
  keepsDone : ∀ i, OrderDone s i 9 [] → OrderDone u i 9 []
  kept : ∀ i, ¬Aborts s i → u.slotState i = s.slotState i
  frame : u = { s with mem := u.mem, orders := u.orders, matrix := u.matrix }

section
variable {s : State}

theorem abortSlot_of_aborts {i : Fin 8} (h : Aborts s i) : abortSlot s i = completeOrder i .abortedByReset [] s :=
  if_pos h

theorem abortSlot_of_other {i : Fin 8} (h : ¬Aborts s i) : abortSlot s i = s := if_neg h

/-- One slot's abort: its order is DONE, the other slots keep what they hold (R175). -/
structure SlotAborted (s u : State) (i : Fin 8) : Prop where
  done : Aborts s i → OrderDone u i 9 []
  keepsDone : ∀ j, OrderDone s j 9 [] → OrderDone u j 9 []
  kept : ∀ j, j ≠ i ∨ ¬Aborts s j → u.slotState j = s.slotState j
  frame : u = { s with mem := u.mem, orders := u.orders, matrix := u.matrix }

theorem abortSlot_spec (hs : s.port.ready = false) (i : Fin 8) : SlotAborted s (abortSlot s i) i := by
  by_cases h : Aborts s i
  · rw [abortSlot_of_aborts h]
    have hu := completeOrder_spec i .abortedByReset [] s
    generalize completeOrder i .abortedByReset [] s = u at hu
    have hport : u.port = s.port := by rw [hu.port, raised_of_not_ready hs]
    have hdone : OrderDone u i 9 [] := orderDone_of_mem hu.mem
    exact {
      done := fun _ => hdone
      keepsDone := fun j hj => by
        by_cases e : j = i
        · rw [e]
          exact hdone
        · exact hu.keeps_done e hj
      kept := fun j hj => hu.slotState_of_ne fun e => hj.elim (· e) fun hn => hn (e ▸ h)
      frame := by
        have hframe := hu.frame
        rwa [hport] at hframe }
  · rw [abortSlot_of_other h]
    exact ⟨fun ha => absurd ha h, fun _ => id, fun _ _ => rfl, rfl⟩

theorem foldl_abortSlot_spec (is : List (Fin 8)) (hs : s.port.ready = false) :
    OrdersAborted s (is.foldl abortSlot s) is := by
  induction is generalizing s with
  | nil => exact ⟨nofun, fun _ => id, fun _ _ => rfl, rfl⟩
  | cons a is ih =>
    rw [List.foldl_cons]
    have hv := abortSlot_spec hs a
    generalize abortSlot s a = v at hv
    have hready : v.port.ready = false := by rw [hv.frame, hs]
    have hu := ih hready
    generalize is.foldl abortSlot v = u at hu
    have haborts {i : Fin 8} (hi : i ≠ a ∨ ¬Aborts s i) : Aborts v i ↔ Aborts s i := by
      unfold Aborts
      rw [hv.kept i hi]
    exact {
      done := fun i hi ha => by
        by_cases e : i = a
        · exact hu.keepsDone i (e ▸ hv.done (e ▸ ha))
        · exact hu.done i ((List.mem_cons.mp hi).resolve_left e) ((haborts (.inl e)).mpr ha)
      keepsDone := fun i hi => hu.keepsDone i (hv.keepsDone i hi)
      kept := fun i hi => by rw [hu.kept i ((haborts (.inr hi)).not.mpr hi), hv.kept i (.inr hi)]
      frame := by rw [hu.frame, hv.frame] }

theorem resetOrders_spec (hs : s.port.ready = false) : OrdersAborted s (resetOrders s) slotIndexes := by
  have h := foldl_abortSlot_spec slotIndexes hs
  unfold resetOrders
  generalize slotIndexes.foldl abortSlot s = u at h
  exact ⟨h.done, h.keepsDone, h.kept, by rw [h.frame]; rfl⟩

theorem mem_slotIndexes (i : Fin 8) : i ∈ slotIndexes := by fin_cases i <;> decide

end

end Sys2Proof.Machine
end

section
namespace Sys2Proof.Machine

/-! ## The part reset -/

/-- The calls are ended and the records mended, at the beginning of a part reset (R28, R147, R162). -/
def resetCalls (cause : ResetCause) (needRise : Bool) (s : State) : State :=
  recordIndexes.foldl mendRecord (resetContexts (evenAll (beginReset cause needRise s)))

/-- The link after a part reset: the transaction in flight runs on without its result (R107). -/
def Link.afterReset (k : Link) : Link :=
  { Link.reset with inFlight := k.inFlight.map fun t => { t with wanted := false } }

/-- No plan is pending and no candidate listed, and the blocks have their reset values (R29, R70, R84, R85, R107). -/
def resetTables (s : State) : State :=
  let t := resetBlocks (publishTable [] (s.withPlan { s.plan with pendingPlan := none }))
  t.withLink t.link.afterReset

theorem partReset_eq (cause : ResetCause) (needRise : Bool) (s : State) : partReset cause needRise s =
    rewriteStatus (resetMatrix (resetSupply (resetOrders
      (lanes.foldl (fun s l => rewriteLane l s) (resetTables (resetCalls cause needRise s)))))) := by
  simp only [partReset, resetCalls, resetTables, Link.afterReset]

/-- The calls' part of a reset (R28, R144, R147). -/
structure CallsReset (s u : State) (cause : ResetCause) (needRise : Bool) : Prop where
  port : u.port = { s.port with ready := false, attention := 0, capA := none, capB := none }
  ctx : ∀ n, u.ctx n = Context.reset
  closed : ∀ n i, (s.ctx n).record = some i → (u.record i).ClosedByReset
  slots : ∀ a, 0x100 ≤ a → a < 0x200 → u.mem.read a = s.mem.read a
  frame : u = { s with
    port := u.port, rst := { s.rst with next := cause, needRise := needRise }, ctxs := u.ctxs, recs := u.recs
    voice := u.voice, mem := u.mem, matrix := u.matrix }

theorem resetCalls_spec (cause : ResetCause) (needRise : Bool) (s : State) :
    CallsReset s (resetCalls cause needRise s) cause needRise := by
  have hframe : beginReset cause needRise s = { s with
    port := { s.port with ready := false, attention := 0, capA := none, capB := none }
    rst := { s.rst with next := cause, needRise := needRise } } := rfl
  unfold resetCalls
  generalize beginReset cause needRise s = t at hframe
  have hready : t.port.ready = false := by rw [hframe]
  have ha := evenAll_spec t
  generalize evenAll t = a at ha
  have hc := resetContexts_spec (ha.ready.trans hready)
  generalize resetContexts a = c at hc
  have hcready : c.port.ready = false := by rw [hc.frame, ha.ready, hready]
  have hu := foldl_blocksRewritten (fun s i _ => mendRecord_spec s i) recordIndexes hcready
  generalize recordIndexes.foldl mendRecord c = u at hu
  exact {
    port := by rw [hu.frame, hc.frame, ha.frame, hframe]
    ctx := fun n => by
      rw [hu.frame]
      exact hc.ctx n
    closed := fun n i hi => by
      rw [hu.frame]
      exact hc.closed n i (by rw [ha.frame, hframe]; exact hi)
    slots := fun a h1 h2 => by rw [hu.slots a h1 h2, hc.slots a h1 h2, ha.slots a h1 h2, hframe]
    frame := by rw [hu.frame, hc.frame, ha.frame, hframe] }

/-- The tables' part of a reset. -/
structure TablesReset (s u : State) : Prop where
  lanes : ∀ l, ∃ standby ident, u.lane l = { LaneRec.reset standby with ident := some ident }
  slots : ∀ a, 0x100 ≤ a → a < 0x200 → u.mem.read a = s.mem.read a
  frame : u = { s with
    plan := { s.plan with pendingPlan := none }, table := [], lanes := u.lanes, survey := Survey.reset, startq := []
    link := s.link.afterReset, voice := Voice.reset, lamps := Duo.both Lamps.reset, needDue := false, mem := u.mem }

section
variable {s : State}

/-- Before the ready flag is set a table without candidates is published without attention (R70). -/
theorem publishTable_nil_of_not_ready (hs : s.port.ready = false) :
    BlocksRewritten (s.withTable []) (publishTable [] s) := by
  have hpublish : publishTable [] s = raise .table ((s.withTable []).withMem
      (s.mem.rewrite Config.mirrorBase mirrorSize (mirrorContent []))) := rfl
  rw [hpublish.trans (raise_of_not_ready (s := (s.withTable []).withMem _) hs .table)]
  exact place_blocksRewritten (s.withTable []) (.inr (by decide)) _

theorem resetTables_spec (hs : s.port.ready = false) : TablesReset s (resetTables s) := by
  have ht := publishTable_nil_of_not_ready (s := s.withPlan { s.plan with pendingPlan := none }) hs
  unfold resetTables
  generalize publishTable [] (s.withPlan { s.plan with pendingPlan := none }) = t at ht
  rw [resetBlocks_eq]
  exact {
    lanes := fun l => by cases l <;> exact ⟨_, _, rfl⟩
    slots := fun a h1 h2 => ht.slots a h1 h2
    frame := by rw [ht.frame]; rfl }

end

/-- What a part reset leaves, up to its completion (R162, steps 1 and 2). -/
structure PartReset (s u : State) (cause : ResetCause) (needRise : Bool) : Prop where
  port : u.port = { s.port with ready := false, attention := 0, capA := none, capB := none }
  next : u.rst.next = cause
  needRise : u.rst.needRise = needRise
  ctx : ∀ n, u.ctx n = Context.reset
  closed : ∀ n i, (s.ctx n).record = some i → (u.record i).ClosedByReset
  lanes : ∀ l, ∃ standby ident, u.lane l = { LaneRec.reset standby with ident := some ident }
  aborted : ∀ i, Aborts s i → OrderDone u i 9 []
  kept : ∀ i, ¬Aborts s i → u.slotState i = s.slotState i
  power : u.supply.power = .active
  preDormant : u.supply.preDormant = .active
  raised : u.matrix.raised = []
  frame : u = { s with
    port := u.port, rst := u.rst, ctxs := u.ctxs, plan := { s.plan with pendingPlan := none }, table := []
    lanes := u.lanes, survey := Survey.reset, startq := [], link := s.link.afterReset, voice := Voice.reset
    lamps := Duo.both Lamps.reset, needDue := false, recs := u.recs, orders := { posted := [], waits := [] }
    supply := u.supply, matrix := u.matrix, mem := u.mem }

/-- A completed order stays one where its slot's bytes do. -/
theorem orderDone_congr {s u : State} {i : Fin 8} {r : Byte} {d : List Byte}
    (h : ∀ a, 0x100 ≤ a → a < 0x200 → u.mem.read a = s.mem.read a) (hd : OrderDone s i r d) : OrderDone u i r d := by
  have hread (k : Nat) (hk : k < 32) : u.mem.read (0x100 + 32 * i.val + k) = s.mem.read (0x100 + 32 * i.val + k) :=
    h _ (by omega) (by omega)
  obtain ⟨hstate, hresult, hzero, hdetail⟩ := hd
  refine ⟨(hread 0 (by decide)).trans hstate, by rw [hread 16 (by decide), hresult],
    by rw [hread 17 (by decide), hzero], fun k hk => ?_⟩
  rw [Nat.add_assoc, hread (18 + k) (by omega), ← Nat.add_assoc, hdetail k hk]

theorem slotState_congr {s u : State} (h : ∀ a, 0x100 ≤ a → a < 0x200 → u.mem.read a = s.mem.read a) (i : Fin 8) :
    u.slotState i = s.slotState i := h _ (by rw [slotAddr_eq]; omega) (by rw [slotAddr_eq]; omega)

/-- The supply at a reset: ACTIVE, and measured (R186). -/
structure SupplyReset (s u : State) : Prop where
  power : u.supply.power = .active
  preDormant : u.supply.preDormant = .active
  frame : u = { s with supply := u.supply }

theorem resetSupply_spec (s : State) : SupplyReset s (resetSupply s) := ⟨rfl, rfl, rfl⟩

theorem partReset_spec (cause : ResetCause) (needRise : Bool) (s : State) :
    PartReset s (partReset cause needRise s) cause needRise := by
  rw [partReset_eq]
  have hb := resetCalls_spec cause needRise s
  generalize resetCalls cause needRise s = b at hb
  have hbready : b.port.ready = false := by rw [hb.port]
  have ht := resetTables_spec hbready
  generalize resetTables b = t at ht
  have htready : t.port.ready = false := by rw [ht.frame, hbready]
  have hg := foldl_blocksRewritten (fun s l hs => rewriteLane_blocksRewritten hs l) lanes htready
  generalize lanes.foldl (fun s l => rewriteLane l s) t = g at hg
  have ho := resetOrders_spec (hg.ready.trans htready)
  have horders : (resetOrders g).orders = { posted := [], waits := [] } := rfl
  generalize resetOrders g = o at ho horders
  have hv := resetSupply_spec o
  generalize resetSupply o = v at hv
  have hz := resetMatrix_spec v
  generalize resetMatrix v = z at hz
  have hu := rewriteStatus_spec z
  generalize rewriteStatus z = u at hu
  have hbefore (a : Nat) (h1 : 0x100 ≤ a) (h2 : a < 0x200) : g.mem.read a = s.mem.read a := by
    rw [hg.slots a h1 h2, ht.slots a h1 h2, hb.slots a h1 h2]
  have hafter (a : Nat) (h1 : 0x100 ≤ a) (_ : a < 0x200) : u.mem.read a = o.mem.read a := by
    rw [hu.outside a (by omega), hz.frame, hv.frame]
  have haborts (i : Fin 8) : Aborts g i ↔ Aborts s i := by
    unfold Aborts
    rw [slotState_congr hbefore]
  have hframe : u = { s with
      port := b.port, rst := u.rst, ctxs := b.ctxs, plan := { s.plan with pendingPlan := none }, table := []
      lanes := t.lanes, survey := Survey.reset, startq := [], link := s.link.afterReset, voice := Voice.reset
      lamps := Duo.both Lamps.reset, needDue := false, recs := b.recs, orders := { posted := [], waits := [] }
      supply := v.supply, matrix := u.matrix, mem := u.mem } := by
    have hoframe := ho.frame
    rw [horders] at hoframe
    rw [hu.frame, hz.frame, hv.frame, hoframe, hg.frame, ht.frame, hb.frame]
  have hrst : v.rst = { s.rst with next := cause, needRise := needRise } := by
    rw [hv.frame, ho.frame, hg.frame, ht.frame, hb.frame]
  have hurst : u.rst = { v.rst with callFound := callsAtOne z } := by rw [hu.frame, hz.rst]
  exact {
    port := by rw [hframe, hb.port]
    next := by rw [hurst, hrst]
    needRise := by rw [hurst, hrst]
    ctx := fun n => by
      rw [hframe]
      exact hb.ctx n
    closed := fun n i hi => by
      rw [hframe]
      exact hb.closed n i hi
    lanes := fun l => by
      rw [hframe]
      exact ht.lanes l
    aborted := fun i hi => orderDone_congr hafter (ho.done i (mem_slotIndexes i) ((haborts i).mpr hi))
    kept := fun i hi => by
      rw [slotState_congr hafter, ho.kept i ((haborts i).not.mpr hi), slotState_congr hbefore]
    power := by rw [hframe, hv.power]
    preDormant := by rw [hframe, hv.preDormant]
    raised := by rw [hu.frame, hz.raised]
    frame := by rw [hframe] }

/-! ### What the host owns, and the port -/

/-- Two states that agree on what only a few commands change agree on every byte that the host owns. -/
theorem read_of_inner {s u : State} (h : u.outer.inner = s.outer.inner) {a : Nat} (ha : hostByte a = true) :
    u.mem.read a = s.mem.read a := by
  have hhost := congrFun (congrArg Inner.host h) a
  change (if hostByte a then u.mem.read a else 0) = (if hostByte a then s.mem.read a else 0) at hhost
  rwa [if_pos ha, if_pos ha] at hhost

theorem hostByte_of_host {a : Nat} (h : 0x200 ≤ a ∧ a < 0x600 ∨ 0xA00 ≤ a ∧ a < 0x1000 ∨ 0x1C00 ≤ a) :
    hostByte a = true := by
  rw [hostByte, placeOf_host h]

theorem partResetDone (cause : ResetCause) (needRise : Bool) (s : State) :
    PartResetDone s (partReset cause needRise s) := by
  have hu := partReset_spec cause needRise s
  have hinner := partReset_inner cause needRise s
  generalize partReset cause needRise s = u at hu hinner
  have haborts (i : Fin 8) (h : s.slotState i = 0 ∨ s.slotState i = 3) : ¬Aborts s i := by
    unfold Aborts
    rcases h with e | e <;> rw [e] <;> decide
  refine ⟨by rw [hu.port], by rw [hu.port], by rw [hu.port], by rw [hu.port], by rw [hu.port], by rw [hu.port],
    by rw [hu.port], hu.ctx, by rw [hu.frame], by rw [hu.frame], by rw [hu.frame], by rw [hu.frame], by rw [hu.frame],
    by rw [hu.frame], fun l => ?_, fun x hx => ?_, fun n => ?_, by rw [hu.frame]; rfl, by rw [hu.frame], fun n => ?_,
    by rw [hu.frame], fun i => ⟨hu.aborted i, fun h => hu.kept i (haborts i h)⟩, hu.power, hu.preDormant,
    congrArg Inner.config hinner, congrArg Inner.loaded hinner, hu.raised, congrArg Inner.time hinner,
    by rw [hu.frame], congrArg Inner.pending hinner, fun a ha => read_of_inner hinner (hostByte_of_host ha),
    hu.closed⟩
  · obtain ⟨standby, ident, e⟩ := hu.lanes l
    rw [e]
    exact ⟨rfl, rfl, rfl, rfl⟩
  · rw [hu.frame] at hx
    obtain ⟨t, -, rfl⟩ := Option.map_eq_some_iff.mp hx
    rfl
  · rw [hu.frame]
    cases n <;> rfl
  · rw [hu.frame]
    cases n <;> rfl

/-- RESETn has fallen: the open transaction is closed (R148, R162). -/
def resetnHeld (s : State) : State :=
  (modPort (fun p => { p with txn := none }) (s.withEnv { s.env with resetLow := true })).withSnap none

/-- RESETn falling changes nothing that a part reset is judged by. -/
theorem partResetDone_of_resetnHeld {s t : State} (h : PartResetDone (resetnHeld s) t) : PartResetDone s t := h

section
variable {s : State}

theorem exec_resetnFall (h : s.env.resetLow = false) :
    exec .resetnFall s = .next (partReset .pin true (resetnHeld s)) := by
  refine congrArg Host.Outcome.next (if_neg ?_)
  rw [h]
  decide

theorem exec_resetnFall_of_low (h : s.env.resetLow = true) : exec .resetnFall s = .next s :=
  congrArg Host.Outcome.next (if_pos h)

end

end Sys2Proof.Machine

namespace Sys2Proof.Proofs
open Sys2Proof.Machine

/-- Settles O5, by the part reset that both commands make. -/
theorem partResetClearsTheBlocks : Obligations.PartResetClearsTheBlocks := by
  intro s
  refine ⟨fun h => ⟨_, exec_partReset h, ?_⟩, fun h => ⟨_, exec_resetnFall h, ?_⟩, exec_resetnFall_of_low⟩
  · have hu := partReset_spec .control false s
    have hinner := partReset_inner .control false s
    have hdone := partResetDone .control false s
    generalize partReset .control false s = u at hu hinner hdone
    exact ⟨hdone, congrArg Inner.env hinner, congrArg Inner.txn hinner, hu.next, hu.needRise⟩
  · have hu := partReset_spec .pin true (resetnHeld s)
    have hinner := partReset_inner .pin true (resetnHeld s)
    have hdone := partResetDone_of_resetnHeld (partResetDone .pin true (resetnHeld s))
    generalize partReset .pin true (resetnHeld s) = u at hu hinner hdone
    have henv : u.env = { s.env with resetLow := true } := congrArg Inner.env hinner
    have hpin (k) : u.fieldPin k = .highImpedance := by
      rw [State.fieldPin, henv, if_pos rfl]
    exact ⟨hdone, henv, congrArg Inner.txn hinner, hu.next, hu.needRise, hpin⟩

end Sys2Proof.Proofs
end

section
namespace Sys2Proof.Machine

/-! ## What a reset's completion has left

No operation behind a completed reset begins another one, clears the ready flag or touches the attention bit RESET. One
lemma for each operation, in the order of Sys2Proof/Laws/Outer.lean, up to a CALL function taken at the completion
(R134). -/

/-- What a completed reset leaves and only another reset or the host changes (R158, R162). -/
structure Completion where
  rst   : ResetSeq
  ready : Bool
  reset : Bool

/-- That part of a state. -/
def State.completion (s : State) : Completion :=
  { rst := s.rst, ready := s.port.ready, reset := s.port.attention.getLsbD 7 }

/-- RESET is bit 7 of the attention register, and no other block's bit (R158). -/
theorem Attn.mask_reset {b : Attn} (h : b ≠ .reset) : b.mask.getLsbD 7 = false := by
  revert h
  cases b <;> decide

@[simp] theorem ite_completion (c : Prop) [Decidable c] (a b : State) :
    (if c then a else b).completion = if c then a.completion else b.completion := apply_ite _ _ _ _

theorem foldl_completion {α : Type} (g : State → α → State) (h : ∀ s a, (g s a).completion = s.completion)
    (as : List α) (s : State) : (as.foldl g s).completion = s.completion := by
  induction as generalizing s with
  | nil => rfl
  | cons a as ih => rw [List.foldl_cons, ih, h]

section
variable (s : State) (n : Cp) (l : Lane)

@[simp] theorem withCtxs_completion (v) : (s.withCtxs v).completion = s.completion := rfl
@[simp] theorem withPlan_completion (v) : (s.withPlan v).completion = s.completion := rfl
@[simp] theorem withTable_completion (v) : (s.withTable v).completion = s.completion := rfl
@[simp] theorem withSurvey_completion (v) : (s.withSurvey v).completion = s.completion := rfl
@[simp] theorem withLanes_completion (v) : (s.withLanes v).completion = s.completion := rfl
@[simp] theorem withStartq_completion (v) : (s.withStartq v).completion = s.completion := rfl
@[simp] theorem withLink_completion (v) : (s.withLink v).completion = s.completion := rfl
@[simp] theorem withVoice_completion (v) : (s.withVoice v).completion = s.completion := rfl
@[simp] theorem withLamps_completion (v) : (s.withLamps v).completion = s.completion := rfl
@[simp] theorem withRecs_completion (v) : (s.withRecs v).completion = s.completion := rfl
@[simp] theorem withOrders_completion (v) : (s.withOrders v).completion = s.completion := rfl
@[simp] theorem withCounters_completion (v) : (s.withCounters v).completion = s.completion := rfl
@[simp] theorem withSupply_completion (v) : (s.withSupply v).completion = s.completion := rfl
@[simp] theorem withNeedDue_completion (v) : (s.withNeedDue v).completion = s.completion := rfl
@[simp] theorem modCtx_completion (n f) : (modCtx n f s).completion = s.completion := rfl
@[simp] theorem modLane_completion (l f) : (modLane l f s).completion = s.completion := rfl
@[simp] theorem modScan_completion (l f) : (modScan l f s).completion = s.completion := rfl
@[simp] theorem modLink_completion (f) : (modLink f s).completion = s.completion := rfl
@[simp] theorem modCounters_completion (f) : (modCounters f s).completion = s.completion := rfl
@[simp] theorem modSupply_completion (f) : (modSupply f s).completion = s.completion := rfl

@[simp] theorem putRecord_completion (i : Fin 12) (r : CallRecord) : (putRecord i r s).completion = s.completion := by
  simp [putRecord]

@[simp] theorem modRecord_completion (f : CallRecord → CallRecord) : (modRecord n f s).completion = s.completion := by
  unfold modRecord
  split <;> simp

/-! ### The attention register and the blocks -/

@[simp] theorem evalMatrix_completion : (evalMatrix s).completion = s.completion := rfl

/-- No block but the reset's completion raises RESET (R158, R162). -/
theorem raise_completion {b : Attn} (h : b ≠ .reset) : (raise b s).completion = s.completion := by
  unfold raise
  split
  · rw [evalMatrix_completion]
    show Completion.mk s.rst s.port.ready ((s.port.attention ||| b.mask).getLsbD 7) = s.completion
    rw [BitVec.getLsbD_or, Attn.mask_reset h, Bool.or_false]
    rfl
  · rfl

@[simp] theorem countOverwritten_completion : (countOverwritten s).completion = s.completion := by
  simp [countOverwritten]

@[simp] theorem rewriteStatus_completion : (rewriteStatus s).completion = s.completion := rfl

@[simp] theorem rewriteStatuses_completion (k : Nat) : (rewriteStatuses k s).completion = s.completion := by
  induction k generalizing s with
  | zero => rfl
  | succ k ih => rw [rewriteStatuses, ih, rewriteStatus_completion]

@[simp] theorem flushStatus_completion : (flushStatus s).completion = s.completion := by
  unfold flushStatus
  split
  · simp only [ite_completion, rewriteStatus_completion, ite_self]
  · rw [rewriteStatuses_completion]
    rfl

@[simp] theorem writeLane_completion : (writeLane l s).completion = s.completion := rfl

@[simp] theorem rewriteLane_completion : (rewriteLane l s).completion = s.completion := by
  simp [rewriteLane, raise_completion]

@[simp] theorem flushLane_completion : (flushLane l s).completion = s.completion := by simp [flushLane]

@[simp] theorem publishBlocks_completion : (publishBlocks s).completion = s.completion := by
  simp only [publishBlocks, flushStatus_completion, flushLane_completion]

/-! ### The candidate table -/

@[simp] theorem publishTable_completion (t : List Entry) : (publishTable t s).completion = s.completion := by
  rw [publishTable, raise_completion _ (by decide)]
  rfl

@[simp] theorem rescoreLane_completion : (rescoreLane l s).completion = s.completion := by simp [rescoreLane]

@[simp] theorem setNoResp_completion (n : Nat) : (setNoResp l n s).completion = s.completion := by simp [setNoResp]

/-! ### The call records -/

@[simp] theorem rewriteRecord_completion (i : Fin 12) : (rewriteRecord i s).completion = s.completion := rfl

@[simp] theorem flushRecord_completion : (flushRecord n s).completion = s.completion := by
  unfold flushRecord
  split <;> simp

@[simp] theorem showRecord_completion : (showRecord n s).completion = s.completion := by
  unfold showRecord
  split <;> simp

@[simp] theorem publish_completion : (publish s).completion = s.completion := by simp [publish]

@[simp] theorem openRecord_completion (kind : CallKind) (source : CallSource) :
    (openRecord n kind source s).completion = s.completion := by
  unfold openRecord
  split <;> simp [raise_completion]

@[simp] theorem beginAttempt_completion (net : Option Network) (score : Nat) :
    (beginAttempt n l net score s).completion = s.completion := by
  simp [beginAttempt]

@[simp] theorem endAttempt_completion (o : CallOutcome) : (endAttempt n o s).completion = s.completion := by
  unfold endAttempt
  split <;> simp

@[simp] theorem setLast_completion (o : CallOutcome) : (setLast n o s).completion = s.completion := by simp [setLast]

@[simp] theorem setLocation_completion (v : LocStatus) : (setLocation n v s).completion = s.completion := by
  simp [setLocation]

@[simp] theorem closeRecord_completion (final : Option CallOutcome) :
    (closeRecord n final s).completion = s.completion := by
  unfold closeRecord
  dsimp only
  split <;> simp [raise_completion]

@[simp] theorem countPress_completion : (countPress n s).completion = s.completion := by simp [countPress]

/-! ### The voice path -/

@[simp] theorem setState_completion (st : CtxState) : (setState n st s).completion = s.completion := by
  simp [setState]

@[simp] theorem modBurst_completion (f : Burst → Burst) : (modBurst n f s).completion = s.completion := by
  simp [modBurst]

@[simp] theorem setMute_completion (v : Bool) : (setMute n v s).completion = s.completion := by simp [setMute]

@[simp] theorem abortBurst_completion : (abortBurst n s).completion = s.completion := by simp [abortBurst]

@[simp] theorem breakPath_completion : (breakPath n s).completion = s.completion := by simp [breakPath]

/-! ### The arbiter -/

@[simp] theorem giveUp_completion (p : Transaction → Bool) : (giveUp p s).completion = s.completion := by
  simp [giveUp]

@[simp] theorem giveUpCtx_completion : (giveUpCtx n s).completion = s.completion := by simp [giveUpCtx]

@[simp] theorem giveUpSurvey_completion : (giveUpSurvey l s).completion = s.completion := by simp [giveUpSurvey]

@[simp] theorem giveUpLane_completion : (giveUpLane l s).completion = s.completion := by simp [giveUpLane]

@[simp] theorem setRequest_completion (q : Option CtxRequest) : (setRequest n q s).completion = s.completion := by
  simp [setRequest]

@[simp] theorem ctxRequest_completion (kind : OpKind) (args : List Byte) :
    (ctxRequest n kind args s).completion = s.completion := by
  unfold ctxRequest
  split <;> simp

@[simp] theorem dropRequest_completion : (dropRequest n s).completion = s.completion := by simp [dropRequest]

@[simp] theorem addMaint_completion (k : MaintKind) : (addMaint l k s).completion = s.completion := by simp [addMaint]

@[simp] theorem dropMaint_completion (k : MaintKind) : (dropMaint l k s).completion = s.completion := by
  simp [dropMaint]

@[simp] theorem queueScan_completion (tx : ScanTx) : (queueScan l tx s).completion = s.completion := by
  simp [queueScan]

@[simp] theorem settleWait_completion : (settleWait s).completion = s.completion := by simp [settleWait]

@[simp] theorem dropScan_completion : (dropScan l s).completion = s.completion := by simp [dropScan]

@[simp] theorem withdrawLane_completion : (withdrawLane l s).completion = s.completion := by simp [withdrawLane]

@[simp] theorem sendRequest_completion (code : ReqCode) (who : Requester) (args : List Byte) (holder : Option Owner) :
    (sendRequest l code who args holder s).completion = s.completion := by
  simp [sendRequest]

@[simp] theorem countWait_completion : (countWait s).completion = s.completion := by simp [countWait]

@[simp] theorem performGrant_completion (g : Grant) : (performGrant g s).completion = s.completion := by
  unfold performGrant
  (repeat' split) <;> simp

@[simp] theorem grantLink_completion : (grantLink s).completion = s.completion := by
  unfold grantLink
  (repeat' split) <;> simp

/-! ### The lane manager -/

@[simp] theorem markLane_completion : (markLane l s).completion = s.completion := by simp [markLane]

@[simp] theorem markAll_completion : (markAll s).completion = s.completion := by
  unfold markAll
  exact foldl_completion _ (by simp) _ _

@[simp] theorem markNeed_completion : (markNeed s).completion = s.completion := by simp [markNeed]

@[simp] theorem joinList_completion : (joinList l s).completion = s.completion := by simp [joinList]

@[simp] theorem leaveList_completion : (leaveList l s).completion = s.completion := by simp [leaveList]

@[simp] theorem dueOnRequest_completion : (dueOnRequest l s).completion = s.completion := by simp [dueOnRequest]

@[simp] theorem dueNow_completion : (dueNow l s).completion = s.completion := by simp [dueNow]

@[simp] theorem dueLater_completion : (dueLater l s).completion = s.completion := by simp [dueLater]

@[simp] theorem dueNever_completion : (dueNever l s).completion = s.completion := by simp [dueNever]

@[simp] theorem tellRequests_completion (v : ReqStatus) : (tellRequests l v s).completion = s.completion := by
  simp [tellRequests]

@[simp] theorem staleTag_completion : (staleTag l s).completion = s.completion := by simp [staleTag]

@[simp] theorem endScan_completion (completed : Bool) : (endScan l completed s).completion = s.completion := by
  simp [endScan]

@[simp] theorem scanLost_completion : (scanLost l s).completion = s.completion := by simp [scanLost]

@[simp] theorem considerRing_completion : (considerRing l s).completion = s.completion := by simp [considerRing]

@[simp] theorem startProbe_completion : (startProbe l s).completion = s.completion := by simp [startProbe]

@[simp] theorem stopProbe_completion : (stopProbe l s).completion = s.completion := by simp [stopProbe]

@[simp] theorem setOwner_completion (o : Owner) : (setOwner l o s).completion = s.completion := by simp [setOwner]

@[simp] theorem releaseSurvey_completion : (releaseSurvey l s).completion = s.completion := by simp [releaseSurvey]

@[simp] theorem cutPower_completion : (cutPower l s).completion = s.completion := by simp [cutPower]

@[simp] theorem powerOff_completion : (powerOff l s).completion = s.completion := by simp [powerOff]

@[simp] theorem setLaneState_completion (st : LaneState) : (setLaneState l st s).completion = s.completion := by
  simp [setLaneState]

@[simp] theorem dequeue_completion : (dequeue l s).completion = s.completion := by simp [dequeue]

@[simp] theorem becomeReady_completion : (becomeReady l s).completion = s.completion := by simp [becomeReady]

@[simp] theorem enqueue_completion : (enqueue l s).completion = s.completion := by simp [enqueue]

@[simp] theorem requeue_completion : (requeue l s).completion = s.completion := by simp [requeue]

@[simp] theorem giveNeed_completion : (giveNeed l s).completion = s.completion := by
  unfold giveNeed
  split <;> simp

@[simp] theorem dropNeed_completion : (dropNeed l s).completion = s.completion := by
  unfold dropNeed
  split <;> simp

@[simp] theorem needLane_completion : (needLane s l).completion = s.completion := by simp [needLane]

@[simp] theorem needPass_completion : (needPass s).completion = s.completion := by
  unfold needPass
  split
  · rw [foldl_completion _ needLane_completion, publishBlocks_completion, withNeedDue_completion]
  · rfl

@[simp] theorem startLane_completion : (startLane l s).completion = s.completion := by simp [startLane]

@[simp] theorem startNext_completion : (startNext s).completion = s.completion := by
  unfold startNext
  split <;> simp

/-! ### The survey engine -/

@[simp] theorem startScan_completion : (startScan l s).completion = s.completion := by simp [startScan]

@[simp] theorem skipLane_completion : (skipLane l s).completion = s.completion := by simp [skipLane]

@[simp] theorem considerLane_completion : (considerLane s l).completion = s.completion := by simp [considerLane]

@[simp] theorem considerAll_completion :
    (considerAll s).completion = s.completion := by
  unfold considerAll
  split
  · dsimp only
    rw [foldl_completion _ considerLane_completion, foldl_completion _ considerLane_completion,
      publishBlocks_completion]
  · rfl

@[simp] theorem abandonStage_completion : (abandonStage l s).completion = s.completion := by
  unfold abandonStage
  split <;> simp

@[simp] theorem abandonScan_completion : (abandonScan l s).completion = s.completion := by simp [abandonScan]

@[simp] theorem surveyStop_completion : (surveyStop s).completion = s.completion := by
  unfold surveyStop
  exact foldl_completion _ (by simp) _ _

@[simp] theorem requestDue_completion (q : SurveyReq) : (requestDue q s l).completion = s.completion := by
  simp [requestDue]

@[simp] theorem requestDues_completion (q : SurveyReq) : (requestDues q s).completion = s.completion := by
  unfold requestDues
  exact foldl_completion _ (by simp) _ _

@[simp] theorem makeCtxRequest_completion (named : Lane → Bool) :
    (makeCtxRequest n named s).completion = s.completion := by
  simp [makeCtxRequest]

@[simp] theorem dropRescan_completion : (dropRescan n s).completion = s.completion := by simp [dropRescan]

@[simp] theorem dropOrderRequest_completion (slot : Fin 8) : (dropOrderRequest slot s).completion = s.completion := by
  simp [dropOrderRequest]

@[simp] theorem sweepLane_completion : (sweepLane s l).completion = s.completion := by simp [sweepLane]

@[simp] theorem skipSweep_completion : (skipSweep s).completion = s.completion := by
  unfold skipSweep
  exact foldl_completion _ (by simp) _ _

/-! ### The call engine -/

@[simp] theorem releaseClaim_completion : (releaseClaim n s).completion = s.completion := by
  unfold releaseClaim
  split <;> simp

@[simp] theorem takeLane_completion : (takeLane n l s).completion = s.completion := by simp [takeLane]

@[simp] theorem clearPendingClaim_completion : (clearPendingClaim n s).completion = s.completion := by
  simp [clearPendingClaim]

@[simp] theorem staleClaim_completion : (staleClaim n s).completion = s.completion := by
  unfold staleClaim
  split <;> simp

@[simp] theorem stopStep_completion : (stopStep n s).completion = s.completion := by simp [stopStep]

@[simp] theorem startStep_completion (d : Nat) : (startStep n d s).completion = s.completion := by simp [startStep]

@[simp] theorem stepMove_completion (target : Option Nat) : (stepMove n target s).completion = s.completion := by
  simp [stepMove]

@[simp] theorem leaveConnected_completion : (leaveConnected n s).completion = s.completion := by simp [leaveConnected]

@[simp] theorem enterClearing_completion (pend : Option CallOutcome) :
    (enterClearing n pend s).completion = s.completion := by
  simp [enterClearing]

@[simp] theorem replacePending_completion (o : CallOutcome) : (replacePending n o s).completion = s.completion := by
  unfold replacePending
  split <;> simp

@[simp] theorem stopTimers_completion : (stopTimers n s).completion = s.completion := by simp [stopTimers]

@[simp] theorem toIdle_completion (final : Option CallOutcome) : (toIdle n final s).completion = s.completion := by
  simp [toIdle]

@[simp] theorem endCall_completion (o : CallOutcome) : (endCall n o s).completion = s.completion := by simp [endCall]

@[simp] theorem startCall_completion (kind : CallKind) (source : CallSource) (number : Option (Fin 4)) (hold : Bool) :
    (startCall n kind source number hold s).completion = s.completion := by
  simp [startCall]

@[simp] theorem takeRequest_completion (kind : CallKind) (source : CallSource) (number : Option (Fin 4)) (hold : Bool) :
    (takeRequest n kind source number hold s).completion = s.completion := by
  simp [takeRequest]

@[simp] theorem startEmergency_completion : (startEmergency n s).completion = s.completion := by simp [startEmergency]

@[simp] theorem finishTeardown_completion (o : CallOutcome) : (finishTeardown n o s).completion = s.completion := by
  simp [finishTeardown]

@[simp] theorem teardown_completion (o : CallOutcome) : (teardown n o s).completion = s.completion := by
  unfold teardown
  split <;> simp

@[simp] theorem preemptOwn_completion : (preemptOwn n s).completion = s.completion := by simp [preemptOwn]

@[simp] theorem refuseSupply_completion : (refuseSupply n s).completion = s.completion := by simp [refuseSupply]

@[simp] theorem endPauseStep_completion : (endPauseStep n s).completion = s.completion := by simp [endPauseStep]

@[simp] theorem endRetryPause_completion : (endRetryPause n s).completion = s.completion := by simp [endRetryPause]

@[simp] theorem endPause_completion : (endPause n s).completion = s.completion := by simp [endPause]

@[simp] theorem endSurveyWait_completion : (endSurveyWait n s).completion = s.completion := by simp [endSurveyWait]

@[simp] theorem startDial_completion : (startDial n s).completion = s.completion := by simp [startDial]

@[simp] theorem startAttach_completion (op : OpCode) (mask : BitVec 4) :
    (startAttach n op mask s).completion = s.completion := by
  simp [startAttach]

@[simp] theorem proceedOnReady_completion : (proceedOnReady n l s).completion = s.completion := by
  unfold proceedOnReady
  split <;> simp

@[simp] theorem answerRing_completion : (answerRing n s).completion = s.completion := by simp [answerRing]

/-! ### An evaluation's steps -/

@[simp] theorem startAttempt_completion (p : Pick) : (startAttempt n p s).completion = s.completion := by
  simp [startAttempt]

@[simp] theorem waitForPreempted_completion (p : Pick) : (waitForPreempted n p s).completion = s.completion := by
  simp [waitForPreempted]

@[simp] theorem claimAndGo_completion (p : Pick) : (claimAndGo n p s).completion = s.completion := by
  simp [claimAndGo]

@[simp] theorem enterPause_completion (wait : Nat) : (enterPause n wait s).completion = s.completion := by
  simp [enterPause]

@[simp] theorem reachEnd_completion : (reachEnd n s).completion = s.completion := by
  unfold reachEnd
  dsimp only
  split <;> simp

@[simp] theorem refuseNumber_completion (a : AttemptStep) (p : Pick) :
    (refuseNumber n a p s).state.completion = s.completion := by
  unfold refuseNumber
  dsimp only
  split <;> simp [Evaluated.state]

@[simp] theorem actOn_completion (a : AttemptStep) (num : NumberEntry) (p : Option Pick) :
    (actOn n a num p s).state.completion = s.completion := by
  unfold actOn
  cases p with
  | none => rfl
  | some p =>
    dsimp only
    split
    · exact refuseNumber_completion s n a p
    · split <;> simp [Evaluated.state]

@[simp] theorem enterRescan_completion (wait : Nat) : (enterRescan n wait s).state.completion = s.completion := by
  unfold enterRescan
  dsimp only
  split <;> simp [Evaluated.state]

@[simp] theorem evalStep_completion : (evalStep n s).state.completion = s.completion := by
  unfold evalStep
  dsimp only
  split
  · exact reachEnd_completion s n
  · split
    · exact reachEnd_completion s n
    · exact reachEnd_completion s n
    · exact enterPause_completion s n _
    · exact enterRescan_completion s n _
    · exact actOn_completion _ n _ _ _
    · exact actOn_completion _ n _ _ _

@[simp] theorem evalLoop_completion (k : Nat) : (evalLoop n k s).completion = s.completion := by
  induction k generalizing s with
  | zero =>
    have h := evalStep_completion s n
    unfold evalLoop
    cases e : evalStep n s <;> simpa [e, Evaluated.state] using h
  | succ k ih =>
    have h := evalStep_completion s n
    unfold evalLoop
    cases e : evalStep n s <;> simpa [e, Evaluated.state, ih] using h

@[simp] theorem evaluate_completion : (evaluate n s).completion = s.completion := by
  unfold evaluate
  split <;> simp

/-! ### What follows at once -/

@[simp] theorem setSlotState_completion (i : Fin 8) (b : Byte) : (setSlotState i b s).completion = s.completion := rfl

@[simp] theorem completeOrder_completion (i : Fin 8) (r : ResultCode) (detail : List Byte) :
    (completeOrder i r detail s).completion = s.completion := by
  rw [completeOrder, raise_completion _ (by decide)]
  rfl

@[simp] theorem proceed_completion : (proceed n s).completion = s.completion := by
  unfold proceed
  (repeat' split) <;> simp

@[simp] theorem leaveSurveyWait_completion : (leaveSurveyWait n s).completion = s.completion := by
  simp [leaveSurveyWait]

@[simp] theorem completeSurvey_completion (x : Fin 8 × SurveyReq) :
    (completeSurvey s x).completion = s.completion := by
  simp [completeSurvey]

@[simp] theorem completeSurveys_completion : (completeSurveys s).completion = s.completion := by
  unfold completeSurveys
  exact foldl_completion _ (by simp) _ _

@[simp] theorem activatePlan_completion : (activatePlan s).completion = s.completion := by
  unfold activatePlan
  (repeat' split) <;> simp

@[simp] theorem round_completion : (round s).completion = s.completion := by simp [round]

@[simp] theorem settleRounds_completion (k : Nat) : (settleRounds k s).completion = s.completion := by
  induction k generalizing s with
  | zero => rfl
  | succ k ih =>
    unfold settleRounds
    split
    · rw [ih, round_completion]
    · rfl

@[simp] theorem settle_completion : (settle s).completion = s.completion := settleRounds_completion s _

@[simp] theorem finish_completion : (finish s).completion = s.completion := by simp [finish]

/-! ### The supply and the CALL event -/

@[simp] theorem takeReadings_completion (plain : Bool) (battery temperature : BitVec 16) :
    (takeReadings plain battery temperature s).completion = s.completion := by
  simp [takeReadings]

@[simp] theorem rereadStandby_completion : (rereadStandby s l).completion = s.completion := by
  simp [rereadStandby]

@[simp] theorem levelChanged_completion (wasStopped : Bool) :
    (levelChanged wasStopped s).completion = s.completion := by
  simp [levelChanged, raise_completion]

@[simp] theorem measure_completion (battery temperature : BitVec 16) :
    (measure battery temperature s).completion = s.completion := by
  have h : ∀ u : State, (lanes.foldl rereadStandby u).completion = u.completion :=
    foldl_completion _ rereadStandby_completion _
  unfold measure
  dsimp only
  split <;> simp [h]

@[simp] theorem changePower_completion (p : PowerState) : (changePower p s).completion = s.completion := by
  simp [changePower, raise_completion]

@[simp] theorem leaveDormant_completion : (leaveDormant s).completion = s.completion := by
  unfold leaveDormant
  split <;> simp

@[simp] theorem wake_completion : (wake s).completion = s.completion := by
  unfold wake
  split <;> simp

@[simp] theorem callByState_completion : (callByState n s).completion = s.completion := by
  unfold callByState
  split <;> simp

@[simp] theorem callTaken_completion : (callTaken n s).completion = s.completion := by
  simp [callTaken, raise_completion]

end

end Sys2Proof.Machine
end

section
namespace Sys2Proof.Machine

/-! ## RESETn rises -/

section
variable {s : State}

theorem takeFound_completion (s : State) (n : Cp) : (takeFound s n).completion = s.completion := by
  unfold takeFound
  split
  · rw [callTaken_completion, publish_completion]
  · rfl

/-- What a reset's completion leaves, whatever CALL functions it found at 1 (R134, R162). -/
structure CompletionLeft (s u : State) : Prop where
  ready : u.port.ready = true
  reset : u.port.attention.getLsbD 7 = true
  cause : u.rst.cause = s.rst.next
  needRise : u.rst.needRise = s.rst.needRise

theorem completeReset_completion (hready : s.port.ready = false) (hident : ∀ l, (s.lane l).ident = none)
    (hrise : s.rst.needRise = false) : CompletionLeft s (completeReset s) := by
  rw [completeReset_of_identified hready hident hrise]
  have ht := resetCompleted_spec s
  generalize resetCompleted s = t at ht
  have hu : (takeFound (takeFound t .p0) .p1).completion = t.completion :=
    (takeFound_completion _ _).trans (takeFound_completion _ _)
  generalize takeFound (takeFound t .p0) .p1 = u at hu
  have hrst : u.rst = t.rst := congrArg Completion.rst hu
  have huready : u.port.ready = t.port.ready := congrArg Completion.ready hu
  have hreset : u.port.attention.getLsbD 7 = t.port.attention.getLsbD 7 := congrArg Completion.reset hu
  exact {
    ready := huready.trans (by rw [ht.port])
    reset := by
      have hbit : (0x80 : Byte).getLsbD 7 = true := by decide
      rw [State.withRst_port, hreset, ht.port, hbit]
    cause := by
      dsimp only [State.withRst]
      rw [hrst, ht.rst]
    needRise := by
      dsimp only [State.withRst]
      rw [hrst, ht.rst] }

/-- RESETn has risen: the port reset is made, and the reset waits for the pin no more (R161, R162). -/
def resetnReleased (s : State) : State :=
  (resetPort (s.withEnv { s.env with resetLow := false })).withRst { s.rst with needRise := false }

theorem exec_resetnRise (h : s.env.resetLow = true) :
    exec .resetnRise s = .next (finish (completeReset (resetMatrix (resetnReleased s)))) :=
  congrArg Host.Outcome.next (if_pos h)

end

end Sys2Proof.Machine

namespace Sys2Proof.Proofs
open Sys2Proof.Machine

/-- Settles O6: the released port's values stand through the reset's completion, which is made or waits for a lane. -/
theorem resetnRiseResetsThePortAndCompletes : Obligations.ResetnRiseResetsThePortAndCompletes := by
  intro s hlow hready
  refine ⟨_, exec_resetnRise hlow, ?_⟩
  have hm := resetMatrix_spec (resetnReleased s)
  have hminner := resetMatrix_inner (resetnReleased s)
  generalize resetMatrix (resetnReleased s) = m at hm hminner
  have hport : m.port = (resetnReleased s).port := by rw [hm.frame]
  have hrst : m.rst = { s.rst with needRise := false, callFound := callsAtOne m } := hm.rst
  have hlanes : m.lanes = s.lanes := by rw [hm.frame]; rfl
  have hmready : m.port.ready = false := by rw [hport]; exact hready
  have hneed : m.rst.needRise = false := by rw [hrst]
  have hident (l : Lane) : (m.lane l).ident = (s.lane l).ident := by rw [State.lane, hlanes]; rfl
  have huinner := (completeReset_inner m).trans hminner
  have hcompleted (h : ∀ l, (s.lane l).ident = none) : CompletionLeft m (completeReset m) :=
    completeReset_completion hmready (fun l => (hident l).trans (h l)) hneed
  have hwaits (l : Lane) (h : (s.lane l).ident ≠ none) : completeReset m = m :=
    completeReset_of_identifying (l := l) (by rw [hident]; exact h)
  generalize completeReset m = u at huinner hcompleted hwaits
  refine ⟨congrArg Inner.env huinner, congrArg Inner.ptrA huinner, congrArg Inner.ptrB huinner,
    congrArg Inner.mask huinner, ?_, congrArg Inner.time huinner, congrArg Inner.config huinner, fun h => ?_, ?_⟩
  · by_cases h : ∀ l, (s.lane l).ident = none
    · rw [(hcompleted h).needRise, hneed]
    · obtain ⟨l, hl⟩ := not_forall.mp h
      rw [hwaits l hl, hneed]
  · have hu := hcompleted h
    exact ⟨hu.ready, hu.reset, by rw [hu.cause, hrst]⟩
  · rintro ⟨l, hl⟩
    rw [hwaits l hl]
    exact ⟨hmready, by rw [hport]; rfl, by rw [hm.frame]; rfl, by rw [hm.frame]; rfl⟩

end Sys2Proof.Proofs
end

section
namespace Sys2Proof.Machine

/-! ## Withdrawal -/

/-- A plan that waits is discarded and a survey request dropped; an identification goes on (R168). -/
theorem giveUpWait_of_wait {s : State} {i : Fin 8} {w : Wait}
    (h : s.orders.waits.find? (fun x => decide (x.1 = i)) = some (i, w)) :
    giveUpWait i s = { s with
      plan := { s.plan with pendingPlan := if w = .plan then none else s.plan.pendingPlan }
      survey := { s.survey with orderReq :=
        if w = .survey then s.survey.orderReq.filter (fun x => decide (x.1 ≠ i)) else s.survey.orderReq } } := by
  unfold giveUpWait
  rw [h]
  cases w with
  | plan => rfl
  | survey => rfl
  | ident l => rfl

theorem exec_orderWithdrawal {s : State} {i : Fin 8} (h : s.slotState i = 4) :
    exec (.orderWithdrawal i) s = .next (finish (completeOrder i .withdrawn [] (giveUpWait i s))) :=
  congrArg Host.Outcome.next (if_pos h)

theorem exec_orderWithdrawal_of_other {s : State} {i : Fin 8} (h : s.slotState i ≠ 4) :
    exec (.orderWithdrawal i) s = .next s :=
  congrArg Host.Outcome.next (if_neg h)

end Sys2Proof.Machine

namespace Sys2Proof.Proofs
open Sys2Proof.Machine

/-- Settles O30, by what the order waits for, given up before the order completes. -/
theorem withdrawalGivesUpTheWait : Obligations.WithdrawalGivesUpTheWait := by
  intro s i
  refine ⟨fun w hslot hwait => ⟨_, exec_orderWithdrawal hslot, ?_⟩, exec_orderWithdrawal_of_other⟩
  have hv := giveUpWait_of_wait hwait
  generalize giveUpWait i s = v at hv
  have hu := completeOrder_spec i .withdrawn [] v
  generalize completeOrder i .withdrawn [] v = u at hu
  have hmem : v.mem = s.mem := by rw [hv]
  have horders : v.orders = s.orders := by rw [hv]
  have hport : v.port = s.port := by rw [hv]
  have hmatrix : v.matrix = s.matrix := by rw [hv]
  have hgrows : s.matrix.Grows u.matrix := hmatrix ▸ hu.grows
  refine ⟨orderDone_of_mem hu.mem, fun a _ hstate hresult => ?_, by rw [hu.orders, horders],
    by rw [hu.port, hport], hgrows, by rw [hu.frame, hv], by rw [hu.frame, hv], by rw [hu.frame, hv]⟩
  rw [hu.read hstate hresult, hmem]

end Sys2Proof.Proofs
end

section
namespace Sys2Proof.Machine

/-! ## Orders that their checks turn away -/

section
variable {s : State} {i : Fin 8} {code : Nat} {args : List Byte}

/-- The front order of a row is taken and, with a bad argument, completes with BAD_ARGUMENT and its number (R170). -/
theorem takeRow_of_bad {row : OrderRow} {act : Fin 8 → State → State} {n : Nat} (h : FrontOrder s i code args)
    (hrow : orderRow s i = row) (hbad : badArgument s i = some n) :
    takeRow row act s = finish (completeOrder i .badArgument [BitVec.ofNat 8 n] (takeOrder i s)) := by
  obtain ⟨rest, hposted⟩ := List.head?_eq_some_iff.mp h.1
  rw [takeRow, hposted]
  simp only [hrow, hbad, if_true]

/-- Such an order has no other effect. -/
theorem completesThrough_badArgument {c : Instr} {row : OrderRow} {act : Fin 8 → State → State} {n : Nat}
    (hexec : exec c s = .next (takeRow row act s)) (h : FrontOrder s i code args)
    (hrow : orderRow s i = row) (hbad : badArgument s i = some n) :
    CompletesThrough c s (OrderOnly s i 3 [BitVec.ofNat 8 n]) :=
  ⟨_, hexec.trans (congrArg Host.Outcome.next (takeRow_of_bad h hrow hbad)), completeOrder_takeOrder i .badArgument _ s⟩

/-- A code that names none of the eleven orders (R170). -/
theorem orderRow_unknown (h : FrontOrder s i code args) (hcode : ¬(1 ≤ code ∧ code ≤ 11)) : orderRow s i = .unknown := by
  unfold orderRow
  rw [orderCode_of_front h]
  split
  case h_12 => rfl
  all_goals omega

theorem badArgument_unknown (h : FrontOrder s i code args) (hcode : ¬(1 ≤ code ∧ code ≤ 11)) : badArgument s i = none := by
  unfold badArgument
  rw [orderCode_of_front h]
  dsimp only
  split
  case h_8 => rfl
  all_goals omega

theorem exec_unknownOrder (s : State) :
    exec .unknownOrder s = .next (takeRow .unknown (fun i s => completeOrder i .unknownOrder [] s) s) := rfl

/-- Such an order completes with UNKNOWN_ORDER and has no other effect. -/
theorem completesThrough_unknownOrder (h : FrontOrder s i code args) (hcode : ¬(1 ≤ code ∧ code ≤ 11)) :
    CompletesThrough .unknownOrder s (OrderOnly s i 10 []) :=
  ⟨_, by rw [exec_unknownOrder, takeRow_of_front h (orderRow_unknown h hcode) (badArgument_unknown h hcode)],
    completeOrder_takeOrder i .unknownOrder [] s⟩

theorem orderRow_placeCall (h : FrontOrder s i 2 args) : orderRow s i = .placeCall := by
  rw [orderRow, orderCode_of_front h]
  rfl

theorem orderRow_cancelCall (h : FrontOrder s i 3 args) : orderRow s i = .cancelCall := by
  rw [orderRow, orderCode_of_front h]
  rfl

theorem orderRow_continueCall (h : FrontOrder s i 4 args) : orderRow s i = .continueCall := by
  rw [orderRow, orderCode_of_front h]
  rfl

theorem orderRow_surveyNow (h : FrontOrder s i 7 args) : orderRow s i = .surveyNow := by
  rw [orderRow, orderCode_of_front h]
  rfl

theorem orderRow_forgetCandidates (h : FrontOrder s i 8 args) : orderRow s i = .forgetCandidates := by
  rw [orderRow, orderCode_of_front h]
  rfl

end

/-! ### The first bad argument of each order -/

section
variable {s : State} {i : Fin 8} {a b c d : Byte}

/-- PLACE_CALL's call point is 0 or 1. -/
theorem badArgument_placeCall_point (h : FrontOrder s i 2 [a]) (ha : 1 < a.toNat) : badArgument s i = some 1 := by
  have a1 : orderArg s i 1 = a := orderArg_of_front h 0 (by simp)
  unfold badArgument
  rw [orderCode_of_front h]
  simp [a1, badIf, ha]

/-- Its kind is EMERGENCY or TEST. -/
theorem badArgument_placeCall_kind (h : FrontOrder s i 2 [a, b]) (ha : a.toNat ≤ 1) (hb : 1 < b.toNat) :
    badArgument s i = some 2 := by
  have a1 : orderArg s i 1 = a := orderArg_of_front h 0 (by simp)
  have a2 : orderArg s i 2 = b := orderArg_of_front h 1 (by simp)
  unfold badArgument
  rw [orderCode_of_front h]
  simp [a1, a2, badIf, Nat.not_lt.mpr ha, hb]

/-- A TEST call's number index is at most 3. -/
theorem badArgument_placeCall_number (h : FrontOrder s i 2 [a, 1, c]) (ha : a.toNat ≤ 1) (hc : 3 < c.toNat) :
    badArgument s i = some 3 := by
  have a1 : orderArg s i 1 = a := orderArg_of_front h 0 (by simp)
  have a2 : orderArg s i 2 = 1 := orderArg_of_front h 1 (by simp)
  have a3 : orderArg s i 3 = c := orderArg_of_front h 2 (by simp)
  unfold badArgument
  rw [orderCode_of_front h]
  simp [a1, a2, a3, badIf, Nat.not_lt.mpr ha, hc]

/-- Its step hold is 0 or 1. -/
theorem badArgument_placeCall_hold (h : FrontOrder s i 2 [a, 1, c, d]) (ha : a.toNat ≤ 1) (hc : c.toNat ≤ 3)
    (hd : 1 < d.toNat) : badArgument s i = some 4 := by
  have a1 : orderArg s i 1 = a := orderArg_of_front h 0 (by simp)
  have a2 : orderArg s i 2 = 1 := orderArg_of_front h 1 (by simp)
  have a3 : orderArg s i 3 = c := orderArg_of_front h 2 (by simp)
  have a4 : orderArg s i 4 = d := orderArg_of_front h 3 (by simp)
  unfold badArgument
  rw [orderCode_of_front h]
  simp [a1, a2, a3, a4, badIf, Nat.not_lt.mpr ha, Nat.not_lt.mpr hc, hd]

/-- The call point of CANCEL_CALL and CONTINUE is 0 or 1. -/
theorem badArgument_callPoint {code : Nat} (hcode : code = 3 ∨ code = 4) (h : FrontOrder s i code [a])
    (ha : 1 < a.toNat) : badArgument s i = some 1 := by
  have a1 : orderArg s i 1 = a := orderArg_of_front h 0 (by simp)
  unfold badArgument
  rw [orderCode_of_front h]
  rcases hcode with rfl | rfl <;> simp [a1, badIf, ha]

/-- The lane mask of SURVEY_NOW and FORGET_CANDIDATES has four bits. -/
theorem badArgument_laneMask {code : Nat} (hcode : code = 7 ∨ code = 8) (h : FrontOrder s i code [a])
    (ha : 15 < a.toNat) : badArgument s i = some 1 := by
  have a1 : orderArg s i 1 = a := orderArg_of_front h 0 (by simp)
  unfold badArgument
  rw [orderCode_of_front h]
  rcases hcode with rfl | rfl <;> simp [a1, badIf, ha]

/-- LANE_CONTROL's lane is at most 3. -/
theorem badArgument_laneControl_lane (h : FrontOrder s i 9 [a, b]) (ha : 3 < a.toNat) : badArgument s i = some 1 := by
  have a1 : orderArg s i 1 = a := orderArg_of_front h 0 (by simp)
  unfold badArgument
  rw [orderCode_of_front h]
  simp [a1, badIf, ha]

/-- Its action is RESET, FORCE_OFF or AUTO. -/
theorem badArgument_laneControl_action (h : FrontOrder s i 9 [a, b]) (ha : a.toNat ≤ 3) (hb : 2 < b.toNat) :
    badArgument s i = some 2 := by
  have a1 : orderArg s i 1 = a := orderArg_of_front h 0 (by simp)
  have a2 : orderArg s i 2 = b := orderArg_of_front h 1 (by simp)
  unfold badArgument
  rw [orderCode_of_front h]
  simp [a1, a2, badIf, Nat.not_lt.mpr ha, hb]

/-- SET_POWER's state is ACTIVE, QUIET or DORMANT. -/
theorem badArgument_setPower_state (h : FrontOrder s i 10 [a]) (ha : 2 < a.toNat) : badArgument s i = some 1 := by
  have a1 : orderArg s i 1 = a := orderArg_of_front h 0 (by simp)
  unfold badArgument
  rw [orderCode_of_front h]
  simp [a1, badIf, ha]

/-- LANE_CONTROL's row by its action; one that names none is RESET's (log entry 21). -/
theorem orderRow_laneControl_action (h : FrontOrder s i 9 [a, b]) :
    orderRow s i = if b = 1 then .laneForceOff else if b = 2 then .laneAuto else .laneReset := by
  have a2 : orderArg s i 2 = b := orderArg_of_front h 1 (by simp)
  unfold orderRow
  rw [orderCode_of_front h, a2]
  rfl

/-- A LANE_CONTROL on no lane is turned away by the row of its action. -/
theorem completesThrough_badLane (h : FrontOrder s i 9 [a, b]) (ha : 3 < a.toNat) :
    CompletesThrough (if b = 1 then .laneControlForceOff else if b = 2 then .laneControlAuto else .laneControlReset) s
      (OrderOnly s i 3 [1]) := by
  have hbad := badArgument_laneControl_lane h ha
  have hrow := orderRow_laneControl_action h
  by_cases hforce : b = 1
  · rw [if_pos hforce] at hrow ⊢
    exact completesThrough_badArgument rfl h hrow hbad
  rw [if_neg hforce] at hrow ⊢
  by_cases hauto : b = 2
  · rw [if_pos hauto] at hrow ⊢
    exact completesThrough_badArgument rfl h hrow hbad
  · rw [if_neg hauto] at hrow ⊢
    exact completesThrough_badArgument rfl h hrow hbad

/-- A LANE_CONTROL whose action names no row is turned away by RESET's. -/
theorem completesThrough_badAction (h : FrontOrder s i 9 [a, b]) (ha : a.toNat ≤ 3) (hb : 2 < b.toNat) :
    CompletesThrough .laneControlReset s (OrderOnly s i 3 [2]) := by
  have hrow := orderRow_laneControl_action h
  rw [if_neg (by rintro rfl; exact absurd hb (by decide)), if_neg (by rintro rfl; exact absurd hb (by decide))] at hrow
  exact completesThrough_badArgument rfl h hrow (badArgument_laneControl_action h ha hb)

/-- A SET_POWER whose argument names no state is turned away by the row of ACTIVE and QUIET (log entry 21). -/
theorem completesThrough_badPower (h : FrontOrder s i 10 [a]) (ha : 2 < a.toNat) :
    CompletesThrough .setPower s (OrderOnly s i 3 [1]) := by
  have hrow := orderRow_setPower h
  rw [if_neg (by rintro rfl; exact absurd ha (by decide))] at hrow
  exact completesThrough_badArgument rfl h hrow (badArgument_setPower_state h ha)

end

end Sys2Proof.Machine

namespace Sys2Proof.Proofs
open Sys2Proof.Machine

/-- Settles O15, order by order, by the row that takes it and the first argument outside its range. -/
theorem ordersAreCheckedBeforeTheyAct : Obligations.OrdersAreCheckedBeforeTheyAct := by
  intro s i a b c d
  exact ⟨fun code h hcode => completesThrough_unknownOrder h hcode,
    fun h ha => completesThrough_badArgument rfl h (orderRow_placeCall h) (badArgument_placeCall_point h ha),
    fun h ha hb => completesThrough_badArgument rfl h (orderRow_placeCall h) (badArgument_placeCall_kind h ha hb),
    fun h ha hc => completesThrough_badArgument rfl h (orderRow_placeCall h) (badArgument_placeCall_number h ha hc),
    fun h ha hc hd => completesThrough_badArgument rfl h (orderRow_placeCall h) (badArgument_placeCall_hold h ha hc hd),
    fun h ha => completesThrough_badArgument rfl h (orderRow_cancelCall h) (badArgument_callPoint (.inl rfl) h ha),
    fun h ha => completesThrough_badArgument rfl h (orderRow_continueCall h) (badArgument_callPoint (.inr rfl) h ha),
    fun h ha => completesThrough_badArgument rfl h (orderRow_surveyNow h) (badArgument_laneMask (.inl rfl) h ha),
    fun h ha => completesThrough_badArgument rfl h (orderRow_forgetCandidates h) (badArgument_laneMask (.inr rfl) h ha),
    completesThrough_badLane, completesThrough_badAction, completesThrough_badPower⟩

end Sys2Proof.Proofs
end

section
namespace Sys2Proof.Machine

/-! ## The orders while the part goes on

What follows a command at once (Machine.finish) takes no order and posts none: the list of posted orders stays as the
command has left it. Of all that follows only the completion of an order touches the order unit. -/

@[simp] theorem ite_orders (c : Prop) [Decidable c] (a b : State) :
    (if c then a else b).orders = if c then a.orders else b.orders := apply_ite _ _ _ _

theorem foldl_orders {α : Type} (g : State → α → State) (h : ∀ s a, (g s a).orders = s.orders) (as : List α)
    (s : State) : (as.foldl g s).orders = s.orders := by
  induction as generalizing s with
  | nil => rfl
  | cons a as ih => rw [List.foldl_cons, ih, h]

section
variable (s : State) (n : Cp) (l : Lane)

/-! ### Single changes -/

@[simp] theorem modCtx_orders (f) : (modCtx n f s).orders = s.orders := rfl
@[simp] theorem modLane_orders (f) : (modLane l f s).orders = s.orders := rfl
@[simp] theorem modScan_orders (f) : (modScan l f s).orders = s.orders := rfl
@[simp] theorem modLink_orders (f) : (modLink f s).orders = s.orders := rfl
@[simp] theorem setState_orders (st : CtxState) : (setState n st s).orders = s.orders := rfl
@[simp] theorem stepMove_orders (target : Option Nat) : (stepMove n target s).orders = s.orders := rfl
@[simp] theorem startStep_orders (d : Nat) : (startStep n d s).orders = s.orders := rfl
@[simp] theorem stopTimers_orders : (stopTimers n s).orders = s.orders := rfl
@[simp] theorem staleTag_orders : (staleTag l s).orders = s.orders := rfl
@[simp] theorem dropRequest_orders : (dropRequest n s).orders = s.orders := rfl
@[simp] theorem dropRescan_orders : (dropRescan n s).orders = s.orders := rfl
@[simp] theorem dropMaint_orders (k : MaintKind) : (dropMaint l k s).orders = s.orders := rfl
@[simp] theorem queueScan_orders (tx : ScanTx) : (queueScan l tx s).orders = s.orders := rfl
@[simp] theorem giveUpSurvey_orders : (giveUpSurvey l s).orders = s.orders := rfl
@[simp] theorem sendRequest_orders (code : ReqCode) (who : Requester) (args : List Byte) (holder : Option Owner) :
    (sendRequest l code who args holder s).orders = s.orders := rfl
@[simp] theorem markNeed_orders : (markNeed s).orders = s.orders := rfl
@[simp] theorem setLaneState_orders (st : LaneState) : (setLaneState l st s).orders = s.orders := rfl
@[simp] theorem dequeue_orders : (dequeue l s).orders = s.orders := rfl
@[simp] theorem stopProbe_orders : (stopProbe l s).orders = s.orders := rfl
@[simp] theorem leaveList_orders : (leaveList l s).orders = s.orders := rfl
@[simp] theorem dueLater_orders : (dueLater l s).orders = s.orders := rfl
@[simp] theorem endScan_orders (completed : Bool) : (endScan l completed s).orders = s.orders := rfl

/-! ### The blocks and the call records -/

@[simp] theorem raise_orders (b : Attn) : (raise b s).orders = s.orders := by rw [(raise_spec b s).frame]

@[simp] theorem flushStatus_orders : (flushStatus s).orders = s.orders := by
  rw [(flushStatus_spec s).frame]

@[simp] theorem flushLane_orders : (flushLane l s).orders = s.orders := by
  rw [(flushLane_spec l s).frame]

@[simp] theorem publishBlocks_orders : (publishBlocks s).orders = s.orders := by simp [publishBlocks]

@[simp] theorem flushRecord_orders : (flushRecord n s).orders = s.orders := by
  rw [(flushRecord_spec n s).frame]

@[simp] theorem publish_orders : (publish s).orders = s.orders := by simp [publish]

@[simp] theorem modRecord_orders (f : CallRecord → CallRecord) : (modRecord n f s).orders = s.orders := by
  unfold modRecord
  split <;> rfl

@[simp] theorem showRecord_orders : (showRecord n s).orders = s.orders := by
  unfold showRecord
  split <;> rfl

@[simp] theorem openRecord_orders (kind : CallKind) (source : CallSource) :
    (openRecord n kind source s).orders = s.orders := by
  cases h : chooseRecord s with
  | none => rw [openRecord, h]
  | some j => rw [(openRecord_spec h n kind source).frame]

@[simp] theorem endAttempt_orders (o : CallOutcome) : (endAttempt n o s).orders = s.orders := by
  rw [(endAttempt_spec n o s).frame]

/-! ### The arbiter -/

@[simp] theorem ctxRequest_orders (kind : OpKind) (args : List Byte) : (ctxRequest n kind args s).orders = s.orders := by
  rw [(ctxRequest_spec n kind args s).frame]

@[simp] theorem addMaint_orders (k : MaintKind) : (addMaint l k s).orders = s.orders := by simp [addMaint]

@[simp] theorem grantLink_orders : (grantLink s).orders = s.orders := by
  unfold grantLink
  split
  · rfl
  · split
    · rfl
    · unfold performGrant countWait
      (repeat' split) <;> simp

/-! ### The lane manager -/

@[simp] theorem setOwner_orders (o : Owner) : (setOwner l o s).orders = s.orders := by
  rw [(setOwner_spec l o s).frame]

@[simp] theorem scanLost_orders : (scanLost l s).orders = s.orders := by rw [(scanLost_spec l s).frame]

@[simp] theorem releaseSurvey_orders : (releaseSurvey l s).orders = s.orders := by simp [releaseSurvey]

@[simp] theorem powerOff_orders : (powerOff l s).orders = s.orders := by
  rw [(powerOff_spec l s).work.frame]

@[simp] theorem enqueue_orders : (enqueue l s).orders = s.orders := by simp [enqueue]

@[simp] theorem becomeReady_orders : (becomeReady l s).orders = s.orders := by
  have hnoResp (t : State) : (setNoResp l 0 t).orders = t.orders := by rw [(setNoResp_frame l 0 t)]
  have hprobe (t : State) : (startProbe l t).orders = t.orders := by rw [(startProbe_frame l t)]
  have hring (t : State) : (considerRing l t).orders = t.orders := by rw [(considerRing_frame l t)]
  have hdue (t : State) : (dueNow l t).orders = t.orders := by rw [(dueNow_spec l t).work.frame]
  simp [becomeReady, hnoResp, hprobe, hring, hdue]

@[simp] theorem giveNeed_orders : (giveNeed l s).orders = s.orders := by
  unfold giveNeed requeue
  split <;> simp

@[simp] theorem dropNeed_orders : (dropNeed l s).orders = s.orders := by
  unfold dropNeed
  split <;> simp

@[simp] theorem needPass_orders : (needPass s).orders = s.orders := by
  have hlane (t : State) (m : Lane) : (needLane t m).orders = t.orders := by simp [needLane]
  simp [needPass, foldl_orders _ hlane]

@[simp] theorem startNext_orders : (startNext s).orders = s.orders := by
  unfold startNext
  split <;> simp [startLane]

/-! ### The survey engine -/

@[simp] theorem considerAll_orders : (considerAll s).orders = s.orders := by
  have hlane (t : State) (m : Lane) : (considerLane t m).orders = t.orders := by
    simp [considerLane, dueNever, skipLane, startScan]
  simp [considerAll, foldl_orders _ hlane]

@[simp] theorem abandonScan_orders : (abandonScan l s).orders = s.orders := by
  have hdrop (t : State) : (dropScan l t).orders = t.orders := by rw [(dropScan_frame l t)]
  unfold abandonScan abandonStage
  split
  · split <;> simp [hdrop]
  · rfl

@[simp] theorem makeCtxRequest_orders (named : Lane → Bool) : (makeCtxRequest n named s).orders = s.orders := by
  have hdues (q : SurveyReq) (t : State) : (requestDues q t).orders = t.orders := by rw [(requestDues_spec q t).1.frame]
  simp [makeCtxRequest, hdues]

@[simp] theorem skipSweep_orders : (skipSweep s).orders = s.orders :=
  foldl_orders sweepLane (fun t m => by unfold sweepLane; split <;> rfl) _ _

/-! ### The call engine -/

@[simp] theorem releaseClaim_orders : (releaseClaim n s).orders = s.orders := by
  rw [(releaseClaim_spec n s).frame]

@[simp] theorem takeLane_orders : (takeLane n l s).orders = s.orders := by simp [takeLane]

@[simp] theorem clearPendingClaim_orders : (clearPendingClaim n s).orders = s.orders := by simp [clearPendingClaim]

@[simp] theorem toIdle_orders (final : Option CallOutcome) : (toIdle n final s).orders = s.orders := by
  rw [(toIdle_spec n final s).frame]

@[simp] theorem endCall_orders (o : CallOutcome) : (endCall n o s).orders = s.orders := by
  unfold endCall setLast
  dsimp only
  (repeat' split) <;> simp

@[simp] theorem enterClearing_orders (pend : Option CallOutcome) : (enterClearing n pend s).orders = s.orders := by
  rw [(enterClearing_spec n pend s).frame]

@[simp] theorem finishTeardown_orders (o : CallOutcome) : (finishTeardown n o s).orders = s.orders := by
  have hclose (t : State) : (closeRecord n (some o) t).orders = t.orders :=
    by rw [(closeRecord_spec n (some o) t).frame]
  simp [finishTeardown, startEmergency, startCall, hclose]

@[simp] theorem teardown_orders (o : CallOutcome) : (teardown n o s).orders = s.orders := by
  have hclaim (t : State) : (staleClaim n t).orders = t.orders := by
    unfold staleClaim
    split <;> rfl
  have hpending (t : State) : (replacePending n o t).orders = t.orders := by
    unfold replacePending
    split <;> simp
  unfold teardown
  split <;> simp [hclaim, hpending]

@[simp] theorem proceedOnReady_orders : (proceedOnReady n l s).orders = s.orders := by
  unfold proceedOnReady startDial startAttach
  split <;> simp

@[simp] theorem proceed_orders : (proceed n s).orders = s.orders := by
  unfold proceed
  (repeat' split) <;> simp

@[simp] theorem leaveSurveyWait_orders : (leaveSurveyWait n s).orders = s.orders := by
  simp [leaveSurveyWait, endSurveyWait, endPauseStep, stopStep]

/-! ### A step's evaluation -/

@[simp] theorem startAttempt_orders (p : Pick) : (startAttempt n p s).orders = s.orders := by
  simp [startAttempt, beginAttempt]

@[simp] theorem reachEnd_orders : (reachEnd n s).orders = s.orders := by
  unfold reachEnd
  dsimp only
  split <;> simp

@[simp] theorem actOn_orders (a : AttemptStep) (num : NumberEntry) (p : Option Pick) :
    (actOn n a num p s).state.orders = s.orders := by
  unfold actOn refuseNumber waitForPreempted claimAndGo
  cases p with
  | none => rfl
  | some p =>
    dsimp only
    split
    · split <;> simp [Evaluated.state, setLast]
    · split <;> simp [Evaluated.state]

@[simp] theorem enterRescan_orders (wait : Nat) : (enterRescan n wait s).state.orders = s.orders := by
  unfold enterRescan
  dsimp only
  split <;> simp [Evaluated.state]

@[simp] theorem evalStep_orders : (evalStep n s).state.orders = s.orders := by
  unfold evalStep
  split
  · exact reachEnd_orders s n
  · split
    · exact reachEnd_orders s n
    · exact reachEnd_orders s n
    · simp [Evaluated.state, enterPause]
    · exact enterRescan_orders s n _
    · exact actOn_orders _ n _ _ _
    · exact actOn_orders _ n _ _ _

@[simp] theorem evalLoop_orders (k : Nat) : (evalLoop n k s).orders = s.orders := by
  induction k generalizing s with
  | zero =>
    have h := evalStep_orders s n
    unfold evalLoop
    cases e : evalStep n s <;> simpa [e, Evaluated.state] using h
  | succ k ih =>
    have h := evalStep_orders s n
    unfold evalLoop
    cases e : evalStep n s <;> simpa [e, Evaluated.state, ih] using h

@[simp] theorem evaluate_orders : (evaluate n s).orders = s.orders := by simp [evaluate]

/-! ### The posted orders -/

@[simp] theorem completeOrder_posted (i : Fin 8) (r : ResultCode) (detail : List Byte) :
    (completeOrder i r detail s).orders.posted = s.orders.posted := by
  rw [(completeOrder_spec i r detail s).orders]

@[simp] theorem completeSurveys_posted : (completeSurveys s).orders.posted = s.orders.posted := by
  unfold completeSurveys
  generalize completeRequests s = reqs
  induction reqs generalizing s with
  | nil => rfl
  | cons x reqs ih => rw [List.foldl_cons, ih, completeSurvey, completeOrder_posted, dropOrderRequest]; rfl

@[simp] theorem activatePlan_posted : (activatePlan s).orders.posted = s.orders.posted := by
  unfold activatePlan
  (repeat' split) <;> simp

@[simp] theorem round_posted : (round s).orders.posted = s.orders.posted := by simp [round]

@[simp] theorem settleRounds_posted (k : Nat) : (settleRounds k s).orders.posted = s.orders.posted := by
  induction k generalizing s with
  | zero => rfl
  | succ k ih =>
    unfold settleRounds
    split
    · rw [ih, round_posted]
    · rfl

/-- What follows a command at once leaves the list of posted orders as it is. -/
@[simp] theorem finish_posted : (finish s).orders.posted = s.orders.posted := by simp [finish, settle]

theorem refuseIfCritical_orders : (refuseIfCritical s).orders = s.orders := by
  have hrefuse (n : Cp) (t : State) : (refuseSupply n t).orders = t.orders := by simp [refuseSupply]
  simp [refuseIfCritical, hrefuse]

theorem surveyFollows_orders (wasStopped : Bool) : (surveyFollows wasStopped s).orders = s.orders := by
  rw [(surveyFollows_spec wasStopped s).frame]

theorem measure_orders (battery temperature : BitVec 16) : (measure battery temperature s).orders = s.orders := by
  have htaken : (takeMeasurement battery temperature s).orders = s.orders := by rw [takeMeasurement_frame]
  rw [measure_eq]
  split
  · exact htaken
  · rw [levelChanged_eq, raise_orders, markNeed_orders, refuseIfCritical_orders, surveyFollows_orders]
    exact htaken

/-- Leaving DORMANT, with all that follows, leaves the list of posted orders as it is. -/
theorem wake_posted : (wake s).orders.posted = s.orders.posted := by
  unfold wake leaveDormant
  split
  · rw [finish_posted, measure_orders, (changePower_spec s.supply.preDormant s).frame]
  · rfl

/-- Out of DORMANT, the power state is the one left for it (R174, R184). -/
theorem wake_power {s : State} (h : s.supply.power = .dormant) : (wake s).supply.power = s.supply.preDormant := by
  have hfinish : (wake s).supply = (leaveDormant s).supply := by
    rw [wake, if_pos h]
    exact congrArg Outer.supply (finish_outer _)
  rw [hfinish, (leaveDormant_spec h).supply]

end

/-! ## Writes of a slot's state byte -/

section
variable {s : State} {w : Window} {i : Fin 8}

theorem placeOf_slotState (i : Fin 8) : placeOf (0x100 + 32 * i.val) = .slotState i := by
  have hi := i.isLt
  have haddr : 0x100 ≤ 0x100 + 32 * i.val ∧ 0x100 + 32 * i.val < 0x200 := by omega
  have hslot : slotAt (0x100 + 32 * i.val) = i := Fin.ext (by have h := slotAt_addr haddr; omega)
  rw [placeOf_slot haddr, if_pos (by omega), hslot]

theorem exec_dataWrite_slotState (hw : s.writeWindow = some w) (hready : s.port.ready = true)
    (hptr : (s.port.ptr w).toNat = 0x100 + 32 * i.val) (b : Byte) :
    exec (.dataWrite b) s = .next (writeSlotState i b (setCap w none (advance w s))) := by
  have hmoved : (setCap w none (advance w s)).port.ready = true := by rw [(setCap_advance_spec w s).port]; exact hready
  rw [exec_dataWrite hw, hostWrite_of_ready hmoved, hptr, mediate, placeOf_slotState]

/-- A slot's state byte has been written, and no other byte. -/
theorem setSlotState_slotState (i : Fin 8) (b : Byte) (s : State) : (setSlotState i b s).slotState i = b :=
  (Memory.read_write _ _ _ _).trans (if_pos rfl)

theorem setSlotState_outside (i : Fin 8) (b : Byte) (s : State) :
    SameOutside s (setSlotState i b s) (0x100 + 32 * i.val) 1 := fun a ha =>
  (Memory.read_write _ _ _ _).trans (if_neg (by rw [slotAddr_eq]; omega))

/-- The slot joins the back of the posted list, out of DORMANT first (R164, R174). -/
theorem writeSlotState_posts (h : s.slotState i = 0) : writeSlotState i 1 s =
    (setSlotState i 1 (wake s)).withOrders { (wake s).orders with posted := (wake s).orders.posted ++ [i] } :=
  if_pos ⟨h, rfl⟩

/-- A slot that is DONE is given back (R164). -/
theorem writeSlotState_frees (h : s.slotState i = 3) : writeSlotState i 0 s = setSlotState i 0 s := by
  rw [writeSlotState, if_neg fun ⟨_, hb⟩ => absurd hb (by decide)]
  exact if_pos ⟨h, rfl⟩

/-- The withdrawal of an order that is TAKEN is asked for (R164). -/
theorem writeSlotState_withdraws (h : s.slotState i = 2) : writeSlotState i 4 s = setSlotState i 4 s := by
  rw [writeSlotState, if_neg fun ⟨_, hb⟩ => absurd hb (by decide), if_neg fun ⟨_, hb⟩ => absurd hb (by decide)]
  exact if_pos ⟨h, rfl⟩

/-- Every other value over every other state is dropped (R164). -/
theorem writeSlotState_drops {b : Byte} (hpost : ¬(s.slotState i = 0 ∧ b = 1)) (hfree : ¬(s.slotState i = 3 ∧ b = 0))
    (hwithdraw : ¬(s.slotState i = 2 ∧ b = 4)) : writeSlotState i b s = dropWrite s :=
  (if_neg hpost).trans ((if_neg hfree).trans (if_neg hwithdraw))

end

end Sys2Proof.Machine

namespace Sys2Proof.Proofs
open Sys2Proof.Machine

/-- Settles O12, by the slot's state and the value written, after the window has moved on. -/
theorem slotStateWritesFollowTheTable : Obligations.SlotStateWritesFollowTheTable := by
  intro b s w i hw hptr
  have hv := setCap_advance_spec w s
  have hexec := exec_dataWrite hw b
  have hslotExec (hready : s.port.ready = true) := exec_dataWrite_slotState hw hready hptr b
  generalize setCap w none (advance w s) = v at hv hexec hslotExec
  have hmem : v.mem = s.mem := by rw [hv.frame]
  have hsupply : v.supply = s.supply := by rw [hv.frame]
  have horders : v.orders = s.orders := by rw [hv.frame]
  have hready : v.port.ready = s.port.ready := by rw [hv.port]
  have hattention : v.port.attention = s.port.attention := by rw [hv.port]
  have hslot : v.slotState i = s.slotState i := by rw [State.slotState, hmem]; rfl
  have houtside (c : Byte) : SameOutside s (setSlotState i c v) (0x100 + 32 * i.val) 1 := fun a ha => by
    rw [setSlotState_outside i c v a ha, hmem]
  have hframe (c : Byte) : setSlotState i c v =
      { s with mem := (setSlotState i c v).mem, port := (setSlotState i c v).port } := by
    show v.withMem _ = { s with mem := _, port := v.port }
    rw [hv.frame]
    rfl
  refine ⟨fun hclear => ⟨_, hexec, ?_⟩, fun hset => ?_⟩
  · rw [hostWrite_of_not_ready (hready.trans hclear)]
    exact ⟨hattention, hv.frame⟩
  refine ⟨?_, ?_, ?_, ?_, fun hpost hfree hwithdraw => ⟨_, hslotExec hset, ?_⟩⟩
  · rintro hstate rfl hpower
    refine ⟨_, hslotExec hset, ?_⟩
    rw [writeSlotState_posts (hslot.trans hstate), wake_idle v (by rwa [hsupply])]
    refine ⟨setSlotState_slotState i 1 v, houtside 1, by rw [← horders]; rfl, ?_⟩
    rw [hframe 1]
    rfl
  · rintro hstate rfl hpower
    refine ⟨_, hslotExec hset, ?_⟩
    rw [writeSlotState_posts (hslot.trans hstate)]
    have hwake : (wake v).supply.power = s.supply.preDormant := by rw [wake_power (by rwa [hsupply]), hsupply]
    have hposted : (wake v).orders.posted = s.orders.posted := by rw [wake_posted, horders]
    exact ⟨setSlotState_slotState i 1 (wake v), hwake, congrArg (· ++ [i]) hposted⟩
  · rintro hstate rfl
    refine ⟨_, hslotExec hset, ?_⟩
    rw [writeSlotState_frees (hslot.trans hstate)]
    exact ⟨setSlotState_slotState i 0 v, houtside 0, hframe 0⟩
  · rintro hstate rfl
    refine ⟨_, hslotExec hset, ?_⟩
    rw [writeSlotState_withdraws (hslot.trans hstate)]
    exact ⟨setSlotState_slotState i 4 v, houtside 4, hframe 4⟩
  · rw [writeSlotState_drops (by rwa [hslot]) (by rwa [hslot]) (by rwa [hslot])]
    have hu := dropWrite_spec v
    generalize dropWrite v = u at hu
    have hbytes : SameOutside s u 0 0x100 := fun a ha => by rw [hu.outside a ha, hmem]
    refine ⟨hbytes _ (by rw [slotAddr_eq]; omega), by rw [hu.frame, horders], hbytes,
      by rw [hu.counters, hv.frame], ?_⟩
    rw [hu.port, raised_attention (hready.trans hset), hattention]

end Sys2Proof.Proofs
end

section
namespace Sys2Proof.Machine

/-! ## What the end of a test call leaves of the memory -/

/-- Nothing below the call records has changed (12.1): what ends or starts a call writes records alone. -/
def SameBelowRecords (s u : State) : Prop := ∀ a, a < 0x1000 → u.mem.read a = s.mem.read a

theorem SameBelowRecords.of_mem {s u : State} (h : u.mem = s.mem) : SameBelowRecords s u := fun a _ => by rw [h]

theorem SameBelowRecords.trans {s t u : State} (h : SameBelowRecords s t) (k : SameBelowRecords t u) :
    SameBelowRecords s u := fun a ha => (k a ha).trans (h a ha)

section
variable {s : State} {n : Cp} {a : Nat}

/-- The bytes of the call records stand at 0x1000 and above (12.1). -/
theorem not_recordByte_below (ha : a < 0x1000) : ¬RecordByte s n a := by
  rintro ⟨j, -, hlow, -⟩
  omega

theorem setState_mem (n : Cp) (st : CtxState) (s : State) : (setState n st s).mem = s.mem := by
  rw [(setState_spec n st s).frame]

theorem startCall_below (n : Cp) (kind : CallKind) (source : CallSource) (number : Option (Fin 4)) (hold : Bool)
    (s : State) : SameBelowRecords s (startCall n kind source number hold s) := by
  cases hj : chooseRecord s with
  | some j => exact fun a ha => (startCall_spec hj n kind source number hold).outside a (by omega)
  | none =>
    refine .of_mem ?_
    have hopen : openRecord n kind source s = s := by unfold openRecord; rw [hj]
    unfold startCall
    rw [hopen]
    exact setState_mem n .selecting (modCtx n _ s)

theorem toIdle_below (n : Cp) (final : Option CallOutcome) (s : State) : SameBelowRecords s (toIdle n final s) :=
  fun a ha => (toIdle_spec n final s).outside a (not_recordByte_below ha)

/-- Winding a call up and the choice between the watch and IDLE write its record alone (R11, R144). -/
theorem endCall_below (n : Cp) (o : CallOutcome) (s : State) : SameBelowRecords s (endCall n o s) := by
  have hr := modRecord_spec n (fun r => { r with last := some o }) (dropRescan n (dropRequest n s))
  have ht := endAttempt_spec n o (setLast n o (dropRescan n (dropRequest n s)))
  have hm : (endAttempt n o (setLast n o (dropRescan n (dropRequest n s)))).mem = s.mem := by
    rw [ht.frame, setLast, hr.frame]
    rfl
  unfold endCall
  generalize endAttempt n o (setLast n o (dropRescan n (dropRequest n s))) = t at hm
  refine (SameBelowRecords.of_mem hm).trans ?_
  dsimp only
  split
  · split
    · exact toIdle_below n _ t
    · exact .of_mem (setState_mem n .callbackWatch (stopTimers n t))
  · have hc : (clearPendingClaim n t).mem = t.mem := by rw [(clearPendingClaim_spec n t).frame]
    exact (SameBelowRecords.of_mem hc).trans (toIdle_below n _ (clearPendingClaim n t))

theorem tornDown_below (n : Cp) (o : CallOutcome) (s : State) : SameBelowRecords s (tornDown n o s) := by
  unfold tornDown
  have hb := clearPendingClaim_spec n (dropRescan n (dropRequest n s))
  have hd := releaseClaim_spec n (stopTimers n (clearPendingClaim n (dropRescan n (dropRequest n s))))
  have hm : (releaseClaim n (stopTimers n (clearPendingClaim n (dropRescan n (dropRequest n s))))).mem = s.mem := by
    rw [hd.frame]
    show (clearPendingClaim n (dropRescan n (dropRequest n s))).mem = s.mem
    rw [hb.frame]
    rfl
  generalize releaseClaim n (stopTimers n _) = d at hm
  exact (SameBelowRecords.of_mem hm).trans fun a ha =>
    (closeRecord_spec n (some o) d).outside a (not_recordByte_below ha)

theorem finishTeardown_below (n : Cp) (o : CallOutcome) (s : State) : SameBelowRecords s (finishTeardown n o s) := by
  by_cases he : (s.ctx n).emergencyStart = true
  · rw [finishTeardown_of_pending he, startEmergency]
    exact (tornDown_below n o s).trans (startCall_below n .emergency .matrix none false (modCtx n _ (tornDown n o s)))
  · rw [finishTeardown, if_neg he]
    exact endCall_below n o s

theorem teardown_below (n : Cp) (o : CallOutcome) (s : State) : SameBelowRecords s (teardown n o s) := by
  unfold teardown
  cases (s.ctx n).state with
  | dialling | alerting | connected | ringing => exact .of_mem (by rw [(enterClearing_spec n _ s).frame])
  | clearing =>
    refine .of_mem ?_
    unfold replacePending
    dsimp only
    (repeat' split) <;> rfl
  | attaching =>
    have hstale : (staleClaim n s).mem = s.mem := by unfold staleClaim; split <;> rfl
    exact (SameBelowRecords.of_mem hstale).trans (finishTeardown_below n o (staleClaim n s))
  | selecting | waitingLane | paused | surveyWait | held | callbackWatch => exact finishTeardown_below n o s
  | idle => exact .of_mem rfl

theorem refuseIfCritical_below (s : State) : SameBelowRecords s (refuseIfCritical s) := by
  have hrefuse (m : Cp) (t : State) : SameBelowRecords t (refuseSupply m t) := by
    unfold refuseSupply
    split
    · exact teardown_below m .supplyRefused t
    · exact .of_mem rfl
  unfold refuseIfCritical
  split
  · exact (hrefuse .p0 s).trans (hrefuse .p1 _)
  · exact .of_mem rfl

/-- The neighbours of the supply monitor write call records alone when they take a change of level (R20, R181). -/
theorem levelChanged_below (wasStopped : Bool) (s : State) : SameBelowRecords s (levelChanged wasStopped s) := by
  rw [levelChanged_eq]
  have hfollow : (surveyFollows wasStopped (evalMatrix s)).mem = s.mem := by
    rw [(surveyFollows_spec wasStopped (evalMatrix s)).frame]
    rfl
  generalize surveyFollows wasStopped (evalMatrix s) = v at hfollow
  refine (SameBelowRecords.of_mem hfollow).trans ((refuseIfCritical_below v).trans (.of_mem ?_))
  rw [(raise_spec .supply _).frame]
  rfl

end

/-! ## The readings and the level (R178 to R180) -/

theorem clamp_eq {lo hi : Nat} (h : lo ≤ hi) (n : Nat) : clamp lo hi n = max lo (min hi n) := by
  unfold clamp
  split
  · omega
  · split <;> omega

/-- Battery mV is the whole number of 5/16 mV steps in the code (R178). -/
theorem batteryMv_bounds (code : BitVec 16) :
    16 * batteryMv code ≤ 5 * code.toNat ∧ 5 * code.toNat < 16 * (batteryMv code + 1) := by
  unfold batteryMv
  omega

theorem batteryMv_lt (code : BitVec 16) : batteryMv code < 65536 := by
  have h := code.isLt
  unfold batteryMv
  omega

/-- T10 is 250 and the quotient by 52 that rounds toward minus infinity, clamped (R178). -/
theorem t10Of_quotient (code : BitVec 16) : ∃ q : Int, 52 * q ≤ ((code.toNat : Int) - 31200) * 10
    ∧ ((code.toNat : Int) - 31200) * 10 < 52 * (q + 1) ∧ t10Of code = max (-400) (min 850 (250 + q)) := by
  refine ⟨Int.fdiv (((code.toNat : Int) - 31200) * 10) 52, ?_, ?_, clampInt_eq (by decide) _⟩ <;>
    rw [Int.fdiv_eq_ediv_of_nonneg _ (by decide)] <;> omega

/-- V_min is the reserve base, clamped, and the cold add (R179). -/
theorem reserveThreshold_eq (s : State) (t10 : Int) : reserveThreshold (reserveBase s) t10 =
    max 9000 (min 14000 (s.hostMem.num 0x25C 2)) + (if 0 ≤ t10 then 0 else min (2 * t10.natAbs) 800) := by
  rw [reserveThreshold, reserveBase, clamp_eq (by decide)]
  rfl

theorem reserveThreshold_lt (s : State) (t10 : Int) : reserveThreshold (reserveBase s) t10 < 65536 := by
  rw [reserveThreshold_eq]
  split <;> omega

/-! ## What a measurement publishes (R177) -/

section
variable {s : State} {battery temperature : BitVec 16}

/-- A number below 65536 is read out of the two bytes that show it. -/
theorem num_two_of_bytes {m : Memory} {a v : Nat} (hv : v < 65536) (hlow : m.read a = BitVec.ofNat 8 v)
    (hhigh : m.read (a + 1) = BitVec.ofNat 8 (v / 256)) : m.num a 2 = v := by
  rw [Memory.num_two, hlow, hhigh, BitVec.toNat_ofNat, BitVec.toNat_ofNat]
  omega

/-- The part status block shows battery mV at offset 8 (12.3). -/
theorem statusRewrite_battery (s : State) (h : s.supply.battery < 65536) :
    (rewriteStatus s).mem.num 8 2 = s.supply.battery :=
  num_two_of_bytes h ((statusRewrite_read s (k := 6) (by decide)).trans (by simp [statusContent, bytesOf]))
    ((statusRewrite_read s (k := 7) (by decide)).trans (by simp [statusContent, bytesOf]))

/-- The part status block shows V_min at offset 12 (12.3). -/
theorem statusRewrite_vmin (s : State) (h : s.supply.vmin < 65536) :
    (rewriteStatus s).mem.num 12 2 = s.supply.vmin :=
  num_two_of_bytes h ((statusRewrite_read s (k := 10) (by decide)).trans (by simp [statusContent, bytesOf]))
    ((statusRewrite_read s (k := 11) (by decide)).trans (by simp [statusContent, bytesOf]))

/-- Of a lane a measurement reads again the standby line setting alone (R94). -/
theorem foldl_rereadStandby_lane (ls : List Lane) (s : State) (m : Lane) : (ls.foldl rereadStandby s).lane m =
    { s.lane m with standby := ((ls.foldl rereadStandby s).lane m).standby } := by
  induction ls generalizing s with
  | nil => rfl
  | cons l ls ih =>
    have hl : (rereadStandby s l).lane m = { s.lane m with standby := ((rereadStandby s l).lane m).standby } := by
      unfold rereadStandby
      split
      · by_cases e : m = l
        · rw [e, modLane_lane_same]
        · rw [modLane_lane_of_ne e]
      · rfl
    rw [List.foldl_cons, ih, hl]

/-- The readings of a measurement stand in the part status block (R177). -/
structure MeasurementTaken (s u : State) (battery temperature : BitVec 16) : Prop where
  lanes : ∀ l, u.lane l = { s.lane l with standby := (u.lane l).standby }
  shownBattery : u.mem.num 8 2 = batteryMv battery
  shownVmin : u.mem.num 12 2 = reserveThreshold (reserveBase s) (t10Of temperature)
  revision : u.mem.num 0 2 = (s.mem.num 0 2 + 2) % 65536
  outside : SameOutside s u 0 42
  frame : u = { s with
    supply := (takeReadings false battery temperature s).supply, needDue := true, lanes := u.lanes, mem := u.mem }

theorem takeMeasurement_spec (battery temperature : BitVec 16) (s : State) :
    MeasurementTaken s (takeMeasurement battery temperature s) battery temperature := by
  have hframe := takeMeasurement_frame battery temperature s
  have hshown := rewriteStatus_spec (takeReadings false battery temperature s)
  have hbattery := statusRewrite_battery (takeReadings false battery temperature s) (batteryMv_lt battery)
  have hvmin := statusRewrite_vmin (takeReadings false battery temperature s)
    (reserveThreshold_lt s (t10Of temperature))
  have hlanes := foldl_rereadStandby_lane lanes (rewriteStatus (takeReadings false battery temperature s))
  have hmem : (takeMeasurement battery temperature s).mem =
      (rewriteStatus (takeReadings false battery temperature s)).mem := by
    unfold takeMeasurement
    rw [foldl_rereadStandby_frame]
    rfl
  exact {
    lanes := hlanes
    shownBattery := by rw [hmem, hbattery]; rfl
    shownVmin := by rw [hmem, hvmin]; rfl
    revision := by rw [hmem, hshown.revision]; rfl
    outside := fun a ha => by rw [hmem, hshown.outside a ha]; rfl
    frame := hframe }

/-- A measurement publishes its readings once, whether or not the level changes (R177, R181). -/
theorem measure_below (battery temperature : BitVec 16) (s : State) :
    SameBelowRecords (takeMeasurement battery temperature s) (measure battery temperature s) := by
  rw [measure_eq]
  split
  · exact .of_mem rfl
  · exact levelChanged_below _ _

theorem measure_of_same_level (h : (measure battery temperature s).supply.level = s.supply.level) :
    measure battery temperature s = takeMeasurement battery temperature s := by
  rw [(measure_spec battery temperature s).supply] at h
  rw [measure_eq]
  refine if_pos ?_
  rw [(takeMeasurement_spec battery temperature s).frame]
  exact h

/-- A change of level raises SUPPLY (R181). -/
theorem measure_raises (h : (measure battery temperature s).supply.level ≠ s.supply.level)
    (hready : s.port.ready = true) : (measure battery temperature s).port.attention.getLsbD 4 = true := by
  have ht := takeMeasurement_spec battery temperature s
  rw [measure_eq] at h ⊢
  generalize takeMeasurement battery temperature s = t at h ht
  by_cases hl : t.supply.level = s.supply.level
  · rw [if_pos hl] at h
    exact absurd hl h
  · rw [if_neg hl]
    exact (levelChanged_spec s.surveyStopped t).attention (by rw [ht.frame]; exact hready)

theorem exec_measurementExpiry (h : TimeUp s (some s.supply.timer)) :
    exec (.measurementExpiry battery temperature) s =
      .next (finish (measure battery temperature (setCodes battery temperature s))) :=
  congrArg Host.Outcome.next (if_pos h)

end

end Sys2Proof.Machine

namespace Sys2Proof.Proofs
open Sys2Proof.Machine

/-- Settles O55: the readings and the level by their rules, the block by the one rewrite, and a change of level by what its
neighbours leave alone. -/
theorem measurementsGiveReadingsAndLevel : Obligations.MeasurementsGiveReadingsAndLevel := by
  intro s battery temperature htime
  refine ⟨_, exec_measurementExpiry htime, ?_⟩
  have hu := measure_spec battery temperature (setCodes battery temperature s)
  have ht := takeMeasurement_spec battery temperature (setCodes battery temperature s)
  have hbelow := measure_below battery temperature (setCodes battery temperature s)
  have hsame := measure_of_same_level (s := setCodes battery temperature s) (battery := battery)
    (temperature := temperature)
  have hraise := measure_raises (s := setCodes battery temperature s) (battery := battery) (temperature := temperature)
  generalize measure battery temperature (setCodes battery temperature s) = u at hu hbelow hsame hraise
  generalize takeMeasurement battery temperature (setCodes battery temperature s) = t at ht hbelow hsame
  have hsupply := hu.supply
  rw [takeReadings_supply] at hsupply
  have hnum (k : Nat) (hk : k + 2 ≤ 42) : u.mem.num k 2 = t.mem.num k 2 :=
    Memory.num_two_congr fun x _ hx => hbelow x (by omega)
  obtain ⟨hfloor, hnext⟩ := batteryMv_bounds battery
  dsimp only
  rw [hsupply]
  refine ⟨hfloor, hnext, t10Of_quotient temperature, reserveThreshold_eq _ _, ?_, ?_, rfl, rfl, ?_, ?_, ?_, hu.env,
    hu.time, hu.needDue, fun hlevel => ?_, fun hlevel => hraise (by rw [hsupply]; exact hlevel)⟩
  · show nextLevel s.supply.level (batteryMv battery) _ = _
    cases s.supply.level <;> rfl
  · show s.time.uptime + BitVec.ofNat 32 (measureInterval s.supply.power) = _
    unfold measureInterval
    split <;> rfl
  · rw [hnum 8 (by decide), ht.shownBattery]
  · rw [hnum 12 (by decide), ht.shownVmin]
  · rw [hnum 0 (by decide), ht.revision]
    rfl
  · obtain rfl := hsame (by rw [hsupply]; exact hlevel)
    exact ⟨ht.lanes, ht.outside, by rw [ht.frame]; rfl⟩

end Sys2Proof.Proofs
end

section
namespace Sys2Proof.Machine

/-! ## What the events of the lanes leave alone

Of the operations that Sys2Proof/Laws/Inner.lean speaks of, those of the lane link's results and event words leave all of
Outer alone, the supply included. One lemma for each operation, in the order of the definitions. -/

section
variable (s : State) (n : Cp) (l : Lane)

/-! ### Reports on an attempt and on a scan -/

@[simp] theorem dialFailed_outer (cause : Nat) : (dialFailed n cause s).outer = s.outer := by simp [dialFailed]

@[simp] theorem directAttached_outer (a : AttemptStep) (r : Report) :
    (directAttached n l a r s).outer = s.outer := by simp [directAttached]

@[simp] theorem attachBad_outer (o : CallOutcome) : (attachBad n l o s).outer = s.outer := by simp [attachBad]

@[simp] theorem candAttached_outer (k : CandKey) (level : Int) (r : AttachReport) :
    (candAttached n l k level r s).outer = s.outer := by
  unfold candAttached
  split <;> simp

@[simp] theorem laneAttached_outer (a : AttemptStep) (level : Int) (r : AttachReport) :
    (laneAttached n l a level r s).outer = s.outer := by
  unfold laneAttached
  split <;> simp

@[simp] theorem attachFailed_outer (o : CallOutcome) : (attachFailed n o s).outer = s.outer := by simp [attachFailed]

@[simp] theorem attachDone_outer (result : Nat) (level : Int) (report : Option AttachReport) :
    (attachDone n l result level report s).outer = s.outer := by
  unfold attachDone
  (repeat' split) <;> simp

@[simp] theorem mergeEntry_outer (w : ScanNetwork) : (mergeEntry l s w).outer = s.outer := by
  unfold mergeEntry
  split <;> simp

@[simp] theorem mergeReport_outer (count : Nat) (data : List Byte) :
    (mergeReport l count data s).outer = s.outer := foldl_outer _ (by simp [mergeNext]) _ _

@[simp] theorem scanReport_outer (data : List Byte) : (scanReport l data s).outer = s.outer := by simp [scanReport]

@[simp] theorem scanDone_outer (tag result : Nat) : (scanDone l tag result s).outer = s.outer := by simp [scanDone]

/-! ### Results by requester -/

@[simp] theorem surveyResult_outer (code : ReqCode) (r : TxResult) : (surveyResult l code r s).outer = s.outer := by
  unfold surveyResult
  split <;> simp

@[simp] theorem ctxResult_outer (code : ReqCode) (r : TxResult) : (ctxResult n code r s).outer = s.outer := by
  unfold ctxResult
  cases code with
  | attach => unfold attachResult; cases r <;> simp
  | dial => unfold dialResult; cases r <;> simp
  | answer => unfold answerResult; cases r <;> simp
  | hangup => simp [hangupResult]
  | tones => unfold tonesResult; cases r <;> simp
  | probe | scanStart | scanAbort | scanRead | fetchEvent | powerDown => rfl

@[simp] theorem taggedWord_outer (kind : WordKind) (w : BitVec 32) (report : Option AttachReport) (holder : Owner) :
    (taggedWord l kind w report holder s).outer = s.outer := by
  unfold taggedWord alerting connectedWord callFailed
  (repeat' split) <;> simp

@[simp] theorem matchTag_outer (kind : WordKind) (w : BitVec 32) (report : Option AttachReport) :
    (matchTag l kind w report s).outer = s.outer := by
  unfold matchTag
  split <;> simp

@[simp] theorem incomingRing_outer : (incomingRing l s).outer = s.outer := by
  unfold incomingRing
  split <;> simp

@[simp] theorem serviceLostWord_outer : (serviceLostWord l s).outer = s.outer := by
  unfold serviceLostWord
  split <;> simp

@[simp] theorem ringWithdrawn_outer : (ringWithdrawn l s).outer = s.outer := by
  unfold ringWithdrawn
  split <;> simp

@[simp] theorem readyWord_outer : (readyWord l s).outer = s.outer := by
  unfold readyWord
  split <;> simp

@[simp] theorem takeWord_outer (w : BitVec 32) (report : Option AttachReport) :
    (takeWord l w report s).outer = s.outer := by
  unfold takeWord
  split <;> simp

@[simp] theorem managerResult_outer (code : ReqCode) (r : TxResult) : (managerResult l code r s).outer = s.outer := by
  unfold managerResult fetchResult
  split
  · cases r <;> simp
  all_goals simp

@[simp] theorem deliver_outer (t : Transaction) (r : TxResult) : (deliver t r s).outer = s.outer := by
  unfold deliver
  split <;> simp

/-! ### The end of a transaction -/

@[simp] theorem settleResult_outer (t : Transaction) (r : TxResult) : (settleResult t r s).outer = s.outer := by
  have hdiscard : (discardResult t r s).outer = s.outer := by
    unfold discardResult
    split <;> simp
  simp [settleResult, afterProbe, hdiscard]

@[simp] theorem endAnswered_outer (t : Transaction) (r : TxResult) : (endAnswered t r s).outer = s.outer := by
  simp [endAnswered, freeLink]

@[simp] theorem endUnanswered_outer (t : Transaction) : (endUnanswered t s).outer = s.outer := by
  simp [endUnanswered, freeLink]

/-! ### Identification -/

@[simp] theorem completeIdents_outer : (completeIdents l s).outer = s.outer := foldl_outer _ (by simp) _ _

@[simp] theorem identified_outer (id : BitVec 16) : (identified l id s).outer = s.outer := by simp [identified]

@[simp] theorem publishIdentity_outer : (publishIdentity l s).outer = s.outer := by simp [publishIdentity]

end

end Sys2Proof.Machine
end

section
namespace Sys2Proof.Machine

/-! ## What a command owns

Each command changes some of what only a few commands change (Inner) and none of the rest; and none but SET_POWER DORMANT
brings the part into DORMANT. -/

/-- What only a few commands change, as a command finds it (i), but for the fields that the command owns, which are as it
leaves them (j). -/
def ownedBy (c : Instr) (i j : Inner) : Inner :=
  match c with
  | .powerOn => { j with pending := i.pending, env := i.env }
  | .resetnFall => { i with env := j.env, txn := j.txn }
  | .resetnRise => { i with env := j.env, ptrA := j.ptrA, ptrB := j.ptrB, mask := j.mask }
  | .portReset => { i with ptrA := j.ptrA, ptrB := j.ptrB, mask := j.mask }
  | .ignoredRegisterWrite _ => { i with ptrA := j.ptrA, ptrB := j.ptrB, mask := j.mask }
  | .ptrWrite _ => { i with txn := j.txn, ptrA := j.ptrA, ptrB := j.ptrB }
  | .dataWrite _ => { i with ptrA := j.ptrA, ptrB := j.ptrB, host := j.host }
  | .dataRead => { i with ptrA := j.ptrA, ptrB := j.ptrB, hsdo := j.hsdo }
  | .attnMaskWrite _ => { i with mask := j.mask }
  | .setTime => { i with time := j.time }
  | .uptimeSecond => { i with time := j.time }
  | .loadMatrix => { i with config := j.config, loaded := j.loaded }
  | .fieldLineChange _ _ => { i with env := j.env }
  | .eventLineChange _ _ => { i with env := j.env }
  | .measurementExpiry _ _ => { i with env := j.env }
  | .registerSelectByte _ => { i with txn := j.txn }
  | .hostTransactionEnd => { i with txn := j.txn }
  | _ => i

section
variable {c : Instr} (i j : Inner)

theorem ownedBy_self (c : Instr) : ownedBy c i i = i := by
  cases c <;> rfl

theorem ownedBy_trans (c : Instr) (k : Inner) : ownedBy c (ownedBy c i j) k = ownedBy c i k := by
  cases c <;> rfl

theorem ownedBy_pending (c : Instr) : (ownedBy c i j).pending = i.pending := by
  cases c <;> rfl

theorem ownedBy_time (h : c ∉ [Instr.powerOn, .uptimeSecond, .setTime]) : (ownedBy c i j).time = i.time := by
  cases c with
  | powerOn | uptimeSecond | setTime => simp at h
  | _ => rfl

theorem ownedBy_host (hpower : c ≠ .powerOn) (hwrite : ∀ b, c ≠ .dataWrite b) : (ownedBy c i j).host = i.host := by
  cases c with
  | powerOn => exact absurd rfl hpower
  | dataWrite b => exact absurd rfl (hwrite b)
  | _ => rfl

theorem ownedBy_ptr (h : c ∉ [Instr.powerOn, .resetnRise, .portReset, .dataRead])
    (hwrite : ∀ b, c ≠ .ptrWrite b ∧ c ≠ .dataWrite b ∧ c ≠ .ignoredRegisterWrite b) :
    (ownedBy c i j).ptrA = i.ptrA ∧ (ownedBy c i j).ptrB = i.ptrB := by
  cases c with
  | powerOn | resetnRise | portReset | dataRead => simp at h
  | ptrWrite b | dataWrite b | ignoredRegisterWrite b => simpa using hwrite b
  | _ => exact ⟨rfl, rfl⟩

theorem ownedBy_mask (h : c ∉ [Instr.powerOn, .resetnRise, .portReset])
    (hwrite : ∀ b, c ≠ .attnMaskWrite b ∧ c ≠ .ignoredRegisterWrite b) : (ownedBy c i j).mask = i.mask := by
  cases c with
  | powerOn | resetnRise | portReset => simp at h
  | attnMaskWrite b | ignoredRegisterWrite b => simpa using hwrite b
  | _ => rfl

theorem ownedBy_config (h : c ∉ [Instr.powerOn, .loadMatrix]) :
    (ownedBy c i j).config = i.config ∧ (ownedBy c i j).loaded = i.loaded := by
  cases c with
  | powerOn | loadMatrix => simp at h
  | _ => exact ⟨rfl, rfl⟩

theorem ownedBy_env (h : c ∉ [Instr.resetnFall, .resetnRise]) (hline : ∀ k v, c ≠ .fieldLineChange k v)
    (hevent : ∀ l v, c ≠ .eventLineChange l v) (hcodes : ∀ v w, c ≠ .measurementExpiry v w) :
    (ownedBy c i j).env = i.env := by
  cases c with
  | resetnFall | resetnRise => simp at h
  | fieldLineChange k v => exact absurd rfl (hline k v)
  | eventLineChange l v => exact absurd rfl (hevent l v)
  | measurementExpiry v w => exact absurd rfl (hcodes v w)
  | _ => rfl

end

/-- A state that a command may come to: no more has changed than the command owns, and DORMANT is entered by SET_POWER
DORMANT alone (R183). -/
structure Within (c : Instr) (s t : State) : Prop where
  inner : t.outer.inner = ownedBy c s.outer.inner t.outer.inner
  awake : c ≠ .setPowerDormant → t.supply.power = .dormant → s.supply.power = .dormant

section
variable {c : Instr} {s t u : State}

theorem Within.trans (h : Within c s t) (k : Within c t u) : Within c s u where
  inner := by
    have hu := k.inner
    rw [h.inner, ownedBy_trans] at hu
    exact hu
  awake hc hu := h.awake hc (k.awake hc hu)

/-- What owns nothing is within every command. -/
theorem Within.of_inner (h : t.outer.inner = s.outer.inner)
    (k : c ≠ .setPowerDormant → t.supply.power = .dormant → s.supply.power = .dormant) : Within c s t :=
  ⟨by rw [h, ownedBy_self], k⟩

theorem Within.of_outer (h : t.outer = s.outer) : Within c s t :=
  .of_inner (congrArg Outer.inner h) fun _ ht => (congrArg (fun o => o.supply.power) h).symm.trans ht

theorem Within.refl (s : State) : Within c s s := .of_outer rfl

theorem Within.finish (h : Within c s t) : Within c s (finish t) := h.trans (.of_outer (finish_outer t))

/-- A command that leaves the part ACTIVE has not entered DORMANT. -/
theorem Within.of_active (h : t.outer.inner = s.outer.inner) (hp : t.supply.power = .active) : Within c s t :=
  .of_inner h fun _ ht => by rw [hp] at ht; cases ht

end

/-! ### The supply, the wake and the resets -/

section
variable {c : Instr} (s : State)

theorem measure_within (battery temperature : BitVec 16) : Within c s (measure battery temperature s) :=
  .of_inner (measure_inner battery temperature s) fun _ h => by
    rw [(measure_spec battery temperature s).supply] at h
    exact h

theorem changePower_within {p : PowerState} (hp : p ≠ .dormant) : Within c s (changePower p s) :=
  .of_inner (changePower_inner p s) fun _ h => by
    rw [(changePower_spec p s).supply] at h
    exact absurd h hp

/-- What leaves DORMANT cannot enter it (R184). -/
theorem leaveDormant_within : Within c s (leaveDormant s) := by
  by_cases h : s.supply.power = .dormant
  · exact .of_inner (leaveDormant_inner s) fun _ _ => h
  · rw [leaveDormant_of_awake h]
    exact .refl s

theorem wake_within : Within c s (wake s) := by
  by_cases h : s.supply.power = .dormant
  · exact .of_inner (wake_inner s) fun _ _ => h
  · rw [wake_idle s h]
    exact .refl s

theorem callTaken_within (n : Cp) : Within c s (callTaken n s) := by
  have hcall (t : State) : (callByState n t).outer = t.outer := by
    unfold callByState
    split <;> simp
  exact (wake_within s).trans (.of_outer (by simp [callTaken, hcall]))

theorem takeFound_within (n : Cp) : Within c s (takeFound s n) := by
  unfold takeFound
  split
  · exact Within.trans (.of_outer (publish_outer s)) (callTaken_within _ n)
  · exact .refl s

theorem takeAtLoad_within (calls : Duo Bool) (n : Cp) : Within c s (takeAtLoad calls s n) := by
  unfold takeAtLoad
  split
  · exact Within.trans (.of_outer (publish_outer s)) (callTaken_within _ n)
  · exact .refl s

theorem completeReset_within : Within c s (completeReset s) := by
  have hcompleted : (resetCompleted s).supply = s.supply := by rw [(resetCompleted_spec s).frame]
  refine .of_inner (completeReset_inner s) fun hc h => ?_
  unfold completeReset at h
  split at h
  · change (takeFound (takeFound (resetCompleted s) .p0) .p1).supply.power = .dormant at h
    rw [← hcompleted]
    exact (takeFound_within _ .p0).awake hc ((takeFound_within _ .p1).awake hc h)
  · exact h

theorem partReset_within (cause : ResetCause) (needRise : Bool) : Within c s (partReset cause needRise s) :=
  .of_active (partReset_inner cause needRise s) (partReset_spec cause needRise s).power

theorem powerOn_within : Within .powerOn s (powerOn s) := by
  have hu := powerOn_spec s
  generalize powerOn s = u at hu
  have hpending : u.pending = s.pending := by rw [hu.frame]; rfl
  have henv : u.env = s.env := by rw [hu.frame]; rfl
  refine ⟨?_, fun _ h => by rw [hu.power] at h; cases h⟩
  show u.outer.inner = { u.outer.inner with pending := s.pending, env := s.env }
  rw [← hpending, ← henv]
  rfl

theorem resetnRise_within : Within .resetnRise s (completeReset (resetMatrix (resetnReleased s))) := by
  have hreleased : Within .resetnRise s (resetnReleased s) := ⟨rfl, fun _ h => h⟩
  have hmatrix : Within .resetnRise (resetnReleased s) (resetMatrix (resetnReleased s)) :=
    .of_inner (resetMatrix_inner _) fun _ h => by rw [(resetMatrix_spec (resetnReleased s)).frame] at h; exact h
  exact hreleased.trans (hmatrix.trans (completeReset_within _))

/-- A byte of CONTROL makes a part reset, and with PORT_RESET set a port reset before it (R161, R162). -/
theorem controlByte_within (b : Byte) (h : ∀ t : State, b &&& portResetBit ≠ 0 → Within c t (portReset t)) :
    Within c s (controlByte b s) := by
  have hport : Within c s (if b &&& portResetBit ≠ 0 then portReset s else s) := by
    split
    · exact h s ‹_›
    · exact .refl s
  unfold controlByte
  split
  · dsimp only
    split
    · exact hport.trans (partReset_within _ .control false)
    · exact hport
  · exact .refl s

/-- A port reset is within a command that owns the registers of the port (R161). -/
theorem portReset_within (h : Within c s (resetPort s)) : Within c s (portReset s) :=
  h.trans (.of_outer ((flushStatus_outer _).trans (evalMatrix_outer _)))

end

/-! ### The host port -/

section
variable {c : Instr} (s : State)

theorem setCap_within (w : Window) (v : Option Byte) : Within c s (setCap w v s) := by
  cases w <;> exact .of_inner rfl fun _ h => h

theorem ptrWrite_within (b : Byte) (t : HostTxn) (w : Window) : Within (.ptrWrite b) s (takePtrByte w t b s) := by
  unfold takePtrByte
  split
  · exact ⟨rfl, fun _ h => h⟩
  · split
    · cases w <;> exact ⟨rfl, fun _ h => h⟩
    · exact .refl s

theorem dropWrite_within : Within c s (dropWrite s) := .of_outer (by simp [dropWrite])

/-- A write to a slot's state byte takes the part out of DORMANT, or writes that byte, or is dropped (R164, R174). -/
theorem writeSlotState_within (i : Fin 8) (b : Byte) : Within c s (writeSlotState i b s) := by
  unfold writeSlotState
  split
  · exact (wake_within s).trans (.of_outer (setSlotState_outer i slotPosted (wake s)))
  · split
    · exact .of_outer (setSlotState_outer i slotEmpty s)
    · split
      · exact .of_outer (setSlotState_outer i slotWithdraw s)
      · exact dropWrite_within s

/-- A data byte changes what the host owns where it is taken, and nothing of it elsewhere (9.2, R151). -/
theorem hostWrite_within (a : Nat) (b x : Byte) : Within (.dataWrite b) s (hostWrite a x s) := by
  have htaken : Within (.dataWrite b) s (s.withMem (s.mem.write a x)) := ⟨rfl, fun _ h => h⟩
  unfold hostWrite mediate
  split
  · split
    · exact htaken
    · exact dropWrite_within s
    · exact writeSlotState_within s _ x
    · unfold writeSlotBody
      split
      · exact htaken
      · exact dropWrite_within s
    · unfold writeRecordState
      split
      · exact .of_outer (releaseRecord_outer _ s)
      · exact dropWrite_within s
  · exact .refl s

theorem dataWrite_within (b : Byte) (w : Window) :
    Within (.dataWrite b) s (hostWrite (s.port.ptr w).toNat b (setCap w none (advance w s))) := by
  have hadvance : Within (.dataWrite b) s (advance w s) := by cases w <;> exact ⟨rfl, fun _ h => h⟩
  exact hadvance.trans ((setCap_within _ w none).trans (hostWrite_within _ _ b b))

end

/-! ### The orders -/

section
variable {c : Instr} {s t : State}

/-- An order is taken by what its row does, or its bad argument completes it (R166, R170). -/
theorem takeRow_within {row : OrderRow} {act : Fin 8 → State → State} (hact : ∀ i t, Within c t (act i t))
    (s : State) : Within c s (takeRow row act s) := by
  unfold takeRow
  split
  · exact .refl s
  · split
    · refine Within.finish ?_
      split
      · exact .of_outer (by simp)
      · exact Within.trans (.of_outer (takeOrder_outer _ s)) (hact _ _)
    · exact .refl s

theorem orderOk_within (i : Fin 8) (h : Within c s t) : Within c s (orderOk i t) :=
  h.trans (.of_outer (completeOrder_outer i .ok [] t))

theorem orderBusy_within (i : Fin 8) (s : State) : Within c s (orderBusy i s) :=
  .of_outer (completeOrder_outer i .busy [] s)

theorem placeCall_within (i : Fin 8) (s : State) : Within c s (placeCall i s) := by
  unfold placeCall
  dsimp only
  split
  · exact orderBusy_within i s
  · split
    · exact .of_outer (completeOrder_outer i .refusedSupply [] s)
    · exact orderOk_within i ((wake_within s).trans (.of_outer (takeRequest_outer _ _ _ _ _ (wake s))))

theorem cancelCall_within (i : Fin 8) (s : State) : Within c s (cancelCall i s) :=
  .of_outer (by simp [cancelCall, orderOk, orderBusy])

theorem continueCall_within (i : Fin 8) (s : State) : Within c s (continueCall i s) :=
  .of_outer (by simp [continueCall, orderOk, orderBusy])

theorem loadPlan_within (i : Fin 8) (s : State) : Within c s (loadPlan i s) := by
  refine .of_outer ?_
  unfold loadPlan
  (repeat' split) <;> simp

theorem takeImage_within (image : MatrixCfg) (s : State) : Within .loadMatrix s (takeImage image s) := by
  rw [(takeImage_spec image s).frame]
  refine ⟨?_, fun _ h => h⟩
  rfl

theorem loadMatrix_within (i : Fin 8) (s : State) : Within .loadMatrix s (loadMatrix i s) := by
  unfold loadMatrix
  split
  · exact .of_outer (completeOrder_outer _ _ _ s)
  · split
    · exact .of_outer (completeOrder_outer _ _ _ s)
    · exact orderOk_within i
        ((takeImage_within _ s).trans ((takeAtLoad_within _ _ .p0).trans (takeAtLoad_within _ _ .p1)))

theorem surveyNow_within (i : Fin 8) (s : State) : Within c s (surveyNow i s) := .of_outer (by simp [surveyNow])

theorem forgetCandidates_within (i : Fin 8) (s : State) : Within c s (forgetCandidates i s) :=
  orderOk_within i (.of_outer (removeLanes_outer _ s))

theorem laneReset_within (i : Fin 8) (s : State) : Within c s (laneReset i s) :=
  .of_outer (by simp [laneReset, orderBusy, takeFromSurvey, beginIdent])

theorem laneForceOff_within (i : Fin 8) (s : State) : Within c s (laneForceOff i s) :=
  .of_outer (by simp [laneForceOff, orderOk, orderBusy, takeFromSurvey])

theorem laneAuto_within (i : Fin 8) (s : State) : Within c s (laneAuto i s) :=
  .of_outer (by simp [laneAuto, orderOk])

/-- SET_POWER names ACTIVE or QUIET (R182). -/
theorem setPower_within (i : Fin 8) (s : State) : Within c s (setPower i s) := by
  have hp : (if orderArg s i 1 = 1 then PowerState.quiet else PowerState.active) ≠ .dormant := by split <;> decide
  unfold setPower
  generalize (if orderArg s i 1 = 1 then PowerState.quiet else PowerState.active) = p at hp
  refine orderOk_within i ?_
  split
  · exact .refl s
  · exact changePower_within s hp

theorem setPowerDormant_within (i : Fin 8) (s : State) : Within .setPowerDormant s (setPowerDormant i s) :=
  .of_inner (setPowerDormant_inner i s) fun h => absurd rfl h

theorem setTime_within (i : Fin 8) (s : State) : Within .setTime s (setTime i s) := by
  have htime : Within .setTime s (s.withTime { s.time with clock := timeArg s i }) := ⟨rfl, fun _ h => h⟩
  exact orderOk_within i (htime.trans (.of_outer (rewriteStatus_outer _)))

theorem clearCounts_within (i : Fin 8) (s : State) : Within c s (clearCounts i s) :=
  .of_outer (by simp [clearCounts, orderOk])

/-- An order is withdrawn by giving its wait up and completing it (R168). -/
theorem orderWithdrawn_within (i : Fin 8) (s : State) :
    Within c s (completeOrder i .withdrawn [] (giveUpWait i s)) := by
  have hgiven : (giveUpWait i s).outer = s.outer := by
    unfold giveUpWait
    split <;> simp
  exact .of_outer (by simp [hgiven])

end

/-! ### Field lines, trigger events and the expiries of timers -/

section
variable {c : Instr}

theorem takeLevel_within (i : Fin 12) (s : State) : Within c s (takeLevel i s) :=
  .of_inner (takeLevel_inner i s) fun _ h => h

theorem pinChanged_within (i : Fin 12) (s : State) : Within c s (pinChanged i s) := by
  refine .of_inner (pinChanged_inner i s) fun _ h => ?_
  unfold pinChanged at h
  revert h
  (repeat' split) <;> exact id

/-- An event is taken by its consumer, or waits for the ready flag (R127). -/
theorem takeEvent_within {f : TrigFn} {act : State → State} (hact : ∀ t, Within c t (act t)) (s : State) :
    Within c s (takeEvent f act s) := by
  unfold takeEvent
  split
  · have htaken : Within c s (unraise f s) := .of_inner (unraise_inner f s) fun _ h => h
    exact htaken.trans (hact _)
  · refine .of_inner (hold_inner f s) fun _ h => ?_
    unfold hold at h
    split at h <;> exact h

theorem onEvent_within {act : State → State} (hact : ∀ t, Within c t (act t)) (occurs : Bool) (s : State) :
    Within c s (onEvent occurs act s) := by
  unfold onEvent
  split
  · exact (hact s).finish
  · exact .refl s

theorem onChange_within {act : State → State} (hact : ∀ t, Within c t (act t)) (occurs : Bool) (s : State) :
    Within c s (onChange occurs act s) := by
  unfold onChange
  split
  · exact (hact s).trans (.of_outer (flushStatus_outer _))
  · exact .refl s

theorem modLamps_within (n : Cp) (f : Lamps → Lamps) (s : State) : Within c s (modLamps n f s) :=
  .of_outer (by simp [modLamps])

/-- With the fourth read of the last lane a reset may complete (R87, R162). -/
theorem takeRead_within (l : Lane) (i : Ident) (sense : BitVec 4) (s : State) : Within c s (takeRead l i sense s) := by
  unfold takeRead
  split
  · exact .of_outer (modLane_outer _ _ _)
  · exact .of_outer (modLane_outer _ _ _)
  · exact .of_outer (modLane_outer _ _ _)
  · exact Within.trans (.of_outer (by simp)) (completeReset_within _)

theorem tick_within (s : State) : Within c s (tick s) := by
  have htaken : Within c s (s.withTickDue false) := .of_inner rfl fun _ h => h
  unfold tick
  dsimp only
  split
  · exact htaken
  · exact htaken.trans (.of_outer (publishTable_outer _ _))

theorem changeEntries_within (p : Entry → Bool) (f : Entry → Entry) (s : State) : Within c s (changeEntries p f s) :=
  .of_outer (by simp [changeEntries])

end

/-! ### Every command -/

/-- An outcome that is a next state only if the command may come to that state. -/
def AnswersWithin (c : Instr) (s : State) (o : Host.Outcome State Fault Refusal) : Prop :=
  ∀ t, o = .next t → Within c s t

theorem answersWithin_next {c : Instr} {s t : State} (h : Within c s t) : AnswersWithin c s (.next t) := by
  intro u e
  obtain rfl := Host.Outcome.next.inj e
  exact h

section
variable (s : State)

theorem execResetnFall_within : AnswersWithin .resetnFall s (execResetnFall s) := by
  refine answersWithin_next ?_
  split
  · exact .refl s
  · have hheld : Within .resetnFall s (resetnHeld s) := ⟨rfl, fun _ h => h⟩
    exact hheld.trans (partReset_within (resetnHeld s) .pin true)

theorem execResetnRise_within : AnswersWithin .resetnRise s (execResetnRise s) := by
  refine answersWithin_next ?_
  split
  · exact (resetnRise_within s).finish
  · exact .refl s

/-- A byte of CONTROL with PORT_RESET clear makes no port reset (R161). -/
theorem execPartReset_within : AnswersWithin .partReset s (execPartReset s) :=
  answersWithin_next (controlByte_within s _ fun _ h => absurd (by decide) h)

theorem execPtrWrite_within (b : Byte) : AnswersWithin (.ptrWrite b) s (execPtrWrite b s) := by
  refine answersWithin_next ?_
  split
  · exact .refl s
  · split
    · exact .refl s
    · exact (setCap_within s _ none).trans (ptrWrite_within _ b _ _)

theorem execDataWrite_within (b : Byte) : AnswersWithin (.dataWrite b) s (execDataWrite b s) := by
  refine answersWithin_next ?_
  split
  · exact .refl s
  · exact dataWrite_within s b _

theorem execDataRead_within : AnswersWithin .dataRead s (execDataRead s) := by
  refine answersWithin_next ?_
  split
  · exact .refl s
  · next w _ => cases w <;> exact ⟨rfl, fun _ h => h⟩

theorem execAttentionWrite_within (b : Byte) : AnswersWithin (.attentionWrite b) s (execAttentionWrite b s) := by
  refine answersWithin_next ?_
  split
  · exact .of_outer ((flushStatus_outer _).trans (evalMatrix_outer _))
  · exact .refl s

theorem execAttnMaskWrite_within (b : Byte) : AnswersWithin (.attnMaskWrite b) s (execAttnMaskWrite b s) := by
  refine answersWithin_next ?_
  split
  · have hmask : Within (.attnMaskWrite b) s (modPort (fun p => { p with mask := b }) s) := ⟨rfl, fun _ h => h⟩
    exact hmask.trans (.of_outer ((flushStatus_outer _).trans (evalMatrix_outer _)))
  · exact .refl s

theorem execOrderWithdrawal_within (i : Fin 8) : AnswersWithin (.orderWithdrawal i) s (execOrderWithdrawal i s) := by
  refine answersWithin_next ?_
  split
  · exact (orderWithdrawn_within i s).finish
  · exact .refl s

theorem execFieldLineChange_within (i : Fin 12) (level : Bool) :
    AnswersWithin (.fieldLineChange i level) s (execFieldLineChange i level s) := by
  have henv (v : Env) : Within (.fieldLineChange i level) s (s.withEnv v) := ⟨rfl, fun _ h => h⟩
  have hpin : Within (.fieldLineChange i level) s (setPin i level s) := henv _
  exact answersWithin_next (hpin.trans ((pinChanged_within i _).trans (.of_outer (flushStatus_outer _))))

theorem execDebounceExpiry_within (i : Fin 12) : AnswersWithin (.debounceExpiry i) s (execDebounceExpiry i s) := by
  refine answersWithin_next ?_
  split
  · have hstopped : Within (.debounceExpiry i) s (setDebounce i none s) :=
      .of_inner (setDebounce_inner i none s) fun _ h => h
    exact hstopped.trans ((takeLevel_within i _).trans (.of_outer (flushStatus_outer _)))
  · exact .refl s

theorem execPacingExpiry_within (n : Cp) : AnswersWithin (.pacingExpiry n) s (execPacingExpiry n s) :=
  answersWithin_next (onEvent_within (fun t => .of_outer (by simp)) _ s)

theorem execResponseFrame_within (f : ResponseFrame) : AnswersWithin (.responseFrame f) s (execResponseFrame f s) := by
  refine answersWithin_next ?_
  split
  · exact .refl s
  · exact onEvent_within (fun t => .of_outer (endAnswered_outer t _ _)) _ s

theorem execResponseTimeout_within : AnswersWithin .responseTimeout s (execResponseTimeout s) := by
  refine answersWithin_next ?_
  split
  · exact .refl s
  · exact onEvent_within (fun t => .of_outer (endUnanswered_outer t _)) _ s

theorem execEventLineChange_within (l : Lane) (asserted : Bool) :
    AnswersWithin (.eventLineChange l asserted) s (execEventLineChange l asserted s) := by
  have hline : Within (.eventLineChange l asserted) s (s.withEnv { s.env with evt := s.env.evt.set l asserted }) :=
    ⟨rfl, fun _ h => h⟩
  refine answersWithin_next (Within.finish (hline.trans (.of_outer ?_)))
  split
  · exact modLane_outer _ _ _
  · rfl

theorem execRestartsReset_within (l : Lane) : AnswersWithin (.restartsReset l) s (execRestartsReset l s) := by
  refine answersWithin_next ?_
  split
  · exact .of_outer (by simp)
  · exact .refl s

theorem execIdentityRead_within (l : Lane) (sense : BitVec 4) :
    AnswersWithin (.identityRead l sense) s (execIdentityRead l sense s) := by
  refine answersWithin_next ?_
  split
  · exact .refl s
  · exact onEvent_within (takeRead_within l _ sense) _ s

theorem execMeasurementExpiry_within (battery temperature : BitVec 16) :
    AnswersWithin (.measurementExpiry battery temperature) s (execMeasurementExpiry battery temperature s) := by
  have hcodes : Within (.measurementExpiry battery temperature) s (setCodes battery temperature s) :=
    ⟨rfl, fun _ h => h⟩
  exact answersWithin_next (hcodes.trans (onEvent_within (fun t => measure_within t battery temperature) _ _))

/-- The counts of time rise; what is sampled and shown with them is none of what a command owns (R185). -/
theorem execUptimeSecond_within : AnswersWithin .uptimeSecond s (execUptimeSecond s) := by
  have hrise : Within .uptimeSecond s (riseSecond s) := ⟨rfl, fun _ h => h⟩
  have hsampled (t : State) : (sampleEvts t).outer = t.outer := foldl_outer _ (by simp [sampleEvt]) _ _
  exact answersWithin_next (hrise.trans (.of_outer (by simp [hsampled]))).finish

theorem execRegisterSelectByte_within (b : Byte) :
    AnswersWithin (.registerSelectByte b) s (execRegisterSelectByte b s) := by
  refine answersWithin_next ?_
  split
  · exact .refl s
  · exact ⟨rfl, fun _ h => h⟩

/-- Every command changes what it owns and no more, and none but SET_POWER DORMANT enters DORMANT. -/
theorem exec_within (c : Instr) : AnswersWithin c s (exec c s) := by
  cases c with
  | powerOn => exact answersWithin_next (powerOn_within s)
  | resetnFall => exact execResetnFall_within s
  | resetnRise => exact execResetnRise_within s
  | partReset => exact execPartReset_within s
  | portReset =>
    exact answersWithin_next (controlByte_within s _ fun t _ => portReset_within t ⟨rfl, fun _ h => h⟩)
  | ptrWrite b => exact execPtrWrite_within s b
  | dataWrite b => exact execDataWrite_within s b
  | dataRead => exact execDataRead_within s
  | attentionWrite b => exact execAttentionWrite_within s b
  | attnMaskWrite b => exact execAttnMaskWrite_within s b
  | ignoredRegisterWrite b =>
    exact answersWithin_next (controlByte_within s _ fun t _ => portReset_within t ⟨rfl, fun _ h => h⟩)
  | orderWithdrawal i => exact execOrderWithdrawal_within s i
  | setTime => exact answersWithin_next (takeRow_within setTime_within s)
  | placeCall => exact answersWithin_next (takeRow_within placeCall_within s)
  | cancelCall => exact answersWithin_next (takeRow_within cancelCall_within s)
  | continueCall => exact answersWithin_next (takeRow_within continueCall_within s)
  | loadPlan => exact answersWithin_next (takeRow_within loadPlan_within s)
  | loadMatrix => exact answersWithin_next (takeRow_within loadMatrix_within s)
  | surveyNow => exact answersWithin_next (takeRow_within surveyNow_within s)
  | forgetCandidates => exact answersWithin_next (takeRow_within forgetCandidates_within s)
  | laneControlReset => exact answersWithin_next (takeRow_within laneReset_within s)
  | laneControlForceOff => exact answersWithin_next (takeRow_within laneForceOff_within s)
  | laneControlAuto => exact answersWithin_next (takeRow_within laneAuto_within s)
  | setPower => exact answersWithin_next (takeRow_within setPower_within s)
  | setPowerDormant => exact answersWithin_next (takeRow_within setPowerDormant_within s)
  | clearCounts => exact answersWithin_next (takeRow_within clearCounts_within s)
  | unknownOrder => exact answersWithin_next (takeRow_within (fun i t => .of_outer (completeOrder_outer i _ _ t)) s)
  | fieldLineChange i level => exact execFieldLineChange_within s i level
  | debounceExpiry i => exact execDebounceExpiry_within s i
  | callCpn n => exact answersWithin_next (takeEvent_within (fun t => (callTaken_within t n).finish) s)
  | cancelCpn n => exact answersWithin_next (takeEvent_within (fun t => .of_outer (by simp)) s)
  | tamper => exact answersWithin_next (takeEvent_within (fun t => .of_outer (by simp)) s)
  | wake => exact answersWithin_next (takeEvent_within (fun t => (leaveDormant_within t).finish) s)
  | attachTimeout n => exact answersWithin_next (onEvent_within (fun t => .of_outer (by simp)) _ s)
  | alertTimeout n => exact answersWithin_next (onEvent_within (fun t => .of_outer (clearingOutcome_outer n _ t)) _ s)
  | ringTimeout n => exact answersWithin_next (onEvent_within (fun t => .of_outer (clearingOutcome_outer n _ t)) _ s)
  | pauseExpiry n => exact answersWithin_next (onEvent_within (fun t => .of_outer (endPauseStep_outer n t)) _ s)
  | retryPauseExpiry n => exact answersWithin_next (onEvent_within (fun t => .of_outer (endRetryPause_outer n t)) _ s)
  | surveyWaitExpiry n => exact answersWithin_next (onEvent_within (fun t => .of_outer (endSurveyWait_outer n t)) _ s)
  | locationDelayExpiry n => exact answersWithin_next (onEvent_within (fun t => .of_outer (by simp [endDelay])) _ s)
  | pacingExpiry n => exact execPacingExpiry_within s n
  | callbackWindowExpiry n => exact answersWithin_next (onEvent_within (fun t => .of_outer (endWatch_outer n t)) _ s)
  | flashPhase n => exact answersWithin_next (onChange_within (modLamps_within n _) _ s)
  | ringerCadence n => exact answersWithin_next (onChange_within (modLamps_within n _) _ s)
  | responseFrame f => exact execResponseFrame_within s f
  | responseTimeout => exact execResponseTimeout_within s
  | eventLineChange l asserted => exact execEventLineChange_within s l asserted
  | startTimeout l => exact answersWithin_next (onEvent_within (fun t => .of_outer (faultLane_outer l _ t)) _ s)
  | restartTimerExpiry l => exact answersWithin_next (onEvent_within (fun t => .of_outer (by simp)) _ s)
  | probeTimerExpiry l => exact answersWithin_next (onEvent_within (fun t => .of_outer (by simp)) _ s)
  | restartsReset l => exact execRestartsReset_within s l
  | identityRead l sense => exact execIdentityRead_within s l sense
  | surveyDue l => exact answersWithin_next (onEvent_within (fun t => .of_outer (joinList_outer l t)) _ s)
  | scanTimeout l => exact answersWithin_next (onEvent_within (fun t => .of_outer (by simp)) _ s)
  | scoreTick => exact answersWithin_next (onChange_within tick_within _ s)
  | barLift => exact answersWithin_next (onChange_within (fun t => changeEntries_within _ _ t) _ s)
  | failDecay => exact answersWithin_next (onChange_within (fun t => changeEntries_within _ _ t) _ s)
  | lifetimeRemoval => exact answersWithin_next (onChange_within (fun t => .of_outer (by simp)) _ s)
  | measurementExpiry battery temperature => exact execMeasurementExpiry_within s battery temperature
  | uptimeSecond => exact execUptimeSecond_within s
  | registerSelectByte b => exact execRegisterSelectByte_within s b
  | hostTransactionEnd => exact answersWithin_next ⟨rfl, fun _ h => h⟩

end

/-- The host's regions and the bodies of the order slots are the host's (9.2, R165). -/
theorem hostByte_of_hostOrBody {a : Nat} (h : 0x200 ≤ a ∧ a < 0x600 ∨ 0xA00 ≤ a ∧ a < 0x1000 ∨ 0x1C00 ≤ a
    ∨ (0x100 ≤ a ∧ a < 0x200 ∧ 1 ≤ a % 32 ∧ a % 32 < 16)) : hostByte a = true := by
  rcases h with h | h | h | ⟨hlow, hhigh, hfirst, hlast⟩
  · exact hostByte_of_host (.inl h)
  · exact hostByte_of_host (.inr (.inl h))
  · exact hostByte_of_host (.inr (.inr h))
  · rw [hostByte, placeOf_slot ⟨hlow, hhigh⟩, if_neg (by omega), if_pos hlast]

/-- A byte that the host owns stands where what the host owns does. -/
theorem read_of_host {s u : State} (h : u.outer.inner.host = s.outer.inner.host) {a : Nat} (ha : hostByte a = true) :
    u.mem.read a = s.mem.read a := by
  have hhost := congrFun h a
  change (if hostByte a then u.mem.read a else 0) = (if hostByte a then s.mem.read a else 0) at hhost
  rwa [if_pos ha, if_pos ha] at hhost

end Sys2Proof.Machine

namespace Sys2Proof.Proofs
open Sys2Proof.Machine

/-- Settles O57, by what each command owns: a field that it does not own is as it was. -/
theorem eachCommandKeepsWhatIsNotItsOwn : Obligations.EachCommandKeepsWhatIsNotItsOwn := by
  intro c s t e
  have hwithin := exec_within s c t e
  have hinner := hwithin.inner
  refine ⟨?_, fun hc => ?_, fun hpower hwrite a ha => ?_, fun hc hwrite => ?_, fun hc hwrite => ?_, fun hc => ?_,
    fun hc hline hevent hcodes => ?_, hwithin.awake⟩
  · exact (congrArg Inner.pending hinner).trans (ownedBy_pending _ _ c)
  · exact (congrArg Inner.time hinner).trans (ownedBy_time _ _ hc)
  · exact read_of_host ((congrArg Inner.host hinner).trans (ownedBy_host _ _ hpower hwrite)) (hostByte_of_hostOrBody ha)
  · obtain ⟨ha, hb⟩ := ownedBy_ptr s.outer.inner t.outer.inner hc hwrite
    exact ⟨(congrArg Inner.ptrA hinner).trans ha, (congrArg Inner.ptrB hinner).trans hb⟩
  · exact (congrArg Inner.mask hinner).trans (ownedBy_mask _ _ hc hwrite)
  · obtain ⟨hconfig, hloaded⟩ := ownedBy_config s.outer.inner t.outer.inner hc
    exact ⟨(congrArg Inner.config hinner).trans hconfig, (congrArg Inner.loaded hinner).trans hloaded⟩
  · exact (congrArg Inner.env hinner).trans (ownedBy_env _ _ hc hline hevent hcodes)

end Sys2Proof.Proofs
end

section
namespace Sys2Proof.Machine

/-! ## Every command and every step answers a next state -/

/-- A step with a command at the front of the queue takes that command. -/
theorem step_of_pending_cons {s : State} {c : Instr} {rest : List Instr} (h : s.pending = c :: rest) :
    step s = exec c (s.withPending rest) := by
  rw [step, h]

/-- On an empty queue the part is left to itself (log entry 1). -/
theorem step_of_pending_nil {s : State} (h : s.pending = []) : step s = idleStep s := by
  rw [step, h]

/-- The arm of each command names its meaning, and every meaning is the next state that a total function gives: a command
that finds its guard unmet has no effect (log entry 3), where it might have been refused. -/
theorem exec_answers (c : Instr) (s : State) : ∃ t, exec c s = .next t := by
  cases c <;> exact ⟨_, rfl⟩

theorem passMs_answers (s : State) : ∃ t, passMs s = .next t := by
  unfold passMs
  split
  · exact exec_answers .uptimeSecond s
  · exact ⟨_, rfl⟩

/-- The part left to itself finishes its rounds, takes its first due event or lets a millisecond pass. -/
theorem idleStep_answers (s : State) : ∃ t, idleStep s = .next t := by
  unfold idleStep
  split
  · exact ⟨finish s, rfl⟩
  · split
    · exact passMs_answers s
    · next c _ _ => exact exec_answers c s

theorem step_answers (s : State) : ∃ t, step s = .next t := by
  cases h : s.pending with
  | nil =>
    rw [step_of_pending_nil h]
    exact idleStep_answers s
  | cons c rest =>
    rw [step_of_pending_cons h]
    exact exec_answers c (s.withPending rest)

end Sys2Proof.Machine

namespace Sys2Proof.Proofs
open Sys2Proof.Machine

/-- Settles O2, by the command at the front of the queue, or by what the part does of its own accord on an empty one. -/
theorem everyStepAnswersANextState : Obligations.EveryStepAnswersANextState :=
  ⟨step_answers, exec_answers⟩

/-- Settles O1, by what a step does with a command at the front of the queue. -/
theorem stepRunsTheFrontCommand : Obligations.StepRunsTheFrontCommand :=
  fun _ _ _ h => step_of_pending_cons h

end Sys2Proof.Proofs
end
